-- ==== Sys2Proof/Word.lean ====
section
/-! DEFINITION. The word types of the block and their plainest arithmetic (R10, R11, R19). -/
namespace Sys2Proof

/-- A register word (R19). -/
abbrev Word := BitVec 32

/-- One byte of a memory window (R11). -/
abbrev Byte := BitVec 8

/-- The word with a given unsigned value, modulo 2^32. -/
def word (n : Nat) : Word := BitVec.ofNat 32 n

/-- A field value read as unsigned at `lo`, `w` bits wide (R27). -/
def bitsOf (n lo w : Nat) : Nat := n / 2 ^ lo % 2 ^ w

/-- `n` with the `w` bits from `lo` replaced by `v` (R27). -/
def putBits (n lo w v : Nat) : Nat :=
  n / 2 ^ (lo + w) * 2 ^ (lo + w) + v % 2 ^ w * 2 ^ lo + n % 2 ^ lo

/-- Two's complement reading of a `w`-bit value (R10). -/
def signedOf (w n : Nat) : Int :=
  if n % 2 ^ w < 2 ^ (w - 1) then (n % 2 ^ w : Nat) else (n % 2 ^ w : Nat) - (2 ^ w : Nat)

/-- The `w`-bit two's complement encoding of an integer (R10). -/
def encodeSigned (w : Nat) (z : Int) : Nat := (z % (2 ^ w : Nat)).toNat

/-- Addition that stays at `cap` (the saturating counters of R58 and the block chapters). -/
def satAdd (cap a b : Nat) : Nat := min cap (a + b)

end Sys2Proof
end

