-- ==== Sys2Proof/Config.lean ====
section
/-! DEFINITION. What the spec leaves open: free values, which no proof can see. -/
namespace Sys2Proof

/-- A value the spec calls random or leaves unstated: the debug nonce of R521 and the data a read
of an uncorrectable word delivers.  It has no body, so nothing can evaluate it (log 7). -/
opaque Config.freeValue : Nat → Word

/-- How far the Damper's conversion of a limit word to linear power misses it, within the 0.01 dB that R304 allows. -/
opaque Config.limitError : Nat → Nat

/-- Which way a result is rounded where the spec gives its width and not its rounding: by scale and value (log 116). -/
opaque Config.roundsUp : Nat → Int → Bool

/-- The taps of the filters that the spec gives by length, symmetry and response: by kind and place, in 2^-24 (log 116). -/
opaque Config.tap : Nat → Nat → Int

/-- Samples beside those a capture slot holds, by slot and index (log 127). -/
opaque Config.beside : Nat → Int → Int × Int

/-- The error of an NCO's phasor within the spurs of R186, by part and phase (log 116). -/
opaque Config.spur : Nat → Nat → Nat

/-- SHAKE256 with 512 bits of output, as the number its 64 bytes make, least significant byte first: a standard that R513
names and the model leaves uninterpreted (log 31). -/
opaque Config.shake256 : List Byte → Nat

/-- The ML-DSA-65 verification of FIPS 204 with an empty context: public key, 512-bit message, signature (R513; log 31). -/
opaque Config.mldsaVerify : List Byte → Nat → List Byte → Bool

end Sys2Proof
end

