-- ==== Sys2Proof/Args.lean ====
section
/-! DEFINITION. The kinds of operand a command carries, and the range checks over them. -/
namespace Sys2Proof

/-- A master identity that is ever issued (R44). -/
def isMaster (m : Nat) : Bool := m ≤ 22

/-- A carrier of a direction: `4d + c` (R16). -/
def isCarrier (i : Nat) : Bool := i < 8

/-- A narrow chain or wide channel: `8p + c` for DDC[p][c], `8p + 4 + c` for DUC[p][c], `512 + 8w` for WCHw. -/
def isChain (k : Nat) : Bool := k < 512 || (k < 640 && k % 8 == 0)

/-- A value that fits `w` bits (R27). -/
def fits (w v : Nat) : Bool := v < 2 ^ w

/-- An access width in bytes that a master can put on the fabric: any up to the longest request of PCIe (log 28); the target
says which it takes (R19). -/
def isWidth (n : Nat) : Bool := 1 ≤ n && n ≤ 4096

/-- A width that shared SRAM takes: a word or a pair of words, and the halves and bytes of one (log 28). -/
def isMemWidth (n : Nat) : Bool := n == 1 || n == 2 || n == 4 || n == 8

/-- The objects that change banks (R50, R282). -/
inductive XfObj where
  | beam (i : Nat)
  | dpd (p : Nat)
  | wch (w : Nat)
  | rxa (i : Nat)
  | txa (p : Nat)
  | lane (p : Nat)
  | grid (i : Nat)
deriving DecidableEq, Repr

/-- The object exists. -/
def XfObj.ok : XfObj → Bool
  | .beam i => i < 8
  | .dpd p => p < 64
  | .wch w => w < 16
  | .rxa i => i < 72
  | .txa p => p < 64
  | .lane p => p < 64
  | .grid i => i < 8

/-- The 64 samples of a PK window of the Damper (R302): 16-bit parts that saturate at ±32,767 (R232). -/
def isPkWindow (v : List (Int × Int)) : Bool :=
  v.length == 64 && v.all fun x => x.1.natAbs ≤ 32767 && x.2.natAbs ≤ 32767

/-- A register of the firmware limits of the Damper (R306): an address of the LIM, TMAP, FBAND or PGATE registers. -/
def isDmpLimit (a : Nat) : Bool :=
  a == 0x90100 || a == 0x90104 || a == 0x90108 || a == 0x90110 || a == 0x90114 ||
    (0x90120 ≤ a && a < 0x90160 && a % 4 == 0) || (0x91000 ≤ a && a < 0x92000 && a % 64 == 4)

/-- A GRID trim an alignment run fitted (R298, R300): carrier, element, the parts of GE and the slope that would bring the element
to unity, network and reference not yet taken out (R297). -/
structure GridTrim where
  carrier : Nat
  elem : Nat
  re : Int
  im : Int
  slope : Int
deriving DecidableEq, Repr

/-- What a calibration run fitted (R290, R298–R301), the branch data of R287 removed, before the range check of R293: gain in 1/64
dB and phase, worst SNR, delay in ps, slice trims, the parts of a LANE gain, GRID trims, the delay each path's chains want in
1/256 LANE sample, network and reference not yet taken out (R297), and the OBS corrections. -/
structure CalData where
  gain : Nat
  phase : Nat
  snr : Nat
  delay : Nat
  skt : List Int
  re : Int
  im : Int
  grid : List GridTrim
  chains : List (Nat × Nat)
  obs : List (Nat × Nat)
deriving DecidableEq, Repr

/-- The reported figures fit their fields; trims may lie outside theirs, which R293 checks. -/
def CalData.ok (c : CalData) : Bool :=
  fits 16 c.gain && fits 16 c.phase && fits 16 c.snr && fits 16 c.delay && c.skt.length == 9 && c.chains.length ≤ 64 &&
    (c.chains.all fun x => x.1 < 64 && fits 16 x.2) && c.grid.length ≤ 512 && (c.grid.all fun g => g.carrier < 8 && g.elem < 64) &&
    c.obs.length ≤ 8 && c.obs.all fun x => fits 32 x.1 && fits 16 x.2

/-- A received Ethernet frame (R320): its bytes from the destination address to the last before the FCS, whether the FCS is
correct, whether the FEC left no codeword uncorrected, and its timestamp at the balls in 2^-32 ns of TAI (R331). -/
structure RxFrame where
  bytes : List Byte
  fcs : Bool
  fec : Bool
  stamp : Nat
deriving DecidableEq, Repr

/-- The network-time range in 2^-32 ns (R361). -/
def timeSpan : Nat := 2 ^ 48 * 10 ^ 9 * 2 ^ 32

/-- The longest frame a port can see, and a timestamp of the counter. -/
def RxFrame.ok (f : RxFrame) : Bool := f.bytes.length ≤ 16384 && f.stamp < timeSpan

/-- The quantiser codes that a receive converter delivers for a LANE block, in stream order (R121, R122). -/
structure RxBlock where
  conv : Nat
  codes : List Int
deriving DecidableEq, Repr

/-- The converter exists, and the codes are 14-bit. -/
def RxBlock.ok (b : RxBlock) : Bool :=
  b.conv < 72 && b.codes.length ≤ 4096 && b.codes.all fun c => -8192 ≤ c && c ≤ 8191

/-- An error of the beamformer's hardware on one subcarrier of a carrier-symbol (R219, R220): the unit that errs (0–63 the rod of
that element, 64 the layer tree, 65 and 66 the units that form C_S and C_W), the layer whose product or output it hits in the
uplink, and how far off the result is in I and Q. -/
structure RodErr where
  sub : Nat
  unit : Nat
  layer : Nat
  re : Int
  im : Int
deriving DecidableEq, Repr

/-- The unit, layer and subcarrier exist, and the error fits the 48-bit sums. -/
def RodErr.ok (e : RodErr) : Bool :=
  e.sub < 3300 && e.unit < 67 && e.layer < 32 && e.re.natAbs < 2 ^ 47 && e.im.natAbs < 2 ^ 47

/-- A stretch of time-domain uplink samples (R344): wide channel or DDC, the source, carrier, frame number and first sample. -/
structure TdUl where
  wide : Bool
  src : Nat
  carrier : Nat
  fn : Nat
  start : Nat
deriving DecidableEq, Repr

/-- The source exists. -/
def TdUl.ok (t : TdUl) : Bool :=
  (if t.wide then t.src < 16 else t.src < 64) && t.carrier < 4 && t.fn < 1024 && fits 24 t.start

/-- The 64-bit memory word a check looks at (R401): by offset in shared SRAM, weight or capture memory; Ember retention's saved
time, a kept record or other words; a section of a downlink symbol; a record of an island buffer. -/
inductive EccWord where
  | sram (off : Nat)
  | weight (off : Nat)
  | capture (off : Nat)
  | emberTime (off : Nat)
  | emberKept (k off : Nat)
  | ember (off : Nat)
  | fdSection (c fn n id off : Nat)
  | tdSection (k off : Nat)
  | isle (i k off : Nat)
deriving DecidableEq, Repr

/-- The memory of R401 and the byte offset of the word. -/
def EccWord.mem : EccWord → Nat × Nat
  | .sram o => (0, o)
  | .weight o => (1, o)
  | .capture o => (2, o)
  | .emberTime o => (3, o)
  | .emberKept _ o => (3, o)
  | .ember o => (3, o)
  | .fdSection _ _ _ _ o => (4, o)
  | .tdSection _ o => (4, o)
  | .isle _ _ o => (5, o)

/-- Bytes of a memory of R401; nine island buffers of 64 records of 16 bytes. -/
def eccSize : Nat → Nat
  | 0 => 0x2000000
  | 1 => 0x3600000
  | 2 => 0x800000
  | 3 => 0x40000
  | 4 => 0x800000
  | _ => 9216

/-- A 64-bit word of its memory. -/
def EccWord.ok (w : EccWord) : Bool :=
  w.mem.2 % 8 == 0 && w.mem.2 < eccSize w.mem.1 &&
    match w with
    | .emberKept k _ => k < 256
    | .fdSection c fn n id _ => c < 4 && fn < 1024 && n < 560 && id < 4096
    | .isle i k _ => i < 9 && k < 64
    | _ => true

end Sys2Proof
end

