-- ==== Sys2Proof/Syntax.lean ====
section
/-! DEFINITION. The commands of the block: one constructor per row of the command table. -/
namespace Sys2Proof

/-- The commands that agents outside the block, its firmware or its own hardware instants send it. -/
inductive Instr where
  /-- R22: A write to a register that has no row of its own takes effect field by field under each field's access code. -/
  | registerWrite (m addr width v : Nat)
  /-- R59: A 32-bit read of the lowest word of a wide value returns it and copies the higher words into the master's read shadow. -/
  | wideReadLowWord (m addr : Nat)
  /-- R59: A 32-bit write to a non-highest word of a wide value is held in the master's write shadow. -/
  | wideWriteHeld (m addr v : Nat)
  /-- R63: A write into shared SRAM, weight memory or capture memory is checked against the private region, busy banks and the run-ahead bank. -/
  | memoryWindowWrite (m addr width v : Nat)
  /-- R25: Writing 1 to a block's LOCK bit freezes its RWL fields until the next reset. -/
  | lockBitSet (m block : Nat)
  /-- R62: Writing CLR in SYS_HOSTVIOL clears the refused-write count. -/
  | hostviolClr (m : Nat)
  /-- R51: A LANE block of 1,024 samples ends and block-boundary changes, fades and evaluations take place. -/
  | laneBlockBoundary (rxs : List RxBlock)
  /-- R51: A carrier's symbol starts and symbol-boundary changes, fades and ramps advance. -/
  | gridSymbolBoundary (i fn n : Nat)
  /-- R367: Network time reaches a 10 ms frame boundary and the frame marker takes effect. -/
  | frameBoundary (alignOff : Int)
  /-- R204: A 0.5 ms half-subframe boundary is reached and admitted OFDM and beam commits take effect. -/
  | halfSubframeBoundary (half : Nat)
  /-- R52: An XF_REQ write with GO submits a bank-change request that is refused, armed or held pending. -/
  | xfRequest (m : Nat) (o : XfObj) (mode fade target start : Nat)
  /-- R55: An XF_REQ write with TARGET 0xF clears the armed and pending requests. -/
  | xfCancel (m : Nat) (o : XfObj)
  /-- R505: A warm reset resets registers except retained fields while synthesisers and time keep running. -/
  | warmReset (cause : Nat)
  /-- R94: The six-step band search ends and the MDLL enters ACQUIRE. -/
  | mdllBandChosen (band : Nat)
  /-- R96: CTRL moves; below 52 or above 971 BAND_EDGE is raised, and it clears when CTRL is back between. -/
  | bandEdge (ctrl : Nat)
  /-- R110: Writing RELOCK starts a sampler outage with a fresh band search, where the state permits. -/
  | clkRelockWrite (m : Nat)
  /-- R110: Writing REALIGN starts a sampler outage in ALIGN_WAIT, where the state permits. -/
  | clkRealignWrite (m : Nat)
  /-- R101: A write that changes CONV_LP requests a converter-mode change at the next frame boundary. -/
  | convLpWrite (m v : Nat)
  /-- R110: The jump measurement over 16 edges completes and decides LOCKED, SLEWING or SEARCH. -/
  | jumpMeasured (jump : Int)
  /-- R103: A CLK_AUXDIV write changes an aux divider glitch-free or is refused with DIV_ERR. -/
  | clkAuxdivWrite (m i k n : Nat)
  /-- R104: A CLK_AUX_OFFSET write sets a new VCO offset target, clamped to ±100 ppm. -/
  | auxOffsetWrite (m target : Nat)
  /-- R107: A CLK_OUT write enables, disables or reconfigures a CLKOUT on a whole cycle or is refused. -/
  | clkOutWrite (m i v : Nat)
  /-- R112: Writing CLR in CLK_COUNT clears the outage and coast counts. -/
  | clkCountClr (m : Nat)
  /-- R133: Writing EN = 1 starts the receive converter in BIAS. -/
  | rxadcEnSet (m n : Nat)
  /-- R133: Writing EN = 0 takes the receive converter to OFF within 100 ns. -/
  | rxadcEnClear (m n : Nat)
  /-- R133: Bias settles, coefficients load and the converter enters CONVERGE. -/
  | rxadcBiasDone (n : Nat)
  /-- R117: A write that changes ZONE arms a zone change for the next LANE block, or is refused for 0. -/
  | rxadcZoneWrite (m n z : Nat)
  /-- R117: 1,536 LANE samples after a zone change SETTLING clears and samples are valid again. -/
  | zoneSettlingEnd (n : Nat)
  /-- R127: Writing ROT_EN stops rotation after the current hand-over or starts a new dwell. -/
  | rxadcRotEnWrite (m n v : Nat)
  /-- R119: A RXADC_DSA write arms an attenuation change, replaces one, or is refused for its AT. -/
  | rxadcDsaWrite (m n att mode block : Nat)
  /-- R120: The armed attenuation change applies and the first sample at it carries CHG. -/
  | dsaApply (n : Nat)
  /-- R121: A sample reaches a quantiser limit or saturates, counting OVR and raising the event. -/
  | sampleOverrange (n : Nat)
  /-- R126: Eight slice cycles after RETARGET the spare shadows its target and the estimator starts. -/
  | spareRetargetDone (n : Nat)
  /-- R126: After D slice cycles the spare takes over its target position and coefficients are written. -/
  | sliceHandover (n : Nat) (ofs gain skew bw : Int) (moved : Nat)
  /-- R125: The check window ends and the new spare starts the next dwell on the following position. -/
  | dwellStart (n : Nat)
  /-- R128: A conversion check fails and the faulty slice is substituted or retired. -/
  | sliceCheckFail (n slice : Nat)
  /-- R128: 64 consecutive overranged samples of one slice mark it faulty. -/
  | sliceStuck (n slice : Nat)
  /-- R128: In the check window |d| exceeds 64 LSB twice and output returns to the old slice. -/
  | handoverCheckFail (n : Nat)
  /-- R129: Eight slice cycles after retargeting the spare takes the faulty position. -/
  | sliceTakeover (n count : Nat)
  /-- R135: A RXADC_OBS_SEL write moves the coupler switch, holds it until capture end, or is refused. -/
  | obsSelWrite (m k sel : Nat)
  /-- R135: 384 LANE samples after a switch move the OBS output is valid again. -/
  | obsSettlingEnd (k : Nat)
  /-- R152: Writing EN = 1 starts the transmit converter in BIAS. -/
  | txdacEnSet (m p : Nat)
  /-- R152: Writing EN = 0 takes the transmit converter to OFF with output at zero. -/
  | txdacEnClear (m p : Nat)
  /-- R152: Trims load and the converter enters CAL. -/
  | txdacBiasDone (p : Nat)
  /-- R152: The first segment sweep completes and the converter enters RUN. -/
  | txdacCalDone (p : Nat)
  /-- R147: A write of TXDAC_NCO_HI checks the band and allow-list and arms an NCO change. -/
  | txdacNcoCommit (m p phase ftwHi : Nat)
  /-- R150: A TXDAC_MUTE write sets or withdraws a mute request and starts a ramp. -/
  | txdacMuteWrite (m p v : Nat)
  /-- R150: A raised-cosine mute ramp of 2^RAMP samples reaches g = 0 or g = 1. -/
  | muteRampDone (p : Nat)
  /-- R154: A segment's switch or tail-current monitor detects SWITCH, OPEN or SHORT. -/
  | segmentFault (p seg cause : Nat)
  /-- R154: Every 256 LANE cycles the sweep measures and retrims one segment. -/
  | segmentSweepStep (p trim : Nat) (drift : Bool)
  /-- R155: 24 TXCONV cycles after a fault the failed segment leaves the slot order. -/
  | segmentExclude (p : Nat)
  /-- R157: A guard window with EXCL_PEND set maps the lowest spare segment in. -/
  | guardWindow (p : Nat) (cp : Bool)
  /-- R157: Eight LANE samples later the swap completes, raising SUBST. -/
  | segmentSwapDone (p : Nat)
  /-- R156: 10 ms pass with EXCL_PEND set and no guard window, raising GW_WAIT. -/
  | gwWaitTimeout (p : Nat)
  /-- R155: A code above the saturation code is clipped and counted. -/
  | txCodeClip (p code : Nat)
  /-- R161: A CTR write arms a receive centre change for the next eligible block. -/
  | chRxctrWrite (m p ctr : Nat)
  /-- R171: A CH_CHG write with GO arms a channel commit or is refused for its AT. -/
  | chChgGo (m k mode block : Nat)
  /-- R184: The last marked sample of an invalid run passes and SETTLING clears. -/
  | invalidRunEnd (k : Nat)
  /-- R185: T_resp after a DUC change SETTLING clears. -/
  | ducSettlingEnd (p c : Nat)
  /-- R179: A 64-sample coarse power window ends and PWR and CP events update. -/
  | coarsePowerWindow (p j : Nat)
  /-- R180: A fine power window of 2^WIN samples ends and PWR and FP events update. -/
  | finePowerWindow (k : Nat)
  /-- R204: An OF_CHG write with GO submits staged OFDM settings for admission. -/
  | ofChgGo (m i mode half : Nat)
  /-- R228: A BM_CHG write with GO checks and arms the staged beam settings. -/
  | bmChgGo (m i mode half : Nat)
  /-- R213: A symbol's commit point is reached and its content is fixed. -/
  | symbolCommitPoint (i fn n : Nat)
  /-- R215: A downlink symbol within the lead meets its conditions and GRID computes it. -/
  | dlSymbolCompute (i fn n : Nat)
  /-- R222: A LOCATED residue retires the rod, maps a spare in and starts a replay. -/
  | rodLocatedFault (dir c sym : Nat) (errs : List RodErr)
  /-- R222: The replay of affected carrier-symbols completes and is checked. -/
  | beamReplayDone (dir c sym : Nat)
  /-- R223: An UNLOCATED residue replays the carrier-symbol or flags it invalid. -/
  | checkUnlocated (dir c sym : Nat) (errs : List RodErr)
  /-- R221: A shadowing spare rod disagrees while residues pass and is retired. -/
  | spareRodMismatch (dir rod c sym : Nat) (own : RodErr) (errs : List RodErr)
  /-- R226: A BM_ERAMP write with GO starts an element ramp in or out. -/
  | bmErampGo (m dir e target len : Nat)
  /-- R236: A change of DPD_PCFG.EN takes effect at the next LANE block without a fade. -/
  | dpdEnWrite (m p v : Nat)
  /-- R248: A Bead requests a stored capture of one path and input. -/
  | dpdCapreqGo (m k input path : Nat)
  /-- R248: Every INTERVAL µs the routine scheduler requests a capture of the next eligible path. -/
  | routineCaptureTick (k : Nat)
  /-- R49: An OBS grants the highest-priority eligible waiting capture. -/
  | obsCaptureGrant (k : Nat)
  /-- R242: A capture completes its samples and the OBS is released. -/
  | captureEnd (k : Nat)
  /-- R244: Loop gain, residual delay and metric are computed and the capture is stored or judged. -/
  | captureResultsReady (k : Nat)
  /-- R247: Writing 1 to FULLs releases a capture slot. -/
  | captureSlotRelease (m k slot : Nat)
  /-- R250: A DPD_TRIAL write with GO starts a trial or is refused. -/
  | dpdTrialGo (m p holdoff j fade rbFade : Nat)
  /-- R252: Writing ABORT rolls back or abandons the running trial. -/
  | dpdTrialAbort (m p : Nat)
  /-- R251: HOLDOFF LANE blocks after the fade the trial enters JUDGE. -/
  | trialHoldoffEnd (p : Nat)
  /-- R252: JUDGE or BASE lacks J OK captures within TIMEOUT ms. -/
  | trialTimeout (p : Nat)
  /-- R255: A Bead submits a solver job, which is queued or refused. -/
  | dpdSjobGo (m desc : Nat)
  /-- R255: A solver job finishes and writes its result and status. -/
  | solverJobDone
  /-- R258: Writing PATH_CFG.EN = 1 takes the path from OFF to OUT. -/
  | pathEnSet (m p : Nat)
  /-- R258: Writing EN = 0 runs the OFF program and takes the path to OFF. -/
  | pathEnClear (m p : Nat)
  /-- R258: OUT_GO ramps the elements out and takes the path to OUT. -/
  | pathOutGo (m p tmo len : Nat)
  /-- R272: RET_GO starts RETURN of a path in OUT. -/
  | pathRetGo (m p tmo len : Nat)
  /-- R265: FE_GO commits staged front-end programs or refuses them. -/
  | pathFeGo (m p tmo len : Nat)
  /-- R260: AIR_CFG GO checks the staged air pattern and arms it for a frame boundary. -/
  | airCfgGo (m mode scs period lead : Nat)
  /-- R268: At CHK_LEAD before burst start the path machine checks admission. -/
  | burstCheck (p b : Nat)
  /-- R266: 2^RAMP samples before burst start the mute request is withdrawn. -/
  | burstMuteWithdraw (p : Nat)
  /-- R264: A programmed ON or OFF instant of a front-end line is reached and the path state changes. -/
  | feProgramEdge (p line : Nat) (on : Bool)
  /-- R261: The last symbol of a burst ends, the mute is restored and the OFF program runs. -/
  | burstEnd (p : Nat)
  /-- R272: RET_TMO × 10 ms pass and RETURN ends in OUT with RET_FAIL. -/
  | returnTimeout (p : Nat)
  /-- R267: LNA_HOLD µs after the last CP_HI FE_LNA returns high. -/
  | lnaBypassEnd (p : Nat)
  /-- R276: A coexistence input level that has held for the deglitch time is accepted. -/
  | coexInputAccepted (k pin level : Nat)
  /-- R276: An input held high for MAXHOLD ms is marked STUCK and treated as low. -/
  | coexStuck (k pin : Nat)
  /-- R276: A rising edge held back by MIN_GAP is accepted at MIN_GAP. -/
  | coexDelayedEdge (k : Nat)
  /-- R274: In MASTER role REQ and PRIO rise REQ_LEAD µs before the next burst. -/
  | coexReqRise (k b : Nat)
  /-- R278: TUN_PUSH GO appends a tuner word to the bus FIFO or is refused. -/
  | tunPushGo (m k when m' : Nat)
  /-- R278: The head FIFO entry starts shifting when the bus is free or at its timed instant. -/
  | tunerWordStart (k : Nat)
  /-- R277: A tuner word with its strobe has been sent. -/
  | tunerWordDone (k : Nat)
  /-- R280: Every INTERVAL ms a mismatch measurement is requested for each eligible path. -/
  | mismatchInterval (p : Nat)
  /-- R279: A CPF and CPR capture pair completes and RL and phase of Γ are reported. -/
  | mismatchMeasured (p : Nat)
  /-- R281: PATH_SRCH GO starts a tuner search. -/
  | pathSrchGo (m p n cur settle : Nat)
  /-- R281: TSETTLE µs after a tuner entry lands a measurement is requested. -/
  | searchSettleEnd (p : Nat)
  /-- R291: CAL_RUN GO queues a calibration run or is refused. -/
  | calRunGo (m apply fade kind path : Nat)
  /-- R294: CAL_RUN ABORT ends the run in progress with ABORTED. -/
  | calRunAbort (m : Nat)
  /-- R289: A calibration window begins and a waiting run takes its measurement step. -/
  | calWindowStart
  /-- R293: The precondition segment ends and checks give pass, NOT_READY or NOISY. -/
  | calPreconditionDone
  /-- R290: The measurement segments of a step end and computation starts. -/
  | calMeasurementDone
  /-- R292: Computation ends and the run writes and applies its results or fails. -/
  | calRunEnd (c : CalData)
  /-- R285: CAL_APPLY GO submits one trim request per named group. -/
  | calApplyGo (m fade path at' : Nat)
  /-- R286: A Pilot register write takes effect while idle or is ignored with PILOT_BUSY. -/
  | pilotWrite (m reg value : Nat)
  /-- R312: A 64-sample PK window exceeds its limit and the path is forced to zero and held. -/
  | damperPkBreak (p : Nat) (v : List (Int × Int))
  /-- R309: A radiating sample more than 320 samples after an enforced grant went missing holds the path. -/
  | damperGrantBreak (p k : Nat)
  /-- R304: Every cause of a held path clears and cooldown starts. -/
  | damperCauseClear (p : Nat) (v : List (Int × Int))
  /-- R313: COOL_LEFT reaches 0 and the path is released to ARMED. -/
  | damperCooldownEnd (p : Nat)
  /-- R314: DMP_REARM re-arms a path in LOCKOUT into a full cooldown. -/
  | dmpRearmGo (m all path : Nat)
  /-- R310: An enabled TRIP input is accepted high and holds its mapped groups. -/
  | tripAcceptedHigh (k : Nat)
  /-- R310: A TRIP input is accepted low and its cause clears. -/
  | tripAcceptedLow (k : Nat)
  /-- R306: A firmware Damper limit write takes effect at its next evaluation. -/
  | damperLimitWrite (m addr value : Nat)
  /-- R317: A change of MODE, DUAL, FEC25 or FWD_EN takes both ports down and flushes the queues. -/
  | fhModeWrite (m fwd fec25 dual mode : Nat)
  /-- R318: Signal is detected on every lane of a DOWN port and alignment starts. -/
  | linkSignalDetect (q : Nat)
  /-- R318: CDR, deskew and FEC lock complete and the port enters ALIGN. -/
  | linkAligned (q : Nat)
  /-- R318: Lock held for 1 ms takes the port UP. -/
  | linkUp (q : Nat)
  /-- R318: Alignment lost for 100 µs returns an UP port to DOWN. -/
  | linkDown (q sig : Nat)
  /-- R319: Remote fault onset on a port raises RFAULT and stops egress. -/
  | linkRemoteFault (q : Nat)
  /-- R319: A 1 ms window of corrected symbols ends and FEC_DEGR is updated. -/
  | fecWindow (q symbols words : Nat)
  /-- R320: A whole received frame is checked, classed and consumed, forwarded or discarded. -/
  | frameReceived (q : Nat) (f : RxFrame)
  /-- R324: A ready egress frame is sent from the queue in class order. -/
  | frameTransmit (q : Nat)
  /-- R356: A symbol's FD_UL frames enter the egress queue at readiness or at the UL_DLY instant. -/
  | fdUlDepart (c fn n : Nat)
  /-- R356: A TD_UL section departs when its last sample is complete. -/
  | tdUlDepart (t : TdUl)
  /-- R358: An MGT_DL gap unfilled for 1 ms is skipped and held messages are delivered. -/
  | mgtReorderTimeout (flow : Nat)
  /-- R359: GST_MTX GO copies a body into an MGT_UL frame or is ignored. -/
  | mgtUlSend (m len tag : Nat)
  /-- R364: A commit of TIME_SET's highest word arms a SET for the next tick. -/
  | timeSetWrite (m ns sec : Nat)
  /-- R364: A commit of TIME_ADJ arms an adjustment for the next tick. -/
  | timeAdjWrite (m adj : Nat)
  /-- R362: A TIME_INC commit sets the increment from the next tick or is refused. -/
  | timeIncWrite (m inc : Nat)
  /-- R367: A FOFF write moves the frame grid or is refused. -/
  | timeFoffWrite (m foff : Nat)
  /-- R369: TIME_CTL VGO changes VSTATE or is refused. -/
  | timeVgo (m state : Nat)
  /-- R369: TIME_CTL KICK restarts the HOLD_TMO timer. -/
  | timeKick (m : Nat)
  /-- R373: TIME_PTX GO queues a PTP frame on the named ports or is ignored. -/
  | timePtxGo (m port op len : Nat)
  /-- R376: POP frees the receive slot RD and advances RD. -/
  | ptpRxPop (m : Nat)
  /-- R377: A selected TCAP edge is time-stamped into the capture FIFO. -/
  | tcapEdge (i : Nat) (rising : Bool)
  /-- R377: A Bead read of TCAP_ENTRY word 0 removes the head entry. -/
  | tcapEntryRead (m i : Nat)
  /-- R373: A Bead read of TIME_ETS word 0 removes the head egress entry. -/
  | timeEtsRead (m : Nat)
  /-- R378: A write of TP_START's highest word arms a pulse schedule or is refused. -/
  | tpStartArm (m k ns sec : Nat)
  /-- R378: A pulse instant arrives and the pulse is emitted, missed or suppressed. -/
  | pulseDue (k : Nat)
  /-- R378: WIDTH ns after its rising edge the pulse output falls. -/
  | pulseWidthEnd (k : Nat)
  /-- R384: EMB_CAL GO starts a crystal-period measurement or is refused. -/
  | embCalGo (m n : Nat)
  /-- R384: The 2^N-cycle window ends and EMB_PERIOD is written. -/
  | embCalDone (span : Nat)
  /-- R390: Every 1,024 island cycles the island local counter reloads from the time broadcast. -/
  | stampBroadcast (i : Nat)
  /-- R393: A record reaches the merger and is held or, if late, emitted at once. -/
  | tallyRecordArrive (i : Nat)
  /-- R394: Writing TLY_CFG.EN enables ring writing or is refused with CFG_ERR. -/
  | tallyEnWrite (m en : Nat)
  /-- R397: A commit of TLY_SWREC writes a firmware record. -/
  | tallySwrecCommit (m payload sev code : Nat)
  /-- R399: Writing 1 to FN_LATCH clears it and may release FAULT_N. -/
  | fnLatchClear (m : Nat)
  /-- R400: A Bead read of TLY_STAT returns MAXSEV, clears it and lowers the request. -/
  | tlyStatBeadRead (m : Nat)
  /-- R396: Writing KCLR empties the kept ring. -/
  | keptRingClear (m : Nat)
  /-- R401: The scrubber checks one memory word. -/
  | scrubCheck (w : EccWord) (result : Nat)
  /-- R411: A Bead watchdog expires and the Bead is restarted, stopped or the device warm-reset. -/
  | watchdogExpiry (n : Nat) (pc : Nat)
  /-- R410: Writing EN = 1 arms a Bead watchdog. -/
  | mbxWdogArm (m n period : Nat)
  /-- R410: Writing KICK restarts the watchdog period. -/
  | mbxWdogKick (m n : Nat)
  /-- R412: A binding write by Bead 0 changes a channel entry, flushing its FIFO, or is refused. -/
  | mbxBindWrite (m c en sender recv : Nat)
  /-- R415: A commit of MBX_RING's highest word enqueues a doorbell or is refused. -/
  | mbxRingCommit (m c offset tag : Nat)
  /-- R417: A receiver's read of MBX_POP removes the head doorbell. -/
  | mbxPopRead (m c width : Nat)
  /-- R421: SMBus command 0x10 sets the fabric address. -/
  | smbAddr (a : Nat)
  /-- R421: SMBus command 0x12 writes a word to ADDR and advances ADDR. -/
  | smbWrite (v : Nat)
  /-- R421: SMBus command 0x13 rings a channel. -/
  | smbRing (c tag offset : Nat)
  /-- R421: SMBus command 0x14 reads and, at STOP, removes the head of the lowest SMBus channel. -/
  | smbPop (complete : Bool)
  /-- R448: DMA_CCTL GO starts or resumes a channel. -/
  | dmaGo (m ch : Nat)
  /-- R460: DMA_CCTL STOP pauses or aborts a channel. -/
  | dmaStop (m ch : Nat)
  /-- R453: A fetched descriptor is checked and run, refused or found unowned. -/
  | dmaDescriptorFetched (ch : Nat)
  /-- R464: A burst's last element is written and the channel continues, waits or completes. -/
  | dmaBurstDone (ch issued : Nat)
  /-- R462: A DMA_QLVL write sets a queue level. -/
  | dmaQlvlWrite (m q level : Nat)
  /-- R462: A DMA_QADJ write adds a signed amount to a queue level. -/
  | dmaQadjWrite (m q delta : Nat)
  /-- R462: A queue configuration commit takes effect or is refused for LO ≥ HI. -/
  | dmaQcfgCommit (m q v : Nat)
  /-- R448: A channel configuration write outside IDLE, PAUSED and HALT is ignored. -/
  | dmaCcfgWrite (m ch v : Nat)
  /-- R448: A CDESC write sets the next descriptor in IDLE or HALT. -/
  | dmaCdescWrite (m ch addr : Nat)
  /-- R476: Writing RUN = 1 checks the entries and starts the converters. -/
  | monRunSet (m : Nat)
  /-- R481: Writing RUN = 0 ends conversions without storing results. -/
  | monRunClear (m : Nat)
  /-- R481: Writing LP changes each converter's mode at its next setup. -/
  | monLpWrite (m lp : Nat)
  /-- R481: A MON_TRIG write takes effect at once and restarts the timer phase. -/
  | monTrigWrite (m v : Nat)
  /-- R474: The setup ends and integration starts. -/
  | monSetupEnd (k : Nat)
  /-- R474: An integration ends and its result is computed. -/
  | monIntegrationEnd (k : Nat) (raw : Int)
  /-- R479: A result is stored with its timestamp and compared. -/
  | monResultStored (k : Nat)
  /-- R478: An entry's DELAY ends and the next entry begins. -/
  | monDelayEnd (k : Nat)
  /-- R477: An entry finding no trigger within 1 s is skipped. -/
  | monTriggerTimeout (k : Nat)
  /-- R472: An accepted MAINS_SYNC edge measures a period and may set VALID. -/
  | mainsEdge (cycles : Nat)
  /-- R483: A PWM period starts with the settings then held. -/
  | pwmPeriodStart (j : Nat)
  /-- R488: A PWR_VSET write sets the writer's own votes. -/
  | pwrVsetWrite (m n bits : Nat)
  /-- R488: A PWR_VCLR write clears the writer's own votes. -/
  | pwrVclrWrite (m n bits : Nat)
  /-- R489: A powering domain reaches power good and enters ON. -/
  | domainPowerGood (n : Nat)
  /-- R489: No power good 1 ms after switch-on leaves the domain OFF with DFAIL. -/
  | domainPowerupFail (n : Nat)
  /-- R489: HYST × 10 µs after the last vote the domain starts powering down. -/
  | domainHystExpiry (n : Nat)
  /-- R489: State is saved and the domain's switches open. -/
  | domainDownDone (n : Nat)
  /-- R492: A stalled access reaching TMO ends in a bus error. -/
  | accessStallTimeout (m : Nat)
  /-- R495: PWR_LCTL GO starts a performance-level change or is refused. -/
  | pwrLctlGo (m level : Nat)
  /-- R501: PWR_SCTL GO starts a sleep entry. -/
  | pwrSctlGo (m st : Nat)
  /-- R381: At a crystal edge the time values are saved and the entry proceeds. -/
  | sleepSaveDone (e : Nat)
  /-- R501: Clocks are gated or domains retained and SSTATE is set. -/
  | sleepEnterDone (e : Nat)
  /-- R500: An enabled wake source aborts an entry or starts a wake. -/
  | wakeEvent (src pin edge : Nat)
  /-- R382: At a crystal edge after wake the counter is loaded with the bridged time. -/
  | timeBridgeLoad (e : Nat)
  /-- R519: BOOT_CTL READY by Bead 0 sets STAGE = READY. -/
  | bootReadyWrite (m : Nat)
  /-- R519: BOOT_CTL FW by the ROM sets STAGE = FIRMWARE. -/
  | bootFwWrite (m : Nat)
  /-- R521: BOOT_DBG GO submits a debug token for authentication. -/
  | bootDbgGo (m offset : Nat)
  /-- R22: A register read that clears RC fields, or that is of the wrong width, unmapped, or aimed at a domain that is not ON, with the effects of its rules. -/
  | registerRead (m addr width : Nat)
  /-- R319: Remote fault is no longer received on an UP port; RFAULT clears and frames are sent again in place of idle. -/
  | remoteFaultEnd (q : Nat)
  /-- R519: A PCIe configuration request from the host completes against configuration space, including MSI-X function masking. -/
  | pcieConfigurationRequest (op : Nat)
  /-- R383: The XIN crystal stops between sleep entry and wake and the Ember counter continues from the 16 MHz RC. -/
  | xinStop (e : Nat)
  /-- R109: A 1 ms measurement of REFCLK against FHREFCLK ends, updating REF_ERR and VALID and raising REF_FREQ above 200 ppm. -/
  | refFreqMeasurement (err : Int)
  /-- R410: JTAG halts a Bead, which enters HALTED and has its watchdog paused. -/
  | jtagHalt (n : Nat)
  /-- R410: JTAG releases a halted Bead, which returns to RUN with its watchdog running again. -/
  | jtagResume (n : Nat)
  /-- R76: The G1 rails come within tolerance and the Ember detectors start holding the internal cold reset. -/
  | railG1Valid
  /-- R78: PORST_N goes low, muting every TX output and holding the device in cold reset. -/
  | porstNAssert
  /-- R511: PORST_N is released and Ember starts the boot, the synthesisers and the first sampler outage. -/
  | porstNRelease
  /-- R505: PERST_N resets the PCIe function alone and the link retrains. -/
  | perstNRelease
  /-- R79: A rail of G2–G5 stays below 92 % for 2 µs, muting TX and entering the internal cold reset. -/
  | railUndervoltage
  /-- R79: VDD_EMBER or VDD_MON drops for 2 µs, losing Ember retention and entering cold reset. -/
  | emberRailLoss
  /-- R79: Every rail has been within tolerance for 1 ms and the internal cold reset is released. -/
  | railResetRelease
  /-- R89: A sensor stays at 115 °C for 10 µs, tripping the Damper, holding every path and driving FAULT_N low. -/
  | thermalTrip
  /-- R89: Every sensor falls below 105 °C and the thermal trip re-arms. -/
  | thermalTripClear
  /-- R89: A sensor stays at 125 °C for 10 µs and the device enters an internal cold reset. -/
  | thermalReset
  /-- R89: Every sensor falls below 100 °C and the thermal cold reset is released. -/
  | thermalResetRelease
  /-- R95: 1,024 consecutive good reference periods set MDLL_LOCK. -/
  | mdllLockSet
  /-- R95: Four consecutive bad periods clear MDLL_LOCK and start a search and outage. -/
  | mdllUnlock
  /-- R97: MDLL_LOCK has not set 500 µs after SEARCH, raising LOCK_FAIL and restarting the search. -/
  | mdllLockFail
  /-- R98: The doubler's frequency comparison agrees over 256 reference periods and DBL_LOCK sets. -/
  | dblLockSet
  /-- R98: The doubler loses lock, raising DBL_UNLOCK and starting a transmit-only outage or returning to ACQUIRE. -/
  | dblUnlock
  /-- R99: At a frame boundary at least 10 µs into ALIGN_WAIT the dividers are reset together and the outage ends. -/
  | alignmentStrobe
  /-- R109: No REFCLK edge arrives within 1.5 periods, starting a coast or NOREF. -/
  | refMissingEdge
  /-- R109: 64 consecutive well-spaced REFCLK edges qualify the returning reference. -/
  | refQualifiedReturn
  /-- R110: 100 µs pass since the missing edge and the MDLL goes to NOREF with an outage. -/
  | coastExpired
  /-- R111: The slew residual falls within ±2 ps and the MDLL returns to LOCKED. -/
  | slewComplete
  /-- R528: 64 consecutive well-spaced FHREFCLK edges set FH_PRESENT. -/
  | fhrefclkQualified
  /-- R528: No FHREFCLK edge within 1.5 periods clears FH_PRESENT and the ports lose alignment. -/
  | fhrefclkMissing
  /-- R104: Each microsecond the VCO moves 0.05 ppm toward the offset target. -/
  | auxOffsetStep
  /-- R102: The auxiliary PLL locks and the islands move from the RC to the aux outputs. -/
  | auxLockSet
  /-- R105: The auxiliary PLL loses lock with reference present and holds its tuning word until reset. -/
  | auxUnlock
  /-- R198: The admission checks complete and OF_ADM shows the change admitted or refused. -/
  | ofdmAdmissionResult
  /-- R255: The solver starts the next queued job in arrival order. -/
  | solverJobStart
  /-- R291: The head of the calibration queue starts and holds its staged banks. -/
  | calRunStart
  /-- R294: No usable window within CW_TMO × 10 ms ends the run with NO_WINDOW. -/
  | calNoWindow
  /-- R296: Every BG_INTERVAL × 10 ms background runs are queued. -/
  | bgCalInterval
  /-- R311: TX_INHIBIT_N is accepted low and every path is forced to zero. -/
  | txInhibitLow
  /-- R311: TX_INHIBIT_N is accepted high and output resumes. -/
  | txInhibitHigh
  /-- R343: A consumed FD_DL message is checked and its sections accepted for their symbol. -/
  | fdDlMessage
  /-- R344: A consumed TD_DL message is checked and its sections accepted. -/
  | tdDlMessage
  /-- R353: A SCHED message sets expected section counts for its symbols. -/
  | schedMessage
  /-- R355: A WEIGHT message writes weight entries and may request a bank change. -/
  | weightMessage
  /-- R352: A RETRACT message removes named sections of a symbol. -/
  | retractMessage
  /-- R358: An MGT_DL message is held in order or written to the ring with a doorbell. -/
  | mgtDlMessage
  /-- R360: An ECHO_REQ is accepted and a response is prepared. -/
  | echoReqMessage
  /-- R360: Within 10 µs of the request the ECHO_RSP is queued. -/
  | echoRspReady
  /-- R365: At the next tick a SET, ADJ or FOFF change steps the counter and invalidates affected symbols. -/
  | timeStepApply
  /-- R369: No KICK for HOLD_TMO ms moves LOCKED to HOLDOVER. -/
  | holdTimeout
  /-- R393: At stamp + 2 µs a held record is emitted to the ring and kept ring. -/
  | tallyRecordEmit
  /-- R423: The SMBus address matches, waking the device and stretching SCL until FABRIC is ready. -/
  | smbAddressMatch
  /-- R423: FABRIC not ready 10 ms after the address releases SCL and NAKs the command. -/
  | smbStretchTimeout
  /-- R421: SMBus command 0x11 reads the word at ADDR and advances ADDR. -/
  | smbRead
  /-- R421: SMBus command 0x15 reads the master's last ring result. -/
  | smbStatus
  /-- R422: A won Alert Response read returns the address and releases SMB_ALERT_N. -/
  | smbAlertResponse
  /-- R433: Command 0x0100 returns identity, version and boot stage. -/
  | sysInfo
  /-- R433: Command 0x0101 returns level, clock, time, service and log status. -/
  | sysStatus
  /-- R433: Command 0x0102 replies OK and warm-resets 1 ms later. -/
  | sysReset
  /-- R434: Command 0x0200 enables or disables paths of a mask. -/
  | pathEnable
  /-- R434: Command 0x0201 starts RETURN on paths of a mask. -/
  | pathReturn
  /-- R434: Command 0x0202 takes paths of a mask out of service. -/
  | pathOut
  /-- R434: Command 0x0203 writes and commits front-end programs. -/
  | pathFe
  /-- R434: Command 0x0204 writes PATH_CFG fields except EN. -/
  | pathPolicy
  /-- R434: Command 0x0205 writes the tuner table and may start a search. -/
  | pathTune
  /-- R434: Command 0x0206 commits an air pattern. -/
  | pathAir
  /-- R434: Command 0x0207 writes a coexistence port's configuration. -/
  | pathCoex
  /-- R434: Command 0x0208 configures a tuner bus and may push a word. -/
  | pathTuner
  /-- R434: Command 0x0209 returns a path's status registers. -/
  | pathQuery
  /-- R437: Command 0x0300 checks, admits and arms one carrier configuration. -/
  | carrierSet
  /-- R435: Command 0x0301 disables a carrier at a half-subframe. -/
  | carrierStop
  /-- R435: Command 0x0302 returns a carrier's status. -/
  | carrierQuery
  /-- R438: Command 0x0400 copies weight groups into a bank. -/
  | beamLoad
  /-- R438: Command 0x0401 writes a beam bank-change request. -/
  | beamSwitch
  /-- R438: Command 0x0402 starts element ramps. -/
  | beamRamp
  /-- R438: Command 0x0403 returns beamformer fault and map state. -/
  | beamQuery
  /-- R439: Command 0x0500 writes DPD EN and RT_EN on a mask. -/
  | dpdEnable
  /-- R439: Command 0x0501 writes a predistortion bank. -/
  | dpdBank
  /-- R439: Command 0x0502 writes a predistortion bank-change request. -/
  | dpdSwitch
  /-- R439: Command 0x0503 writes trial settings and starts or aborts a trial. -/
  | dpdTrial
  /-- R439: Command 0x0504 starts or stops adaptation cycles. -/
  | dpdAdapt
  /-- R439: Command 0x0505 writes predistortion configuration registers. -/
  | dpdCfg
  /-- R439: Command 0x0506 returns predistortion status and clears its counts. -/
  | dpdQuery
  /-- R440: Command 0x0600 queues a calibration run. -/
  | calRun
  /-- R440: Command 0x0601 submits trim bank requests. -/
  | calApply
  /-- R440: Command 0x0602 writes calibration configuration registers. -/
  | calCfg
  /-- R440: Command 0x0603 writes the network branch table. -/
  | calNet
  /-- R440: Command 0x0604 returns calibration status and results. -/
  | calQuery
  /-- R441: Command 0x0700 returns the counter, state and uncertainty. -/
  | timeGet
  /-- R441: Command 0x0701 configures PTP and starts discipline. -/
  | timePtp
  /-- R441: Command 0x0702 sets the counter as a step. -/
  | timeSet
  /-- R441: Command 0x0703 writes FOFF and FN_ADD. -/
  | timeFrame
  /-- R441: Command 0x0704 configures and arms a pulse output. -/
  | timePulse
  /-- R441: Command 0x0705 configures a capture input and returns held entries. -/
  | timeCapture
  /-- R441: Command 0x0706 calibrates the crystal period. -/
  | timeEmbcal
  /-- R442: Command 0x0800 writes sequencer entries. -/
  | monTable
  /-- R442: Command 0x0801 starts or stops the sequencer. -/
  | monRun
  /-- R442: Command 0x0802 returns latest monitor results. -/
  | monRead
  /-- R442: Command 0x0803 sets a PWM output. -/
  | monPwm
  /-- R443: Command 0x0900 changes the performance level. -/
  | pwrLevel
  /-- R443: Command 0x0901 replies and starts a sleep entry 1 ms later. -/
  | pwrSleep
  /-- R443: Command 0x0902 sets or withdraws path-domain votes. -/
  | pwrVote
  /-- R443: Command 0x0903 returns level and vote state. -/
  | pwrQuery
  /-- R444: Command 0x0A00 configures the Tally ring. -/
  | logCfg
  /-- R444: Command 0x0A01 copies records and advances TLY_RD. -/
  | logRead
  /-- R444: Command 0x0A02 returns kept records. -/
  | logKeep
  /-- R444: Command 0x0A03 returns the fault record and clears FN_LATCH. -/
  | logAck
  /-- R444: Command 0x0A04 writes a firmware record. -/
  | logNote
  /-- R445: Command 0x0B00 returns a settings generation. -/
  | otpRead
  /-- R522: Command 0x0B01 authenticates a plan and burns the next generation. -/
  | otpBurn
  /-- R523: Command 0x0B02 burns a key slot's revocation bit. -/
  | otpRevoke
  /-- R446: Command 0x0C00 returns firmware versions. -/
  | fwStatus
  /-- R446: Command 0x0C01 verifies and stages a bundle. -/
  | fwLoad
  /-- R446: Command 0x0C02 writes the staged bundle to a flash slot. -/
  | fwFlash
  /-- R446: Command 0x0C03 starts the staged image. -/
  | fwActivate
  /-- R465: The arbiter grants a channel a burst start. -/
  | dmaBurstStart
  /-- R477: A TIMER trigger tick starts a waiting entry. -/
  | monTimerTick
  /-- R477: A delayed PWM edge starts a waiting entry. -/
  | monPwmTrigger
  /-- R473: No mains edge for 30 ms clears VALID and raises MAINS_LOST. -/
  | mainsTimeout
  /-- R495: The regulator reports the new voltage and the level change proceeds. -/
  | avsReport
  /-- R496: No regulator report within 1 ms raises AVS_FAIL. -/
  | avsTimeout
  /-- R501: Every DMA channel reaches PAUSED and the entry proceeds. -/
  | sleepDmaPaused
  /-- R501: Every Bead waits with no event and the entry proceeds. -/
  | sleepBeadsIdle
  /-- R501: The Tally island buffers are drained and the entry proceeds. -/
  | sleepFlushDone
  /-- R501: An entry step exceeds its bound and the entry aborts. -/
  | sleepStepTimeout
  /-- R503: The wake completes and WAKE is raised. -/
  | wakeComplete
  /-- R510: Ember selects a generation and loads ceilings, identity, options and bindings. -/
  | otpSettingsLoaded
  /-- R511: The ROM starts on Bead 0 and reads the flash slot headers. -/
  | bootRomStart
  /-- R515: A bundle body is loaded, its signature checked, and firmware started or the next slot tried. -/
  | bundleLoadDone
  /-- R517: Bead 0 checks and applies the configuration image records. -/
  | configImageApply
  /-- R505: PERST_N goes low and resets the PCIe function alone while the rest of the device runs on. -/
  | perstNAssert
  /-- R86: PCIe link training completes and the endpoint can take requests. -/
  | pcieLinkUp
deriving DecidableEq, Repr

end Sys2Proof
end

