-- ==== Sys2Proof/Decode.lean ====
section
/-! DEFINITION. The command a word spells.  No row of the command table gives bits, so no word spells one. -/
namespace Sys2Proof

/-- The command whose bits are `w`: the table gives no row any bits, so there is none. -/
def decodeTableWord (nbits w : Nat) : Option Instr :=
  match nbits, w with
  | _, _ => none

end Sys2Proof
end

