-- ==== Sys2Proof/Machine/Crc.lean ====
section
/-! DEFINITION. The running checks over bytes (R455). -/
namespace Sys2Proof.Machine

/-- One shift of a reflected CRC register. -/
def crcShift (poly c : Nat) : Nat := if c % 2 = 1 then (c / 2) ^^^ poly else c / 2

/-- One byte into a reflected CRC register. -/
def crcByte (poly c : Nat) (b : Byte) : Nat := (List.range 8).foldl (fun c _ => crcShift poly c) (c ^^^ b.toNat)

/-- Polynomial 0x04C11DB7 reflected. -/
def polyCrc32 : Nat := 0xEDB88320
/-- Polynomial 0x1EDC6F41 reflected. -/
def polyCrc32C : Nat := 0x82F63B78

/-- CRC-32 with CRC_INIT = 0xFFFF_FFFF over some bytes. -/
def crc32 (bs : List Byte) : Nat := bs.foldl (crcByte polyCrc32) 0xFFFFFFFF ^^^ 0xFFFFFFFF

end Sys2Proof.Machine
end

