-- ==== Sys2Proof/Machine/RegNames.lean ====
section
/-! DEFINITION. The registers of the block by name, and the shape of a row of the register map
(R20, R21, R22).  A value wider than 32 bits has one name per word, `_W0` the lowest (R59). -/
namespace Sys2Proof.Machine

/-- Every register the spec describes. -/
inductive RegName where
  | SYS_ID
  | SYS_WHOAMI
  | SYS_HOSTVIOL
  | SYS_HOSTVIOL_ADDR
  | SYS_FW_PRIV
  | SYS_LOCK
  | MBX_BIND
  | MBX_HOST
  | MBX_FW
  | MBX_RRES
  | MBX_RRES_CODE
  | MBX_SMB
  | MBX_HOSTPEND_LO
  | MBX_HOSTPEND_HI
  | MBX_LOCK
  | MBX_WDOG
  | MBX_BSTAT
  | MBX_BENTRY
  | MBX_EVENT
  | MBX_RING_W0
  | MBX_RING_W1
  | MBX_POP_W0
  | MBX_POP_W1
  | MBX_CHSTAT
  | MBX_CHIRQ
  | TLY_CFG
  | TLY_RING
  | TLY_WR
  | TLY_RD
  | TLY_STAT
  | TLY_CNT
  | TLY_LATE
  | TLY_LVL_THR
  | TLY_SEVCNT
  | TLY_EVENT
  | TLY_FAULT
  | TLY_FAULT_REC
  | TLY_KEEP_WR
  | TLY_ISL
  | TLY_ECC
  | TLY_ECC_ADDR
  | TLY_LOCK
  | TLY_SWREC_W0
  | TLY_SWREC_W1
  | TLY_KEEP
  | TIME_NOW_W0
  | TIME_NOW_W1
  | TIME_NOW_W2
  | TIME_NOW_W3
  | TIME_SET_W0
  | TIME_SET_W1
  | TIME_SET_W2
  | TIME_ADJ_W0
  | TIME_ADJ_W1
  | TIME_INC_W0
  | TIME_INC_W1
  | TIME_FRAME
  | TIME_CFG
  | TIME_STAT
  | TIME_CTL
  | TIME_UNC
  | TIME_UNCRATE
  | TIME_EVENT
  | TIME_SLEEP_W0
  | TIME_SLEEP_W1
  | EMB_PERIOD_W0
  | EMB_PERIOD_W1
  | EMB_CAL
  | TCAP_CFG
  | TCAP_ENTRY_W0
  | TCAP_ENTRY_W1
  | TCAP_ENTRY_W2
  | TCAP_STAT
  | TP_CFG
  | TP_START_W0
  | TP_START_W1
  | TP_START_W2
  | TP_PERIOD
  | TP_WIDTH
  | TP_STAT
  | TIME_PTX_ADDR
  | TIME_PTX
  | TIME_PTX_T2_W0
  | TIME_PTX_T2_W1
  | TIME_ETS_W0
  | TIME_ETS_W1
  | TIME_ETS_W2
  | TIME_ETS_W3
  | TIME_PSTAT
  | TIME_PRX_RD
  | TIME_PRX_BUF
  | PWR_LSTAT
  | PWR_LCTL
  | PWR_LRES
  | PWR_SCTL
  | PWR_SSTAT
  | PWR_WAKE_EN
  | PWR_WAKE_SRC
  | PWR_WAKE_AT_LO
  | PWR_WAKE_AT_HI
  | PWR_GPIO_WAKE
  | PWR_STALL
  | PWR_SYN
  | PWR_SYN_ADDR
  | PWR_EVENT
  | PWR_DCFG
  | PWR_DSTAT
  | PWR_VSET
  | PWR_VCLR
  | CLK_CFG
  | CLK_STAT
  | CLK_EVENT
  | CLK_COUNT
  | CLK_MDLL
  | CLK_JUMP
  | CLK_REFMON
  | CLK_ALIGN
  | CLK_AUX_OFFSET
  | CLK_AUX_APPLIED
  | CLK_AUXDIV
  | CLK_OUT
  | CLK_LOCK
  | BOOT_STAT
  | BOOT_RCAUSE
  | BOOT_OPT
  | BOOT_TRIM
  | BOOT_GEN
  | BOOT_KEY
  | BOOT_CTL
  | BOOT_EVENT
  | BOOT_DBG
  | BOOT_DBG_NONCE
  | BOOT_OTP_WIN
  | DMA_CFG
  | DMA_STAT
  | DMA_EVENT
  | DMA_LOCK
  | DMA_QCFG
  | DMA_QLO
  | DMA_QLVL
  | DMA_QADJ
  | DMA_CCFG
  | DMA_CCTL
  | DMA_CDESC
  | DMA_CSTAT
  | DMA_CPOS_SRC
  | DMA_CPOS_DST
  | DMA_CIDX
  | DMA_CIDX2
  | DMA_CCRC
  | DMA_CEVENT
  | DMA_CCNT
  | DMA_CNOTE
  | MON_CTL
  | MON_STAT
  | MON_PTR
  | MON_TRIG
  | MON_MAINS_CFG
  | MON_MAINS_STAT
  | MON_HYST
  | MON_EVENT
  | MON_THI_LO
  | MON_THI_HI
  | MON_TLO_LO
  | MON_TLO_HI
  | MON_CNT
  | MON_ENTRY
  | MON_RES_W0
  | MON_RES_W1
  | MON_RES_W2
  | MON_RES_W3
  | MON_PWM_CFG
  | MON_PWM_DUTY
  | DMP_CEIL0
  | DMP_CEIL1
  | DMP_CEIL2
  | DMP_CEIL_TMAP
  | DMP_OBAND_LO
  | DMP_OBAND_HI
  | DMP_LIM0
  | DMP_LIM1
  | DMP_LIM2
  | DMP_LIM_TMAP
  | DMP_FBAND_LO
  | DMP_FBAND_HI
  | DMP_STAT
  | DMP_EVENT
  | DMP_REARM
  | DMP_CNT
  | DMP_LOCK
  | DMP_PSTAT
  | DMP_PGATE
  | DMP_PPWR
  | DMP_PDUTY
  | AIR_CFG
  | AIR_STAT
  | AIR_PAT
  | COEX_CFG
  | COEX_TIME
  | COEX_STAT
  | COEX_EVENT
  | COEX_CNT
  | TUN_CFG
  | TUN_DATA
  | TUN_PUSH
  | TUN_STAT
  | FH_CFG
  | FH_UNIT
  | FH_CASC
  | FH_MAC_LO
  | FH_MAC_HI
  | FH_MACGRP_LO
  | FH_MACGRP_HI
  | FH_VLAN
  | FH_ULRES
  | FH_PTP
  | FH_LOCK
  | FH_PSTAT
  | FH_PEVENT
  | FH_TSCORR
  | FH_FECTHR
  | FH_CNT
  | GST_CFG
  | GST_UCFG
  | GST_TDCFG
  | GST_BUFSTAT
  | GST_MRING
  | GST_MPTR
  | GST_MTX_ADDR
  | GST_MTX
  | GST_EVENT
  | GST_CNT
  | GST_LOCK
  | GST_CCFG
  | GST_CCNT
  | PATH_CFG
  | PATH_FE_PA
  | PATH_FE_TR
  | PATH_FE_LNA
  | PATH_CTL
  | PATH_STAT
  | PATH_EVENT
  | PATH_WHY
  | PATH_MM
  | PATH_MMRES
  | PATH_SRCH
  | PATH_TUNTAB
  | RXADC_CFG
  | RXADC_DSA
  | RXADC_STAT
  | RXADC_MAP
  | RXADC_EVENT
  | RXADC_FAULT
  | RXADC_OVR_CNT
  | RXADC_SOFS
  | RXADC_SGAIN
  | RXADC_SSKEW
  | RXADC_SBW
  | RXADC_OBS_SEL
  | TXDAC_CFG
  | TXDAC_NCO_LO
  | TXDAC_NCO_HI
  | TXDAC_MUTE
  | TXDAC_STAT
  | TXDAC_EVENT
  | TXDAC_FAULT
  | TXDAC_SEGFAIL
  | TXDAC_CLIP_CNT
  | CH_CFG
  | CH_NCO_LO
  | CH_NCO_HI
  | CH_DELAY
  | CH_GAIN
  | CH_CHG
  | CH_STAT
  | CH_EVENT
  | CH_INVAL
  | CH_FPWR
  | CH_FTHR
  | CH_PCFG
  | CH_RXCTR
  | CH_CPWR
  | CH_CTHR
  | CH_PEVENT
  | CH_SUMCLIP
  | WCH_CFG
  | WCH_XF_REQ
  | WCH_XF_STAT
  | WCH_COEF
  | OF_CFG
  | OF_RB
  | OF_WIN
  | OF_PC_LO
  | OF_PC_HI
  | OF_MASK_LO
  | OF_MASK_HI
  | OF_CHG
  | OF_STAT
  | OF_EVENT
  | OF_CNT
  | OF_ADM
  | OF_ADM_CUR
  | BM_CCFG
  | BM_CTIME
  | BM_CHG
  | BM_CSTAT
  | BM_XF_REQ
  | BM_XF_STAT
  | BM_CEVENT
  | BM_CCNT
  | BM_DSTAT
  | BM_DEVENT
  | BM_FAULT
  | BM_FAULT_SYM
  | BM_RETIRED
  | BM_RODMAP
  | BM_ERAMP
  | DPD_PCFG
  | DPD_XF_REQ
  | DPD_XF_STAT
  | DPD_PSTAT
  | DPD_TRIAL
  | DPD_TRIAL_LIM
  | DPD_TRIAL_RES
  | DPD_TRIAL_MET
  | DPD_MASK
  | DPD_ALIGN
  | DPD_PEVENT
  | DPD_PCNT
  | DPD_BANK
  | DPD_OCFG
  | DPD_CAPREQ
  | DPD_CAPSTAT
  | DPD_SJOB
  | DPD_SSTAT
  | CAL_RXA_XF_REQ
  | CAL_RXA_XF_STAT
  | CAL_RXA_SKT
  | CAL_RXA_BUFG
  | CAL_TXA_XF_REQ
  | CAL_TXA_XF_STAT
  | CAL_TXA_DLY
  | CAL_TXA_IFS
  | CAL_TXSEG
  | CAL_LANE_XF_REQ
  | CAL_LANE_XF_STAT
  | CAL_LANE_RXG
  | CAL_LANE_TXG
  | CAL_GRID_XF_REQ
  | CAL_GRID_XF_STAT
  | CAL_GRID_GE
  | CAL_GRID_SLOPE
  | CAL_CFG
  | CAL_PRE
  | CAL_PILOT
  | CAL_PILOT_LO
  | CAL_PILOT_HI
  | CAL_RXINJ_LO
  | CAL_RXINJ_HI
  | CAL_RUN
  | CAL_RSTAT
  | CAL_RES_GP
  | CAL_RES_DS
  | CAL_ALIGN
  | CAL_TXREF
  | CAL_APPLY
  | CAL_APPLY_GRP
  | CAL_EVENT
  | CAL_CNT
  | CAL_NET
  | CAL_OBSCOR
  | CAL_OBSDLY
  /-- Instances of a firmware-only register that the spec says read 0 and ignore writes: RXADC_OBS_SEL of instances 0–63,
  CH_FTHR and CH_PCFG of the DUCs. -/
  | NOT_ACTING
deriving DecidableEq, Repr

/-- The access codes of R22. -/
inductive Acc where
  | rw | ro | w1c | w1s | rc | wo | rwl | rws
deriving DecidableEq, Repr

/-- Who may write a register (R21).  `fwBelow n`: firmware-only below instance `n`, host-writable from it on. -/
inductive Mark where
  | none | host | fw
  | fwBelow (n : Nat)
deriving DecidableEq, Repr

/-- One row of a register's table: bits `[hi:lo]`, access and reset value. -/
structure FieldRow where
  hi : Nat
  lo : Nat
  acc : Acc
  reset : Nat
deriving DecidableEq, Repr

/-- One level of repetition: `count` instances at `stride`, each adding `mult` to the instance number. -/
structure Dim where
  stride : Nat
  count : Nat
  mult : Nat
deriving DecidableEq, Repr

/-- One register of the map: its first address, its repetitions (`dims` count instances from `first`,
`subs` count the words or entries inside an instance), its mark, and its place in a wide value
(`wpos` of `wlen` words; `wlen = 0` for a plain register). -/
structure RegRow where
  name : RegName
  base : Nat
  dims : List Dim
  first : Nat
  subs : List Dim
  mark : Mark
  wpos : Nat
  wlen : Nat
  fields : List FieldRow
deriving DecidableEq, Repr

/-- A field of one register instance: address, lowest bit, width. -/
structure Loc where
  addr : Nat
  lo : Nat
  w : Nat
deriving DecidableEq, Repr

end Sys2Proof.Machine
end

