-- ==== Sys2Proof/Machine/Locs.lean ====
section
/-! DEFINITION. The address of every register (`A.NAME`) and every named field of it (`L.NAME_FIELD`), from the
spec's register tables.  `i` is the instance (for a channel `8p + c` of DDC[p][c], `8p + 4 + c` of DUC[p][c] and
`512 + 8w` of WCHw; for a carrier `4d + c`), `j` and `k` the word, slice or entry inside it. -/
namespace Sys2Proof.Machine

/-- Address of SYS_ID (R7). -/
def A.SYS_ID : Nat := 0x0
/-- SYS_ID.PART. -/
def L.SYS_ID_PART : Loc := ⟨A.SYS_ID, 16, 16⟩
/-- SYS_ID.REV_MAJOR. -/
def L.SYS_ID_REV_MAJOR : Loc := ⟨A.SYS_ID, 12, 4⟩
/-- SYS_ID.REV_MINOR. -/
def L.SYS_ID_REV_MINOR : Loc := ⟨A.SYS_ID, 8, 4⟩

/-- Address of SYS_WHOAMI (R64). -/
def A.SYS_WHOAMI : Nat := 0x4
/-- SYS_WHOAMI.MASTER. -/
def L.SYS_WHOAMI_MASTER : Loc := ⟨A.SYS_WHOAMI, 0, 5⟩

/-- Address of SYS_HOSTVIOL (R64). -/
def A.SYS_HOSTVIOL : Nat := 0x10
/-- SYS_HOSTVIOL.CLR. -/
def L.SYS_HOSTVIOL_CLR : Loc := ⟨A.SYS_HOSTVIOL, 31, 1⟩
/-- SYS_HOSTVIOL.LAST_MASTER. -/
def L.SYS_HOSTVIOL_LAST_MASTER : Loc := ⟨A.SYS_HOSTVIOL, 16, 5⟩
/-- SYS_HOSTVIOL.COUNT. -/
def L.SYS_HOSTVIOL_COUNT : Loc := ⟨A.SYS_HOSTVIOL, 0, 16⟩

/-- Address of SYS_HOSTVIOL_ADDR (R64). -/
def A.SYS_HOSTVIOL_ADDR : Nat := 0x14
/-- SYS_HOSTVIOL_ADDR.ADDR. -/
def L.SYS_HOSTVIOL_ADDR_ADDR : Loc := ⟨A.SYS_HOSTVIOL_ADDR, 0, 32⟩

/-- Address of SYS_FW_PRIV (R64). -/
def A.SYS_FW_PRIV : Nat := 0x20
/-- SYS_FW_PRIV.TOP. -/
def L.SYS_FW_PRIV_TOP : Loc := ⟨A.SYS_FW_PRIV, 12, 14⟩

/-- Address of SYS_LOCK (R64). -/
def A.SYS_LOCK : Nat := 0x24
/-- SYS_LOCK.LOCK. -/
def L.SYS_LOCK_LOCK : Loc := ⟨A.SYS_LOCK, 0, 1⟩

/-- Address of MBX_BIND (R423). -/
def A.MBX_BIND (i : Nat) : Nat := 0x10000 + 0x4 * i
/-- MBX_BIND.EN. -/
def L.MBX_BIND_EN (i : Nat) : Loc := ⟨(A.MBX_BIND i), 31, 1⟩
/-- MBX_BIND.SENDER. -/
def L.MBX_BIND_SENDER (i : Nat) : Loc := ⟨(A.MBX_BIND i), 8, 5⟩
/-- MBX_BIND.RECV. -/
def L.MBX_BIND_RECV (i : Nat) : Loc := ⟨(A.MBX_BIND i), 0, 5⟩

/-- Address of MBX_HOST (R423). -/
def A.MBX_HOST : Nat := 0x10100
/-- MBX_HOST.INTN_EN. -/
def L.MBX_HOST_INTN_EN : Loc := ⟨A.MBX_HOST, 31, 1⟩
/-- MBX_HOST.TALLY_HOST. -/
def L.MBX_HOST_TALLY_HOST : Loc := ⟨A.MBX_HOST, 30, 1⟩
/-- MBX_HOST.TALLY_VEC. -/
def L.MBX_HOST_TALLY_VEC : Loc := ⟨A.MBX_HOST, 16, 6⟩

/-- Address of MBX_FW (R423). -/
def A.MBX_FW : Nat := 0x10104
/-- MBX_FW.TALLY_BEAD. -/
def L.MBX_FW_TALLY_BEAD : Loc := ⟨A.MBX_FW, 0, 16⟩

/-- Address of MBX_RRES (R423). -/
def A.MBX_RRES : Nat := 0x10108
/-- MBX_RRES.RES. -/
def L.MBX_RRES_RES : Loc := ⟨A.MBX_RRES, 8, 3⟩
/-- MBX_RRES.CH. -/
def L.MBX_RRES_CH : Loc := ⟨A.MBX_RRES, 0, 6⟩

/-- Address of MBX_RRES_CODE (R423). -/
def A.MBX_RRES_CODE : Nat := 0x1010c
/-- MBX_RRES_CODE.RES. -/
def L.MBX_RRES_CODE_RES : Loc := ⟨A.MBX_RRES_CODE, 0, 3⟩

/-- Address of MBX_SMB (R423). -/
def A.MBX_SMB : Nat := 0x10110
/-- MBX_SMB.ADDR. -/
def L.MBX_SMB_ADDR : Loc := ⟨A.MBX_SMB, 0, 7⟩

/-- Address of MBX_HOSTPEND_LO (R423). -/
def A.MBX_HOSTPEND_LO : Nat := 0x10118
/-- MBX_HOSTPEND_LO.PEND_LO. -/
def L.MBX_HOSTPEND_LO_PEND_LO : Loc := ⟨A.MBX_HOSTPEND_LO, 0, 32⟩

/-- Address of MBX_HOSTPEND_HI (R423). -/
def A.MBX_HOSTPEND_HI : Nat := 0x1011c
/-- MBX_HOSTPEND_HI.PEND_HI. -/
def L.MBX_HOSTPEND_HI_PEND_HI : Loc := ⟨A.MBX_HOSTPEND_HI, 0, 32⟩

/-- Address of MBX_LOCK (R423). -/
def A.MBX_LOCK : Nat := 0x101fc
/-- MBX_LOCK.LOCK. -/
def L.MBX_LOCK_LOCK : Loc := ⟨A.MBX_LOCK, 0, 1⟩

/-- Address of MBX_WDOG (R423). -/
def A.MBX_WDOG (i : Nat) : Nat := 0x10200 + 0x10 * i
/-- MBX_WDOG.KICK. -/
def L.MBX_WDOG_KICK (i : Nat) : Loc := ⟨(A.MBX_WDOG i), 31, 1⟩
/-- MBX_WDOG.EN. -/
def L.MBX_WDOG_EN (i : Nat) : Loc := ⟨(A.MBX_WDOG i), 30, 1⟩
/-- MBX_WDOG.PERIOD. -/
def L.MBX_WDOG_PERIOD (i : Nat) : Loc := ⟨(A.MBX_WDOG i), 0, 8⟩

/-- Address of MBX_BSTAT (R423). -/
def A.MBX_BSTAT (i : Nat) : Nat := 0x10204 + 0x10 * i
/-- MBX_BSTAT.STATE. -/
def L.MBX_BSTAT_STATE (i : Nat) : Loc := ⟨(A.MBX_BSTAT i), 30, 2⟩
/-- MBX_BSTAT.RESTARTS. -/
def L.MBX_BSTAT_RESTARTS (i : Nat) : Loc := ⟨(A.MBX_BSTAT i), 8, 8⟩

/-- Address of MBX_BENTRY (R423). -/
def A.MBX_BENTRY (i : Nat) : Nat := 0x10208 + 0x10 * i
/-- MBX_BENTRY.ENTRY. -/
def L.MBX_BENTRY_ENTRY (i : Nat) : Loc := ⟨(A.MBX_BENTRY i), 0, 25⟩

/-- Address of MBX_EVENT (R423). -/
def A.MBX_EVENT (i : Nat) : Nat := 0x10400 + 0x4 * i
/-- MBX_EVENT.NO_CHAN. -/
def L.MBX_EVENT_NO_CHAN (i : Nat) : Loc := ⟨(A.MBX_EVENT i), 6, 1⟩
/-- MBX_EVENT.FLUSH. -/
def L.MBX_EVENT_FLUSH (i : Nat) : Loc := ⟨(A.MBX_EVENT i), 5, 1⟩
/-- MBX_EVENT.BIND_ERR. -/
def L.MBX_EVENT_BIND_ERR (i : Nat) : Loc := ⟨(A.MBX_EVENT i), 4, 1⟩
/-- MBX_EVENT.FULL. -/
def L.MBX_EVENT_FULL (i : Nat) : Loc := ⟨(A.MBX_EVENT i), 3, 1⟩
/-- MBX_EVENT.BAD_OFS. -/
def L.MBX_EVENT_BAD_OFS (i : Nat) : Loc := ⟨(A.MBX_EVENT i), 2, 1⟩
/-- MBX_EVENT.NOT_SENDER. -/
def L.MBX_EVENT_NOT_SENDER (i : Nat) : Loc := ⟨(A.MBX_EVENT i), 1, 1⟩
/-- MBX_EVENT.UNBOUND. -/
def L.MBX_EVENT_UNBOUND (i : Nat) : Loc := ⟨(A.MBX_EVENT i), 0, 1⟩

/-- Address of MBX_RING_W0 (R423). -/
def A.MBX_RING_W0 (i : Nat) : Nat := 0x11000 + 0x10 * i
/-- MBX_RING_W0.OFFSET. -/
def L.MBX_RING_W0_OFFSET (i : Nat) : Loc := ⟨(A.MBX_RING_W0 i), 0, 32⟩

/-- Address of MBX_RING_W1 (R423). -/
def A.MBX_RING_W1 (i : Nat) : Nat := 0x11004 + 0x10 * i
/-- MBX_RING_W1.TAG. -/
def L.MBX_RING_W1_TAG (i : Nat) : Loc := ⟨(A.MBX_RING_W1 i), 0, 8⟩

/-- Address of MBX_POP_W0 (R423). -/
def A.MBX_POP_W0 (i : Nat) : Nat := 0x11008 + 0x10 * i
/-- MBX_POP_W0.OFFSET. -/
def L.MBX_POP_W0_OFFSET (i : Nat) : Loc := ⟨(A.MBX_POP_W0 i), 0, 32⟩

/-- Address of MBX_POP_W1 (R423). -/
def A.MBX_POP_W1 (i : Nat) : Nat := 0x1100c + 0x10 * i
/-- MBX_POP_W1.VALID. -/
def L.MBX_POP_W1_VALID (i : Nat) : Loc := ⟨(A.MBX_POP_W1 i), 31, 1⟩
/-- MBX_POP_W1.SENDER. -/
def L.MBX_POP_W1_SENDER (i : Nat) : Loc := ⟨(A.MBX_POP_W1 i), 16, 5⟩
/-- MBX_POP_W1.TAG. -/
def L.MBX_POP_W1_TAG (i : Nat) : Loc := ⟨(A.MBX_POP_W1 i), 0, 8⟩

/-- Address of MBX_CHSTAT (R423). -/
def A.MBX_CHSTAT (i : Nat) : Nat := 0x12000 + 0x4 * i
/-- MBX_CHSTAT.FULL. -/
def L.MBX_CHSTAT_FULL (i : Nat) : Loc := ⟨(A.MBX_CHSTAT i), 31, 1⟩
/-- MBX_CHSTAT.LEVEL. -/
def L.MBX_CHSTAT_LEVEL (i : Nat) : Loc := ⟨(A.MBX_CHSTAT i), 16, 5⟩
/-- MBX_CHSTAT.FLUSHED. -/
def L.MBX_CHSTAT_FLUSHED (i : Nat) : Loc := ⟨(A.MBX_CHSTAT i), 8, 8⟩
/-- MBX_CHSTAT.REFUSED. -/
def L.MBX_CHSTAT_REFUSED (i : Nat) : Loc := ⟨(A.MBX_CHSTAT i), 0, 8⟩

/-- Address of MBX_CHIRQ (R423). -/
def A.MBX_CHIRQ (i : Nat) : Nat := 0x12100 + 0x4 * i
/-- MBX_CHIRQ.IE. -/
def L.MBX_CHIRQ_IE (i : Nat) : Loc := ⟨(A.MBX_CHIRQ i), 31, 1⟩
/-- MBX_CHIRQ.VEC. -/
def L.MBX_CHIRQ_VEC (i : Nat) : Loc := ⟨(A.MBX_CHIRQ i), 0, 6⟩

/-- Address of TLY_CFG (R408). -/
def A.TLY_CFG : Nat := 0x20000
/-- TLY_CFG.EN. -/
def L.TLY_CFG_EN : Loc := ⟨A.TLY_CFG, 31, 1⟩
/-- TLY_CFG.MODE. -/
def L.TLY_CFG_MODE : Loc := ⟨A.TLY_CFG, 30, 1⟩
/-- TLY_CFG.FN_SEV. -/
def L.TLY_CFG_FN_SEV : Loc := ⟨A.TLY_CFG, 24, 3⟩
/-- TLY_CFG.IRQ_SEV. -/
def L.TLY_CFG_IRQ_SEV : Loc := ⟨A.TLY_CFG, 20, 3⟩
/-- TLY_CFG.KEEP_SEV. -/
def L.TLY_CFG_KEEP_SEV : Loc := ⟨A.TLY_CFG, 16, 3⟩
/-- TLY_CFG.ESC_N. -/
def L.TLY_CFG_ESC_N : Loc := ⟨A.TLY_CFG, 8, 8⟩

/-- Address of TLY_RING (R408). -/
def A.TLY_RING : Nat := 0x20004
/-- TLY_RING.SZ. -/
def L.TLY_RING_SZ : Loc := ⟨A.TLY_RING, 27, 5⟩
/-- TLY_RING.BASE. -/
def L.TLY_RING_BASE : Loc := ⟨A.TLY_RING, 0, 13⟩

/-- Address of TLY_WR (R408). -/
def A.TLY_WR : Nat := 0x20008
/-- TLY_WR.WR. -/
def L.TLY_WR_WR : Loc := ⟨A.TLY_WR, 0, 20⟩

/-- Address of TLY_RD (R408). -/
def A.TLY_RD : Nat := 0x2000c
/-- TLY_RD.RD. -/
def L.TLY_RD_RD : Loc := ⟨A.TLY_RD, 0, 20⟩

/-- Address of TLY_STAT (R408). -/
def A.TLY_STAT : Nat := 0x20010
/-- TLY_STAT.MAXSEV. -/
def L.TLY_STAT_MAXSEV : Loc := ⟨A.TLY_STAT, 29, 3⟩
/-- TLY_STAT.FULL. -/
def L.TLY_STAT_FULL : Loc := ⟨A.TLY_STAT, 28, 1⟩
/-- TLY_STAT.LEVEL. -/
def L.TLY_STAT_LEVEL : Loc := ⟨A.TLY_STAT, 0, 20⟩

/-- Address of TLY_CNT (R408). -/
def A.TLY_CNT : Nat := 0x20014
/-- TLY_CNT.OVWR. -/
def L.TLY_CNT_OVWR : Loc := ⟨A.TLY_CNT, 16, 16⟩
/-- TLY_CNT.DROP. -/
def L.TLY_CNT_DROP : Loc := ⟨A.TLY_CNT, 0, 16⟩

/-- Address of TLY_LATE (R408). -/
def A.TLY_LATE : Nat := 0x20018
/-- TLY_LATE.LATE. -/
def L.TLY_LATE_LATE : Loc := ⟨A.TLY_LATE, 16, 16⟩
/-- TLY_LATE.LOST. -/
def L.TLY_LATE_LOST : Loc := ⟨A.TLY_LATE, 0, 16⟩

/-- Address of TLY_LVL_THR (R408). -/
def A.TLY_LVL_THR : Nat := 0x2001c
/-- TLY_LVL_THR.LVL_THR. -/
def L.TLY_LVL_THR_LVL_THR : Loc := ⟨A.TLY_LVL_THR, 0, 20⟩

/-- Address of TLY_SEVCNT (R408). -/
def A.TLY_SEVCNT (i : Nat) : Nat := 0x20020 + 0x4 * i
/-- TLY_SEVCNT.COUNT. -/
def L.TLY_SEVCNT_COUNT (i : Nat) : Loc := ⟨(A.TLY_SEVCNT i), 0, 32⟩

/-- Address of TLY_EVENT (R408). -/
def A.TLY_EVENT : Nat := 0x20040
/-- TLY_EVENT.LOST. -/
def L.TLY_EVENT_LOST : Loc := ⟨A.TLY_EVENT, 2, 1⟩
/-- TLY_EVENT.FULL. -/
def L.TLY_EVENT_FULL : Loc := ⟨A.TLY_EVENT, 1, 1⟩
/-- TLY_EVENT.CFG_ERR. -/
def L.TLY_EVENT_CFG_ERR : Loc := ⟨A.TLY_EVENT, 0, 1⟩

/-- Address of TLY_FAULT (R408). -/
def A.TLY_FAULT : Nat := 0x20044
/-- TLY_FAULT.FN_LATCH. -/
def L.TLY_FAULT_FN_LATCH : Loc := ⟨A.TLY_FAULT, 31, 1⟩
/-- TLY_FAULT.THERM. -/
def L.TLY_FAULT_THERM : Loc := ⟨A.TLY_FAULT, 30, 1⟩
/-- TLY_FAULT.PIN. -/
def L.TLY_FAULT_PIN : Loc := ⟨A.TLY_FAULT, 29, 1⟩

/-- Address of TLY_FAULT_REC (R408). -/
def A.TLY_FAULT_REC (i : Nat) : Nat := 0x20050 + 0x4 * i
/-- TLY_FAULT_REC.WORD. -/
def L.TLY_FAULT_REC_WORD (i : Nat) : Loc := ⟨(A.TLY_FAULT_REC i), 0, 32⟩

/-- Address of TLY_KEEP_WR (R408). -/
def A.TLY_KEEP_WR : Nat := 0x20060
/-- TLY_KEEP_WR.KCLR. -/
def L.TLY_KEEP_WR_KCLR : Loc := ⟨A.TLY_KEEP_WR, 31, 1⟩
/-- TLY_KEEP_WR.WR. -/
def L.TLY_KEEP_WR_WR : Loc := ⟨A.TLY_KEEP_WR, 0, 8⟩

/-- Address of TLY_ISL (R408). -/
def A.TLY_ISL (i : Nat) : Nat := 0x20080 + 0x4 * i
/-- TLY_ISL.DROP. -/
def L.TLY_ISL_DROP (i : Nat) : Loc := ⟨(A.TLY_ISL i), 16, 16⟩
/-- TLY_ISL.LEVEL. -/
def L.TLY_ISL_LEVEL (i : Nat) : Loc := ⟨(A.TLY_ISL i), 0, 7⟩

/-- Address of TLY_ECC (R408). -/
def A.TLY_ECC (i : Nat) : Nat := 0x200c0 + 0x8 * i
/-- TLY_ECC.CORR. -/
def L.TLY_ECC_CORR (i : Nat) : Loc := ⟨(A.TLY_ECC i), 16, 16⟩
/-- TLY_ECC.UNCORR. -/
def L.TLY_ECC_UNCORR (i : Nat) : Loc := ⟨(A.TLY_ECC i), 0, 16⟩

/-- Address of TLY_ECC_ADDR (R408). -/
def A.TLY_ECC_ADDR (i : Nat) : Nat := 0x200c4 + 0x8 * i
/-- TLY_ECC_ADDR.OFFSET. -/
def L.TLY_ECC_ADDR_OFFSET (i : Nat) : Loc := ⟨(A.TLY_ECC_ADDR i), 0, 32⟩

/-- Address of TLY_LOCK (R408). -/
def A.TLY_LOCK : Nat := 0x200fc
/-- TLY_LOCK.LOCK. -/
def L.TLY_LOCK_LOCK : Loc := ⟨A.TLY_LOCK, 0, 1⟩

/-- Address of TLY_SWREC_W0 (R408). -/
def A.TLY_SWREC_W0 : Nat := 0x20100
/-- TLY_SWREC_W0.PAYLOAD. -/
def L.TLY_SWREC_W0_PAYLOAD : Loc := ⟨A.TLY_SWREC_W0, 0, 32⟩

/-- Address of TLY_SWREC_W1 (R408). -/
def A.TLY_SWREC_W1 : Nat := 0x20104
/-- TLY_SWREC_W1.SEV. -/
def L.TLY_SWREC_W1_SEV : Loc := ⟨A.TLY_SWREC_W1, 24, 3⟩
/-- TLY_SWREC_W1.CODE. -/
def L.TLY_SWREC_W1_CODE : Loc := ⟨A.TLY_SWREC_W1, 0, 12⟩

/-- Address of TLY_KEEP (R408). -/
def A.TLY_KEEP (i j : Nat) : Nat := 0x28000 + 0x10 * i + 0x4 * j
/-- TLY_KEEP.WORD. -/
def L.TLY_KEEP_WORD (i j : Nat) : Loc := ⟨(A.TLY_KEEP i j), 0, 32⟩

/-- Address of TIME_NOW_W0 (R385). -/
def A.TIME_NOW_W0 : Nat := 0x30000
/-- TIME_NOW_W0.FRAC. -/
def L.TIME_NOW_W0_FRAC : Loc := ⟨A.TIME_NOW_W0, 0, 32⟩

/-- Address of TIME_NOW_W1 (R385). -/
def A.TIME_NOW_W1 : Nat := 0x30004
/-- TIME_NOW_W1.NS. -/
def L.TIME_NOW_W1_NS : Loc := ⟨A.TIME_NOW_W1, 0, 32⟩

/-- Address of TIME_NOW_W2 (R385). -/
def A.TIME_NOW_W2 : Nat := 0x30008
/-- TIME_NOW_W2.SEC_LO. -/
def L.TIME_NOW_W2_SEC_LO : Loc := ⟨A.TIME_NOW_W2, 0, 32⟩

/-- Address of TIME_NOW_W3 (R385). -/
def A.TIME_NOW_W3 : Nat := 0x3000c
/-- TIME_NOW_W3.SEC_HI. -/
def L.TIME_NOW_W3_SEC_HI : Loc := ⟨A.TIME_NOW_W3, 0, 16⟩

/-- Address of TIME_SET_W0 (R385). -/
def A.TIME_SET_W0 : Nat := 0x30010
/-- TIME_SET_W0.NS. -/
def L.TIME_SET_W0_NS : Loc := ⟨A.TIME_SET_W0, 0, 32⟩

/-- Address of TIME_SET_W1 (R385). -/
def A.TIME_SET_W1 : Nat := 0x30014
/-- TIME_SET_W1.SEC_LO. -/
def L.TIME_SET_W1_SEC_LO : Loc := ⟨A.TIME_SET_W1, 0, 32⟩

/-- Address of TIME_SET_W2 (R385). -/
def A.TIME_SET_W2 : Nat := 0x30018
/-- TIME_SET_W2.SEC_HI. -/
def L.TIME_SET_W2_SEC_HI : Loc := ⟨A.TIME_SET_W2, 0, 16⟩

/-- Address of TIME_ADJ_W0 (R385). -/
def A.TIME_ADJ_W0 : Nat := 0x30020
/-- TIME_ADJ_W0.FRAC. -/
def L.TIME_ADJ_W0_FRAC : Loc := ⟨A.TIME_ADJ_W0, 0, 32⟩

/-- Address of TIME_ADJ_W1 (R385). -/
def A.TIME_ADJ_W1 : Nat := 0x30024
/-- TIME_ADJ_W1.NS. -/
def L.TIME_ADJ_W1_NS : Loc := ⟨A.TIME_ADJ_W1, 0, 32⟩

/-- Address of TIME_INC_W0 (R385). -/
def A.TIME_INC_W0 : Nat := 0x30028
/-- TIME_INC_W0.FRAC. -/
def L.TIME_INC_W0_FRAC : Loc := ⟨A.TIME_INC_W0, 0, 32⟩

/-- Address of TIME_INC_W1 (R385). -/
def A.TIME_INC_W1 : Nat := 0x3002c
/-- TIME_INC_W1.NS. -/
def L.TIME_INC_W1_NS : Loc := ⟨A.TIME_INC_W1, 0, 32⟩

/-- Address of TIME_FRAME (R385). -/
def A.TIME_FRAME : Nat := 0x30030
/-- TIME_FRAME.FOFF. -/
def L.TIME_FRAME_FOFF : Loc := ⟨A.TIME_FRAME, 0, 24⟩

/-- Address of TIME_CFG (R385). -/
def A.TIME_CFG : Nat := 0x30034
/-- TIME_CFG.FN_ADD. -/
def L.TIME_CFG_FN_ADD : Loc := ⟨A.TIME_CFG, 22, 10⟩
/-- TIME_CFG.PRIM. -/
def L.TIME_CFG_PRIM : Loc := ⟨A.TIME_CFG, 20, 1⟩
/-- TIME_CFG.HOLD_TMO. -/
def L.TIME_CFG_HOLD_TMO : Loc := ⟨A.TIME_CFG, 0, 16⟩

/-- Address of TIME_STAT (R385). -/
def A.TIME_STAT : Nat := 0x30038
/-- TIME_STAT.VSTATE. -/
def L.TIME_STAT_VSTATE : Loc := ⟨A.TIME_STAT, 29, 3⟩
/-- TIME_STAT.SET_PEND. -/
def L.TIME_STAT_SET_PEND : Loc := ⟨A.TIME_STAT, 28, 1⟩
/-- TIME_STAT.ADJ_PEND. -/
def L.TIME_STAT_ADJ_PEND : Loc := ⟨A.TIME_STAT, 27, 1⟩
/-- TIME_STAT.INC_PEND. -/
def L.TIME_STAT_INC_PEND : Loc := ⟨A.TIME_STAT, 26, 1⟩
/-- TIME_STAT.FN. -/
def L.TIME_STAT_FN : Loc := ⟨A.TIME_STAT, 16, 10⟩
/-- TIME_STAT.HALF. -/
def L.TIME_STAT_HALF : Loc := ⟨A.TIME_STAT, 11, 5⟩

/-- Address of TIME_CTL (R385). -/
def A.TIME_CTL : Nat := 0x3003c
/-- TIME_CTL.VGO. -/
def L.TIME_CTL_VGO : Loc := ⟨A.TIME_CTL, 31, 1⟩
/-- TIME_CTL.KICK. -/
def L.TIME_CTL_KICK : Loc := ⟨A.TIME_CTL, 30, 1⟩
/-- TIME_CTL.STATE. -/
def L.TIME_CTL_STATE : Loc := ⟨A.TIME_CTL, 0, 3⟩

/-- Address of TIME_UNC (R385). -/
def A.TIME_UNC : Nat := 0x30040
/-- TIME_UNC.UNC. -/
def L.TIME_UNC_UNC : Loc := ⟨A.TIME_UNC, 0, 32⟩

/-- Address of TIME_UNCRATE (R385). -/
def A.TIME_UNCRATE : Nat := 0x30044
/-- TIME_UNCRATE.HOLD_RATE. -/
def L.TIME_UNCRATE_HOLD_RATE : Loc := ⟨A.TIME_UNCRATE, 16, 16⟩
/-- TIME_UNCRATE.EMB_UNC. -/
def L.TIME_UNCRATE_EMB_UNC : Loc := ⟨A.TIME_UNCRATE, 0, 16⟩

/-- Address of TIME_EVENT (R385). -/
def A.TIME_EVENT : Nat := 0x30048
/-- TIME_EVENT.NOINS. -/
def L.TIME_EVENT_NOINS : Loc := ⟨A.TIME_EVENT, 14, 1⟩
/-- TIME_EVENT.PRX_DROP. -/
def L.TIME_EVENT_PRX_DROP : Loc := ⟨A.TIME_EVENT, 13, 1⟩
/-- TIME_EVENT.PRX. -/
def L.TIME_EVENT_PRX : Loc := ⟨A.TIME_EVENT, 12, 1⟩
/-- TIME_EVENT.ETS_OVF. -/
def L.TIME_EVENT_ETS_OVF : Loc := ⟨A.TIME_EVENT, 11, 1⟩
/-- TIME_EVENT.PTX_DROP. -/
def L.TIME_EVENT_PTX_DROP : Loc := ⟨A.TIME_EVENT, 10, 1⟩
/-- TIME_EVENT.TP_MISS. -/
def L.TIME_EVENT_TP_MISS : Loc := ⟨A.TIME_EVENT, 9, 1⟩
/-- TIME_EVENT.TP_ERR. -/
def L.TIME_EVENT_TP_ERR : Loc := ⟨A.TIME_EVENT, 8, 1⟩
/-- TIME_EVENT.TCAP_OVF. -/
def L.TIME_EVENT_TCAP_OVF : Loc := ⟨A.TIME_EVENT, 7, 1⟩
/-- TIME_EVENT.CAL_ERR. -/
def L.TIME_EVENT_CAL_ERR : Loc := ⟨A.TIME_EVENT, 6, 1⟩
/-- TIME_EVENT.CAL_DONE. -/
def L.TIME_EVENT_CAL_DONE : Loc := ⟨A.TIME_EVENT, 5, 1⟩
/-- TIME_EVENT.BRIDGE. -/
def L.TIME_EVENT_BRIDGE : Loc := ⟨A.TIME_EVENT, 4, 1⟩
/-- TIME_EVENT.STATE_ERR. -/
def L.TIME_EVENT_STATE_ERR : Loc := ⟨A.TIME_EVENT, 3, 1⟩
/-- TIME_EVENT.INC_ERR. -/
def L.TIME_EVENT_INC_ERR : Loc := ⟨A.TIME_EVENT, 2, 1⟩
/-- TIME_EVENT.ADJ_LOST. -/
def L.TIME_EVENT_ADJ_LOST : Loc := ⟨A.TIME_EVENT, 1, 1⟩
/-- TIME_EVENT.STEP. -/
def L.TIME_EVENT_STEP : Loc := ⟨A.TIME_EVENT, 0, 1⟩

/-- Address of TIME_SLEEP_W0 (R385). -/
def A.TIME_SLEEP_W0 : Nat := 0x30050
/-- TIME_SLEEP_W0.CYC_LO. -/
def L.TIME_SLEEP_W0_CYC_LO : Loc := ⟨A.TIME_SLEEP_W0, 0, 32⟩

/-- Address of TIME_SLEEP_W1 (R385). -/
def A.TIME_SLEEP_W1 : Nat := 0x30054
/-- TIME_SLEEP_W1.RCFB. -/
def L.TIME_SLEEP_W1_RCFB : Loc := ⟨A.TIME_SLEEP_W1, 31, 1⟩
/-- TIME_SLEEP_W1.CYC_HI. -/
def L.TIME_SLEEP_W1_CYC_HI : Loc := ⟨A.TIME_SLEEP_W1, 0, 16⟩

/-- Address of EMB_PERIOD_W0 (R385). -/
def A.EMB_PERIOD_W0 : Nat := 0x30058
/-- EMB_PERIOD_W0.FRAC. -/
def L.EMB_PERIOD_W0_FRAC : Loc := ⟨A.EMB_PERIOD_W0, 0, 32⟩

/-- Address of EMB_PERIOD_W1 (R385). -/
def A.EMB_PERIOD_W1 : Nat := 0x3005c
/-- EMB_PERIOD_W1.NS. -/
def L.EMB_PERIOD_W1_NS : Loc := ⟨A.EMB_PERIOD_W1, 0, 32⟩

/-- Address of EMB_CAL (R385). -/
def A.EMB_CAL : Nat := 0x30060
/-- EMB_CAL.GO. -/
def L.EMB_CAL_GO : Loc := ⟨A.EMB_CAL, 31, 1⟩
/-- EMB_CAL.BUSY. -/
def L.EMB_CAL_BUSY : Loc := ⟨A.EMB_CAL, 30, 1⟩
/-- EMB_CAL.N. -/
def L.EMB_CAL_N : Loc := ⟨A.EMB_CAL, 0, 5⟩

/-- Address of TCAP_CFG (R385). -/
def A.TCAP_CFG (i : Nat) : Nat := 0x30100 + 0x40 * i
/-- TCAP_CFG.EN. -/
def L.TCAP_CFG_EN (i : Nat) : Loc := ⟨(A.TCAP_CFG i), 31, 1⟩
/-- TCAP_CFG.EDGE. -/
def L.TCAP_CFG_EDGE (i : Nat) : Loc := ⟨(A.TCAP_CFG i), 0, 2⟩

/-- Address of TCAP_ENTRY_W0 (R385). -/
def A.TCAP_ENTRY_W0 (i : Nat) : Nat := 0x30104 + 0x40 * i
/-- TCAP_ENTRY_W0.WORD. -/
def L.TCAP_ENTRY_W0_WORD (i : Nat) : Loc := ⟨(A.TCAP_ENTRY_W0 i), 0, 32⟩

/-- Address of TCAP_ENTRY_W1 (R385). -/
def A.TCAP_ENTRY_W1 (i : Nat) : Nat := 0x30108 + 0x40 * i
/-- TCAP_ENTRY_W1.WORD. -/
def L.TCAP_ENTRY_W1_WORD (i : Nat) : Loc := ⟨(A.TCAP_ENTRY_W1 i), 0, 32⟩

/-- Address of TCAP_ENTRY_W2 (R385). -/
def A.TCAP_ENTRY_W2 (i : Nat) : Nat := 0x3010c + 0x40 * i
/-- TCAP_ENTRY_W2.WORD. -/
def L.TCAP_ENTRY_W2_WORD (i : Nat) : Loc := ⟨(A.TCAP_ENTRY_W2 i), 0, 32⟩

/-- Address of TCAP_STAT (R385). -/
def A.TCAP_STAT (i : Nat) : Nat := 0x30110 + 0x40 * i
/-- TCAP_STAT.LEVEL. -/
def L.TCAP_STAT_LEVEL (i : Nat) : Loc := ⟨(A.TCAP_STAT i), 16, 4⟩
/-- TCAP_STAT.OVF. -/
def L.TCAP_STAT_OVF (i : Nat) : Loc := ⟨(A.TCAP_STAT i), 0, 16⟩

/-- Address of TP_CFG (R385). -/
def A.TP_CFG (i : Nat) : Nat := 0x30200 + 0x40 * i
/-- TP_CFG.EN. -/
def L.TP_CFG_EN (i : Nat) : Loc := ⟨(A.TP_CFG i), 31, 1⟩
/-- TP_CFG.MODE. -/
def L.TP_CFG_MODE (i : Nat) : Loc := ⟨(A.TP_CFG i), 30, 1⟩
/-- TP_CFG.VREQ. -/
def L.TP_CFG_VREQ (i : Nat) : Loc := ⟨(A.TP_CFG i), 29, 1⟩

/-- Address of TP_START_W0 (R385). -/
def A.TP_START_W0 (i : Nat) : Nat := 0x30204 + 0x40 * i
/-- TP_START_W0.NS. -/
def L.TP_START_W0_NS (i : Nat) : Loc := ⟨(A.TP_START_W0 i), 0, 32⟩

/-- Address of TP_START_W1 (R385). -/
def A.TP_START_W1 (i : Nat) : Nat := 0x30208 + 0x40 * i
/-- TP_START_W1.SEC_LO. -/
def L.TP_START_W1_SEC_LO (i : Nat) : Loc := ⟨(A.TP_START_W1 i), 0, 32⟩

/-- Address of TP_START_W2 (R385). -/
def A.TP_START_W2 (i : Nat) : Nat := 0x3020c + 0x40 * i
/-- TP_START_W2.SEC_HI. -/
def L.TP_START_W2_SEC_HI (i : Nat) : Loc := ⟨(A.TP_START_W2 i), 0, 16⟩

/-- Address of TP_PERIOD (R385). -/
def A.TP_PERIOD (i : Nat) : Nat := 0x30210 + 0x40 * i
/-- TP_PERIOD.PERIOD. -/
def L.TP_PERIOD_PERIOD (i : Nat) : Loc := ⟨(A.TP_PERIOD i), 0, 32⟩

/-- Address of TP_WIDTH (R385). -/
def A.TP_WIDTH (i : Nat) : Nat := 0x30214 + 0x40 * i
/-- TP_WIDTH.WIDTH. -/
def L.TP_WIDTH_WIDTH (i : Nat) : Loc := ⟨(A.TP_WIDTH i), 0, 32⟩

/-- Address of TP_STAT (R385). -/
def A.TP_STAT (i : Nat) : Nat := 0x30218 + 0x40 * i
/-- TP_STAT.ARMED. -/
def L.TP_STAT_ARMED (i : Nat) : Loc := ⟨(A.TP_STAT i), 31, 1⟩
/-- TP_STAT.HIGH. -/
def L.TP_STAT_HIGH (i : Nat) : Loc := ⟨(A.TP_STAT i), 30, 1⟩
/-- TP_STAT.MISSED. -/
def L.TP_STAT_MISSED (i : Nat) : Loc := ⟨(A.TP_STAT i), 0, 16⟩

/-- Address of TIME_PTX_ADDR (R385). -/
def A.TIME_PTX_ADDR : Nat := 0x30400
/-- TIME_PTX_ADDR.OFFSET. -/
def L.TIME_PTX_ADDR_OFFSET : Loc := ⟨A.TIME_PTX_ADDR, 0, 19⟩

/-- Address of TIME_PTX (R385). -/
def A.TIME_PTX : Nat := 0x30404
/-- TIME_PTX.GO. -/
def L.TIME_PTX_GO : Loc := ⟨A.TIME_PTX, 31, 1⟩
/-- TIME_PTX.BUSY. -/
def L.TIME_PTX_BUSY : Loc := ⟨A.TIME_PTX, 30, 1⟩
/-- TIME_PTX.PORT. -/
def L.TIME_PTX_PORT : Loc := ⟨A.TIME_PTX, 28, 2⟩
/-- TIME_PTX.OP. -/
def L.TIME_PTX_OP : Loc := ⟨A.TIME_PTX, 26, 2⟩
/-- TIME_PTX.LEN. -/
def L.TIME_PTX_LEN : Loc := ⟨A.TIME_PTX, 0, 11⟩

/-- Address of TIME_PTX_T2_W0 (R385). -/
def A.TIME_PTX_T2_W0 : Nat := 0x30408
/-- TIME_PTX_T2_W0.WORD. -/
def L.TIME_PTX_T2_W0_WORD : Loc := ⟨A.TIME_PTX_T2_W0, 0, 32⟩

/-- Address of TIME_PTX_T2_W1 (R385). -/
def A.TIME_PTX_T2_W1 : Nat := 0x3040c
/-- TIME_PTX_T2_W1.WORD. -/
def L.TIME_PTX_T2_W1_WORD : Loc := ⟨A.TIME_PTX_T2_W1, 0, 32⟩

/-- Address of TIME_ETS_W0 (R385). -/
def A.TIME_ETS_W0 : Nat := 0x30410
/-- TIME_ETS_W0.WORD. -/
def L.TIME_ETS_W0_WORD : Loc := ⟨A.TIME_ETS_W0, 0, 32⟩

/-- Address of TIME_ETS_W1 (R385). -/
def A.TIME_ETS_W1 : Nat := 0x30414
/-- TIME_ETS_W1.WORD. -/
def L.TIME_ETS_W1_WORD : Loc := ⟨A.TIME_ETS_W1, 0, 32⟩

/-- Address of TIME_ETS_W2 (R385). -/
def A.TIME_ETS_W2 : Nat := 0x30418
/-- TIME_ETS_W2.WORD. -/
def L.TIME_ETS_W2_WORD : Loc := ⟨A.TIME_ETS_W2, 0, 32⟩

/-- Address of TIME_ETS_W3 (R385). -/
def A.TIME_ETS_W3 : Nat := 0x3041c
/-- TIME_ETS_W3.WORD. -/
def L.TIME_ETS_W3_WORD : Loc := ⟨A.TIME_ETS_W3, 0, 32⟩

/-- Address of TIME_PSTAT (R385). -/
def A.TIME_PSTAT : Nat := 0x30420
/-- TIME_PSTAT.ETS_LVL. -/
def L.TIME_PSTAT_ETS_LVL : Loc := ⟨A.TIME_PSTAT, 25, 7⟩
/-- TIME_PSTAT.PRX_LVL. -/
def L.TIME_PSTAT_PRX_LVL : Loc := ⟨A.TIME_PSTAT, 18, 7⟩
/-- TIME_PSTAT.ETS_OVF. -/
def L.TIME_PSTAT_ETS_OVF : Loc := ⟨A.TIME_PSTAT, 8, 8⟩
/-- TIME_PSTAT.PRX_DROP. -/
def L.TIME_PSTAT_PRX_DROP : Loc := ⟨A.TIME_PSTAT, 0, 8⟩

/-- Address of TIME_PRX_RD (R385). -/
def A.TIME_PRX_RD : Nat := 0x30424
/-- TIME_PRX_RD.POP. -/
def L.TIME_PRX_RD_POP : Loc := ⟨A.TIME_PRX_RD, 31, 1⟩
/-- TIME_PRX_RD.RD. -/
def L.TIME_PRX_RD_RD : Loc := ⟨A.TIME_PRX_RD, 0, 6⟩

/-- Address of TIME_PRX_BUF (R385). -/
def A.TIME_PRX_BUF (i j : Nat) : Nat := 0x38000 + 0x200 * i + 0x4 * j
/-- TIME_PRX_BUF.WORD. -/
def L.TIME_PRX_BUF_WORD (i j : Nat) : Loc := ⟨(A.TIME_PRX_BUF i j), 0, 32⟩

/-- Address of PWR_LSTAT (R503). -/
def A.PWR_LSTAT : Nat := 0x40000
/-- PWR_LSTAT.LEVEL. -/
def L.PWR_LSTAT_LEVEL : Loc := ⟨A.PWR_LSTAT, 29, 3⟩
/-- PWR_LSTAT.TARGET. -/
def L.PWR_LSTAT_TARGET : Loc := ⟨A.PWR_LSTAT, 26, 3⟩
/-- PWR_LSTAT.CHG. -/
def L.PWR_LSTAT_CHG : Loc := ⟨A.PWR_LSTAT, 25, 1⟩
/-- PWR_LSTAT.CONV_PEND. -/
def L.PWR_LSTAT_CONV_PEND : Loc := ⟨A.PWR_LSTAT, 24, 1⟩
/-- PWR_LSTAT.VPEND. -/
def L.PWR_LSTAT_VPEND : Loc := ⟨A.PWR_LSTAT, 23, 1⟩
/-- PWR_LSTAT.LERR. -/
def L.PWR_LSTAT_LERR : Loc := ⟨A.PWR_LSTAT, 20, 3⟩
/-- PWR_LSTAT.VOUT. -/
def L.PWR_LSTAT_VOUT : Loc := ⟨A.PWR_LSTAT, 0, 12⟩

/-- Address of PWR_LCTL (R503). -/
def A.PWR_LCTL : Nat := 0x40004
/-- PWR_LCTL.GO. -/
def L.PWR_LCTL_GO : Loc := ⟨A.PWR_LCTL, 31, 1⟩
/-- PWR_LCTL.LEVEL. -/
def L.PWR_LCTL_LEVEL : Loc := ⟨A.PWR_LCTL, 0, 3⟩

/-- Address of PWR_LRES (R503). -/
def A.PWR_LRES : Nat := 0x40008
/-- PWR_LRES.CARRIER. -/
def L.PWR_LRES_CARRIER : Loc := ⟨A.PWR_LRES, 28, 4⟩
/-- PWR_LRES.DIR. -/
def L.PWR_LRES_DIR : Loc := ⟨A.PWR_LRES, 27, 1⟩
/-- PWR_LRES.DETAIL. -/
def L.PWR_LRES_DETAIL : Loc := ⟨A.PWR_LRES, 0, 8⟩

/-- Address of PWR_SCTL (R503). -/
def A.PWR_SCTL : Nat := 0x40010
/-- PWR_SCTL.GO. -/
def L.PWR_SCTL_GO : Loc := ⟨A.PWR_SCTL, 31, 1⟩
/-- PWR_SCTL.STATE. -/
def L.PWR_SCTL_STATE : Loc := ⟨A.PWR_SCTL, 0, 2⟩

/-- Address of PWR_SSTAT (R503). -/
def A.PWR_SSTAT : Nat := 0x40014
/-- PWR_SSTAT.SSTATE. -/
def L.PWR_SSTAT_SSTATE : Loc := ⟨A.PWR_SSTAT, 30, 2⟩
/-- PWR_SSTAT.STEP. -/
def L.PWR_SSTAT_STEP : Loc := ⟨A.PWR_SSTAT, 27, 3⟩
/-- PWR_SSTAT.ACAUSE. -/
def L.PWR_SSTAT_ACAUSE : Loc := ⟨A.PWR_SSTAT, 24, 3⟩
/-- PWR_SSTAT.ABORTS. -/
def L.PWR_SSTAT_ABORTS : Loc := ⟨A.PWR_SSTAT, 0, 16⟩

/-- Address of PWR_WAKE_EN (R503). -/
def A.PWR_WAKE_EN : Nat := 0x40018
/-- PWR_WAKE_EN.EN. -/
def L.PWR_WAKE_EN_EN : Loc := ⟨A.PWR_WAKE_EN, 1, 6⟩
/-- PWR_WAKE_EN.SMB. -/
def L.PWR_WAKE_EN_SMB : Loc := ⟨A.PWR_WAKE_EN, 0, 1⟩

/-- Address of PWR_WAKE_SRC (R503). -/
def A.PWR_WAKE_SRC : Nat := 0x4001c
/-- PWR_WAKE_SRC.ACCESS. -/
def L.PWR_WAKE_SRC_ACCESS : Loc := ⟨A.PWR_WAKE_SRC, 7, 1⟩
/-- PWR_WAKE_SRC.SRC. -/
def L.PWR_WAKE_SRC_SRC : Loc := ⟨A.PWR_WAKE_SRC, 0, 7⟩

/-- Address of PWR_WAKE_AT_LO (R503). -/
def A.PWR_WAKE_AT_LO : Nat := 0x40020
/-- PWR_WAKE_AT_LO.CYC_LO. -/
def L.PWR_WAKE_AT_LO_CYC_LO : Loc := ⟨A.PWR_WAKE_AT_LO, 0, 32⟩

/-- Address of PWR_WAKE_AT_HI (R503). -/
def A.PWR_WAKE_AT_HI : Nat := 0x40024
/-- PWR_WAKE_AT_HI.CYC_HI. -/
def L.PWR_WAKE_AT_HI_CYC_HI : Loc := ⟨A.PWR_WAKE_AT_HI, 0, 16⟩

/-- Address of PWR_GPIO_WAKE (R503). -/
def A.PWR_GPIO_WAKE : Nat := 0x40028
/-- PWR_GPIO_WAKE.EDGE. -/
def L.PWR_GPIO_WAKE_EDGE : Loc := ⟨A.PWR_GPIO_WAKE, 0, 32⟩

/-- Address of PWR_STALL (R503). -/
def A.PWR_STALL : Nat := 0x40030
/-- PWR_STALL.TMO. -/
def L.PWR_STALL_TMO : Loc := ⟨A.PWR_STALL, 0, 8⟩

/-- Address of PWR_SYN (R503). -/
def A.PWR_SYN : Nat := 0x40034
/-- PWR_SYN.CAUSE. -/
def L.PWR_SYN_CAUSE : Loc := ⟨A.PWR_SYN, 29, 3⟩
/-- PWR_SYN.MASTER. -/
def L.PWR_SYN_MASTER : Loc := ⟨A.PWR_SYN, 24, 5⟩
/-- PWR_SYN.DOMAIN. -/
def L.PWR_SYN_DOMAIN : Loc := ⟨A.PWR_SYN, 16, 7⟩

/-- Address of PWR_SYN_ADDR (R503). -/
def A.PWR_SYN_ADDR : Nat := 0x40038
/-- PWR_SYN_ADDR.ADDR. -/
def L.PWR_SYN_ADDR_ADDR : Loc := ⟨A.PWR_SYN_ADDR, 0, 32⟩

/-- Address of PWR_EVENT (R503). -/
def A.PWR_EVENT : Nat := 0x40040
/-- PWR_EVENT.DFAIL. -/
def L.PWR_EVENT_DFAIL : Loc := ⟨A.PWR_EVENT, 7, 1⟩
/-- PWR_EVENT.VOTE_ERR. -/
def L.PWR_EVENT_VOTE_ERR : Loc := ⟨A.PWR_EVENT, 6, 1⟩
/-- PWR_EVENT.WAKE. -/
def L.PWR_EVENT_WAKE : Loc := ⟨A.PWR_EVENT, 5, 1⟩
/-- PWR_EVENT.ABORT. -/
def L.PWR_EVENT_ABORT : Loc := ⟨A.PWR_EVENT, 4, 1⟩
/-- PWR_EVENT.ENTER. -/
def L.PWR_EVENT_ENTER : Loc := ⟨A.PWR_EVENT, 3, 1⟩
/-- PWR_EVENT.AVS_FAIL. -/
def L.PWR_EVENT_AVS_FAIL : Loc := ⟨A.PWR_EVENT, 2, 1⟩
/-- PWR_EVENT.LVL_REFUSED. -/
def L.PWR_EVENT_LVL_REFUSED : Loc := ⟨A.PWR_EVENT, 1, 1⟩
/-- PWR_EVENT.LVL_DONE. -/
def L.PWR_EVENT_LVL_DONE : Loc := ⟨A.PWR_EVENT, 0, 1⟩

/-- Address of PWR_DCFG (R503). -/
def A.PWR_DCFG (i : Nat) : Nat := 0x41000 + 0x10 * i
/-- PWR_DCFG.HYST. -/
def L.PWR_DCFG_HYST (i : Nat) : Loc := ⟨(A.PWR_DCFG i), 0, 16⟩

/-- Address of PWR_DSTAT (R503). -/
def A.PWR_DSTAT (i : Nat) : Nat := 0x41004 + 0x10 * i
/-- PWR_DSTAT.STATE. -/
def L.PWR_DSTAT_STATE (i : Nat) : Loc := ⟨(A.PWR_DSTAT i), 29, 3⟩
/-- PWR_DSTAT.VOTES. -/
def L.PWR_DSTAT_VOTES (i : Nat) : Loc := ⟨(A.PWR_DSTAT i), 0, 23⟩

/-- Address of PWR_VSET (R503). -/
def A.PWR_VSET (i : Nat) : Nat := 0x41008 + 0x10 * i
/-- PWR_VSET.SET. -/
def L.PWR_VSET_SET (i : Nat) : Loc := ⟨(A.PWR_VSET i), 0, 23⟩

/-- Address of PWR_VCLR (R503). -/
def A.PWR_VCLR (i : Nat) : Nat := 0x4100c + 0x10 * i
/-- PWR_VCLR.CLR. -/
def L.PWR_VCLR_CLR (i : Nat) : Loc := ⟨(A.PWR_VCLR i), 0, 23⟩

/-- Address of CLK_CFG (R112). -/
def A.CLK_CFG : Nat := 0x50000
/-- CLK_CFG.REALIGN. -/
def L.CLK_CFG_REALIGN : Loc := ⟨A.CLK_CFG, 9, 1⟩
/-- CLK_CFG.RELOCK. -/
def L.CLK_CFG_RELOCK : Loc := ⟨A.CLK_CFG, 8, 1⟩
/-- CLK_CFG.SLEW_RATE. -/
def L.CLK_CFG_SLEW_RATE : Loc := ⟨A.CLK_CFG, 4, 2⟩
/-- CLK_CFG.CONV_LP. -/
def L.CLK_CFG_CONV_LP : Loc := ⟨A.CLK_CFG, 1, 1⟩
/-- CLK_CFG.REF_MODE. -/
def L.CLK_CFG_REF_MODE : Loc := ⟨A.CLK_CFG, 0, 1⟩

/-- Address of CLK_STAT (R112). -/
def A.CLK_STAT : Nat := 0x50004
/-- CLK_STAT.ALIGNED. -/
def L.CLK_STAT_ALIGNED : Loc := ⟨A.CLK_STAT, 15, 1⟩
/-- CLK_STAT.CONV_LP_ACTIVE. -/
def L.CLK_STAT_CONV_LP_ACTIVE : Loc := ⟨A.CLK_STAT, 14, 1⟩
/-- CLK_STAT.AUX_HOLDOVER. -/
def L.CLK_STAT_AUX_HOLDOVER : Loc := ⟨A.CLK_STAT, 13, 1⟩
/-- CLK_STAT.MON_SRC. -/
def L.CLK_STAT_MON_SRC : Loc := ⟨A.CLK_STAT, 12, 1⟩
/-- CLK_STAT.TICK_SRC. -/
def L.CLK_STAT_TICK_SRC : Loc := ⟨A.CLK_STAT, 11, 1⟩
/-- CLK_STAT.LANE_SRC. -/
def L.CLK_STAT_LANE_SRC : Loc := ⟨A.CLK_STAT, 10, 1⟩
/-- CLK_STAT.BAND_EDGE. -/
def L.CLK_STAT_BAND_EDGE : Loc := ⟨A.CLK_STAT, 9, 1⟩
/-- CLK_STAT.FH_PRESENT. -/
def L.CLK_STAT_FH_PRESENT : Loc := ⟨A.CLK_STAT, 8, 1⟩
/-- CLK_STAT.REF_PRESENT. -/
def L.CLK_STAT_REF_PRESENT : Loc := ⟨A.CLK_STAT, 7, 1⟩
/-- CLK_STAT.AUX_LOCK. -/
def L.CLK_STAT_AUX_LOCK : Loc := ⟨A.CLK_STAT, 6, 1⟩
/-- CLK_STAT.DBL_LOCK. -/
def L.CLK_STAT_DBL_LOCK : Loc := ⟨A.CLK_STAT, 5, 1⟩
/-- CLK_STAT.MDLL_LOCK. -/
def L.CLK_STAT_MDLL_LOCK : Loc := ⟨A.CLK_STAT, 4, 1⟩
/-- CLK_STAT.MSTATE. -/
def L.CLK_STAT_MSTATE : Loc := ⟨A.CLK_STAT, 0, 4⟩

/-- Address of CLK_EVENT (R112). -/
def A.CLK_EVENT : Nat := 0x50008
/-- CLK_EVENT.AUX_CLAMP. -/
def L.CLK_EVENT_AUX_CLAMP : Loc := ⟨A.CLK_EVENT, 15, 1⟩
/-- CLK_EVENT.OUTAGE_END. -/
def L.CLK_EVENT_OUTAGE_END : Loc := ⟨A.CLK_EVENT, 14, 1⟩
/-- CLK_EVENT.ALIGN_DRIFT. -/
def L.CLK_EVENT_ALIGN_DRIFT : Loc := ⟨A.CLK_EVENT, 13, 1⟩
/-- CLK_EVENT.CLKOUT_ERR. -/
def L.CLK_EVENT_CLKOUT_ERR : Loc := ⟨A.CLK_EVENT, 12, 1⟩
/-- CLK_EVENT.DIV_ERR. -/
def L.CLK_EVENT_DIV_ERR : Loc := ⟨A.CLK_EVENT, 11, 1⟩
/-- CLK_EVENT.LOCK_FAIL. -/
def L.CLK_EVENT_LOCK_FAIL : Loc := ⟨A.CLK_EVENT, 10, 1⟩
/-- CLK_EVENT.BAND_EDGE. -/
def L.CLK_EVENT_BAND_EDGE : Loc := ⟨A.CLK_EVENT, 9, 1⟩
/-- CLK_EVENT.REF_FREQ. -/
def L.CLK_EVENT_REF_FREQ : Loc := ⟨A.CLK_EVENT, 8, 1⟩
/-- CLK_EVENT.AUX_UNLOCK. -/
def L.CLK_EVENT_AUX_UNLOCK : Loc := ⟨A.CLK_EVENT, 7, 1⟩
/-- CLK_EVENT.DBL_UNLOCK. -/
def L.CLK_EVENT_DBL_UNLOCK : Loc := ⟨A.CLK_EVENT, 6, 1⟩
/-- CLK_EVENT.MDLL_UNLOCK. -/
def L.CLK_EVENT_MDLL_UNLOCK : Loc := ⟨A.CLK_EVENT, 5, 1⟩
/-- CLK_EVENT.COAST_LIMIT. -/
def L.CLK_EVENT_COAST_LIMIT : Loc := ⟨A.CLK_EVENT, 4, 1⟩
/-- CLK_EVENT.JUMP_LARGE. -/
def L.CLK_EVENT_JUMP_LARGE : Loc := ⟨A.CLK_EVENT, 3, 1⟩
/-- CLK_EVENT.JUMP_SMALL. -/
def L.CLK_EVENT_JUMP_SMALL : Loc := ⟨A.CLK_EVENT, 2, 1⟩
/-- CLK_EVENT.COAST_EXPIRED. -/
def L.CLK_EVENT_COAST_EXPIRED : Loc := ⟨A.CLK_EVENT, 1, 1⟩
/-- CLK_EVENT.REF_LOSS. -/
def L.CLK_EVENT_REF_LOSS : Loc := ⟨A.CLK_EVENT, 0, 1⟩

/-- Address of CLK_COUNT (R112). -/
def A.CLK_COUNT : Nat := 0x5000c
/-- CLK_COUNT.CLR. -/
def L.CLK_COUNT_CLR : Loc := ⟨A.CLK_COUNT, 31, 1⟩
/-- CLK_COUNT.OUTAGES. -/
def L.CLK_COUNT_OUTAGES : Loc := ⟨A.CLK_COUNT, 16, 15⟩
/-- CLK_COUNT.COASTS. -/
def L.CLK_COUNT_COASTS : Loc := ⟨A.CLK_COUNT, 0, 16⟩

/-- Address of CLK_MDLL (R112). -/
def A.CLK_MDLL : Nat := 0x50010
/-- CLK_MDLL.BAND. -/
def L.CLK_MDLL_BAND : Loc := ⟨A.CLK_MDLL, 16, 6⟩
/-- CLK_MDLL.CTRL. -/
def L.CLK_MDLL_CTRL : Loc := ⟨A.CLK_MDLL, 0, 10⟩

/-- Address of CLK_JUMP (R112). -/
def A.CLK_JUMP : Nat := 0x50014
/-- CLK_JUMP.COAST_DUR. -/
def L.CLK_JUMP_COAST_DUR : Loc := ⟨A.CLK_JUMP, 16, 16⟩
/-- CLK_JUMP.JUMP. -/
def L.CLK_JUMP_JUMP : Loc := ⟨A.CLK_JUMP, 0, 16⟩

/-- Address of CLK_REFMON (R112). -/
def A.CLK_REFMON : Nat := 0x50018
/-- CLK_REFMON.VALID. -/
def L.CLK_REFMON_VALID : Loc := ⟨A.CLK_REFMON, 31, 1⟩
/-- CLK_REFMON.REF_ERR. -/
def L.CLK_REFMON_REF_ERR : Loc := ⟨A.CLK_REFMON, 0, 16⟩

/-- Address of CLK_ALIGN (R112). -/
def A.CLK_ALIGN : Nat := 0x5001c
/-- CLK_ALIGN.ALIGN_TOL. -/
def L.CLK_ALIGN_ALIGN_TOL : Loc := ⟨A.CLK_ALIGN, 16, 16⟩
/-- CLK_ALIGN.ALIGN_OFF. -/
def L.CLK_ALIGN_ALIGN_OFF : Loc := ⟨A.CLK_ALIGN, 0, 16⟩

/-- Address of CLK_AUX_OFFSET (R112). -/
def A.CLK_AUX_OFFSET : Nat := 0x50020
/-- CLK_AUX_OFFSET.TARGET. -/
def L.CLK_AUX_OFFSET_TARGET : Loc := ⟨A.CLK_AUX_OFFSET, 0, 32⟩

/-- Address of CLK_AUX_APPLIED (R112). -/
def A.CLK_AUX_APPLIED : Nat := 0x50024
/-- CLK_AUX_APPLIED.APPLIED. -/
def L.CLK_AUX_APPLIED_APPLIED : Loc := ⟨A.CLK_AUX_APPLIED, 0, 32⟩

/-- Address of CLK_AUXDIV (R112). -/
def A.CLK_AUXDIV (i : Nat) : Nat := 0x50040 + 0x4 * i
/-- CLK_AUXDIV.K. -/
def L.CLK_AUXDIV_K (i : Nat) : Loc := ⟨(A.CLK_AUXDIV i), 16, 10⟩
/-- CLK_AUXDIV.N. -/
def L.CLK_AUXDIV_N (i : Nat) : Loc := ⟨(A.CLK_AUXDIV i), 0, 8⟩

/-- Address of CLK_OUT (R112). -/
def A.CLK_OUT (i : Nat) : Nat := 0x50080 + 0x4 * i
/-- CLK_OUT.SDIV. -/
def L.CLK_OUT_SDIV (i : Nat) : Loc := ⟨(A.CLK_OUT i), 16, 10⟩
/-- CLK_OUT.SWING. -/
def L.CLK_OUT_SWING (i : Nat) : Loc := ⟨(A.CLK_OUT i), 4, 4⟩
/-- CLK_OUT.FORMAT. -/
def L.CLK_OUT_FORMAT (i : Nat) : Loc := ⟨(A.CLK_OUT i), 2, 2⟩
/-- CLK_OUT.SRC. -/
def L.CLK_OUT_SRC (i : Nat) : Loc := ⟨(A.CLK_OUT i), 1, 1⟩
/-- CLK_OUT.EN. -/
def L.CLK_OUT_EN (i : Nat) : Loc := ⟨(A.CLK_OUT i), 0, 1⟩

/-- Address of CLK_LOCK (R112). -/
def A.CLK_LOCK : Nat := 0x500fc
/-- CLK_LOCK.LOCK. -/
def L.CLK_LOCK_LOCK : Loc := ⟨A.CLK_LOCK, 0, 1⟩

/-- Address of BOOT_STAT (R523). -/
def A.BOOT_STAT : Nat := 0x60000
/-- BOOT_STAT.STAGE. -/
def L.BOOT_STAT_STAGE : Loc := ⟨A.BOOT_STAT, 30, 2⟩
/-- BOOT_STAT.CFG_DEFAULTED. -/
def L.BOOT_STAT_CFG_DEFAULTED : Loc := ⟨A.BOOT_STAT, 29, 1⟩
/-- BOOT_STAT.GEN_FALLBACK. -/
def L.BOOT_STAT_GEN_FALLBACK : Loc := ⟨A.BOOT_STAT, 28, 1⟩
/-- BOOT_STAT.NOGEN. -/
def L.BOOT_STAT_NOGEN : Loc := ⟨A.BOOT_STAT, 27, 1⟩
/-- BOOT_STAT.SLOT_FALLBACK. -/
def L.BOOT_STAT_SLOT_FALLBACK : Loc := ⟨A.BOOT_STAT, 26, 1⟩
/-- BOOT_STAT.GEN. -/
def L.BOOT_STAT_GEN : Loc := ⟨A.BOOT_STAT, 24, 2⟩
/-- BOOT_STAT.SRC. -/
def L.BOOT_STAT_SRC : Loc := ⟨A.BOOT_STAT, 22, 2⟩
/-- BOOT_STAT.KEYSLOT. -/
def L.BOOT_STAT_KEYSLOT : Loc := ⟨A.BOOT_STAT, 20, 2⟩
/-- BOOT_STAT.WKEY. -/
def L.BOOT_STAT_WKEY : Loc := ⟨A.BOOT_STAT, 19, 1⟩

/-- Address of BOOT_RCAUSE (R523). -/
def A.BOOT_RCAUSE : Nat := 0x60004
/-- BOOT_RCAUSE.CAUSE. -/
def L.BOOT_RCAUSE_CAUSE : Loc := ⟨A.BOOT_RCAUSE, 0, 4⟩

/-- Address of BOOT_OPT (R523). -/
def A.BOOT_OPT : Nat := 0x60008
/-- BOOT_OPT.OPT. -/
def L.BOOT_OPT_OPT : Loc := ⟨A.BOOT_OPT, 0, 32⟩

/-- Address of BOOT_TRIM (R523). -/
def A.BOOT_TRIM : Nat := 0x6000c
/-- BOOT_TRIM.SEED. -/
def L.BOOT_TRIM_SEED : Loc := ⟨A.BOOT_TRIM, 0, 32⟩

/-- Address of BOOT_GEN (R523). -/
def A.BOOT_GEN : Nat := 0x60010
/-- BOOT_GEN.VALID. -/
def L.BOOT_GEN_VALID : Loc := ⟨A.BOOT_GEN, 4, 4⟩
/-- BOOT_GEN.WRITTEN. -/
def L.BOOT_GEN_WRITTEN : Loc := ⟨A.BOOT_GEN, 0, 4⟩

/-- Address of BOOT_KEY (R523). -/
def A.BOOT_KEY : Nat := 0x60014
/-- BOOT_KEY.REVOKED. -/
def L.BOOT_KEY_REVOKED : Loc := ⟨A.BOOT_KEY, 4, 4⟩
/-- BOOT_KEY.PRESENT. -/
def L.BOOT_KEY_PRESENT : Loc := ⟨A.BOOT_KEY, 0, 4⟩

/-- Address of BOOT_CTL (R523). -/
def A.BOOT_CTL : Nat := 0x60018
/-- BOOT_CTL.READY. -/
def L.BOOT_CTL_READY : Loc := ⟨A.BOOT_CTL, 31, 1⟩
/-- BOOT_CTL.FW. -/
def L.BOOT_CTL_FW : Loc := ⟨A.BOOT_CTL, 30, 1⟩

/-- Address of BOOT_EVENT (R523). -/
def A.BOOT_EVENT : Nat := 0x6001c
/-- BOOT_EVENT.DBG_UNLOCK. -/
def L.BOOT_EVENT_DBG_UNLOCK : Loc := ⟨A.BOOT_EVENT, 6, 1⟩
/-- BOOT_EVENT.BURN_FAIL. -/
def L.BOOT_EVENT_BURN_FAIL : Loc := ⟨A.BOOT_EVENT, 5, 1⟩
/-- BOOT_EVENT.BURN_DONE. -/
def L.BOOT_EVENT_BURN_DONE : Loc := ⟨A.BOOT_EVENT, 4, 1⟩
/-- BOOT_EVENT.AUTH_FAIL. -/
def L.BOOT_EVENT_AUTH_FAIL : Loc := ⟨A.BOOT_EVENT, 3, 1⟩
/-- BOOT_EVENT.SLOT_FALLBACK. -/
def L.BOOT_EVENT_SLOT_FALLBACK : Loc := ⟨A.BOOT_EVENT, 2, 1⟩
/-- BOOT_EVENT.GEN_FALLBACK. -/
def L.BOOT_EVENT_GEN_FALLBACK : Loc := ⟨A.BOOT_EVENT, 1, 1⟩
/-- BOOT_EVENT.CFG_DEFAULTED. -/
def L.BOOT_EVENT_CFG_DEFAULTED : Loc := ⟨A.BOOT_EVENT, 0, 1⟩

/-- Address of BOOT_DBG (R523). -/
def A.BOOT_DBG : Nat := 0x60020
/-- BOOT_DBG.GO. -/
def L.BOOT_DBG_GO : Loc := ⟨A.BOOT_DBG, 31, 1⟩
/-- BOOT_DBG.UNLOCK. -/
def L.BOOT_DBG_UNLOCK : Loc := ⟨A.BOOT_DBG, 30, 1⟩
/-- BOOT_DBG.OFFSET. -/
def L.BOOT_DBG_OFFSET : Loc := ⟨A.BOOT_DBG, 0, 19⟩

/-- Address of BOOT_DBG_NONCE (R523). -/
def A.BOOT_DBG_NONCE : Nat := 0x60024
/-- BOOT_DBG_NONCE.NONCE. -/
def L.BOOT_DBG_NONCE_NONCE : Loc := ⟨A.BOOT_DBG_NONCE, 0, 32⟩

/-- Address of BOOT_OTP_WIN (R523). -/
def A.BOOT_OTP_WIN (i : Nat) : Nat := 0x68000 + 0x4 * i
/-- BOOT_OTP_WIN.WORD. -/
def L.BOOT_OTP_WIN_WORD (i : Nat) : Loc := ⟨(A.BOOT_OTP_WIN i), 0, 32⟩

/-- Address of DMA_CFG (R468). -/
def A.DMA_CFG : Nat := 0x70000
/-- DMA_CFG.EN. -/
def L.DMA_CFG_EN : Loc := ⟨A.DMA_CFG, 31, 1⟩
/-- DMA_CFG.AGE. -/
def L.DMA_CFG_AGE : Loc := ⟨A.DMA_CFG, 8, 8⟩

/-- Address of DMA_STAT (R468). -/
def A.DMA_STAT : Nat := 0x70004
/-- DMA_STAT.INFLIGHT. -/
def L.DMA_STAT_INFLIGHT : Loc := ⟨A.DMA_STAT, 0, 4⟩

/-- Address of DMA_EVENT (R468). -/
def A.DMA_EVENT : Nat := 0x70008
/-- DMA_EVENT.CFG_ERR. -/
def L.DMA_EVENT_CFG_ERR : Loc := ⟨A.DMA_EVENT, 8, 8⟩
/-- DMA_EVENT.QSAT. -/
def L.DMA_EVENT_QSAT : Loc := ⟨A.DMA_EVENT, 0, 8⟩

/-- Address of DMA_LOCK (R468). -/
def A.DMA_LOCK : Nat := 0x700fc
/-- DMA_LOCK.LOCK. -/
def L.DMA_LOCK_LOCK : Loc := ⟨A.DMA_LOCK, 0, 1⟩

/-- Address of DMA_QCFG (R468). -/
def A.DMA_QCFG (i : Nat) : Nat := 0x70100 + 0x10 * i
/-- DMA_QCFG.EN. -/
def L.DMA_QCFG_EN (i : Nat) : Loc := ⟨(A.DMA_QCFG i), 31, 1⟩
/-- DMA_QCFG.DIR. -/
def L.DMA_QCFG_DIR (i : Nat) : Loc := ⟨(A.DMA_QCFG i), 30, 1⟩
/-- DMA_QCFG.HI. -/
def L.DMA_QCFG_HI (i : Nat) : Loc := ⟨(A.DMA_QCFG i), 0, 20⟩

/-- Address of DMA_QLO (R468). -/
def A.DMA_QLO (i : Nat) : Nat := 0x70104 + 0x10 * i
/-- DMA_QLO.LO. -/
def L.DMA_QLO_LO (i : Nat) : Loc := ⟨(A.DMA_QLO i), 0, 20⟩

/-- Address of DMA_QLVL (R468). -/
def A.DMA_QLVL (i : Nat) : Nat := 0x70108 + 0x10 * i
/-- DMA_QLVL.REQ. -/
def L.DMA_QLVL_REQ (i : Nat) : Loc := ⟨(A.DMA_QLVL i), 31, 1⟩
/-- DMA_QLVL.LEVEL. -/
def L.DMA_QLVL_LEVEL (i : Nat) : Loc := ⟨(A.DMA_QLVL i), 0, 20⟩

/-- Address of DMA_QADJ (R468). -/
def A.DMA_QADJ (i : Nat) : Nat := 0x7010c + 0x10 * i
/-- DMA_QADJ.DELTA. -/
def L.DMA_QADJ_DELTA (i : Nat) : Loc := ⟨(A.DMA_QADJ i), 0, 21⟩

/-- Address of DMA_CCFG (R468). -/
def A.DMA_CCFG (i : Nat) : Nat := 0x71000 + 0x40 * i
/-- DMA_CCFG.STOP_STYLE. -/
def L.DMA_CCFG_STOP_STYLE (i : Nat) : Loc := ⟨(A.DMA_CCFG i), 31, 1⟩
/-- DMA_CCFG.PACED. -/
def L.DMA_CCFG_PACED (i : Nat) : Loc := ⟨(A.DMA_CCFG i), 30, 1⟩
/-- DMA_CCFG.QUEUE. -/
def L.DMA_CCFG_QUEUE (i : Nat) : Loc := ⟨(A.DMA_CCFG i), 27, 3⟩
/-- DMA_CCFG.PRIO. -/
def L.DMA_CCFG_PRIO (i : Nat) : Loc := ⟨(A.DMA_CCFG i), 25, 2⟩
/-- DMA_CCFG.BURST. -/
def L.DMA_CCFG_BURST (i : Nat) : Loc := ⟨(A.DMA_CCFG i), 16, 8⟩
/-- DMA_CCFG.QSTEP. -/
def L.DMA_CCFG_QSTEP (i : Nat) : Loc := ⟨(A.DMA_CCFG i), 0, 16⟩

/-- Address of DMA_CCTL (R468). -/
def A.DMA_CCTL (i : Nat) : Nat := 0x71004 + 0x40 * i
/-- DMA_CCTL.GO. -/
def L.DMA_CCTL_GO (i : Nat) : Loc := ⟨(A.DMA_CCTL i), 31, 1⟩
/-- DMA_CCTL.STOP. -/
def L.DMA_CCTL_STOP (i : Nat) : Loc := ⟨(A.DMA_CCTL i), 30, 1⟩

/-- Address of DMA_CDESC (R468). -/
def A.DMA_CDESC (i : Nat) : Nat := 0x71008 + 0x40 * i
/-- DMA_CDESC.ADDR. -/
def L.DMA_CDESC_ADDR (i : Nat) : Loc := ⟨(A.DMA_CDESC i), 0, 32⟩

/-- Address of DMA_CSTAT (R468). -/
def A.DMA_CSTAT (i : Nat) : Nat := 0x7100c + 0x40 * i
/-- DMA_CSTAT.STATE. -/
def L.DMA_CSTAT_STATE (i : Nat) : Loc := ⟨(A.DMA_CSTAT i), 29, 3⟩
/-- DMA_CSTAT.REQ. -/
def L.DMA_CSTAT_REQ (i : Nat) : Loc := ⟨(A.DMA_CSTAT i), 28, 1⟩
/-- DMA_CSTAT.CAUSE. -/
def L.DMA_CSTAT_CAUSE (i : Nat) : Loc := ⟨(A.DMA_CSTAT i), 24, 4⟩

/-- Address of DMA_CPOS_SRC (R468). -/
def A.DMA_CPOS_SRC (i : Nat) : Nat := 0x71010 + 0x40 * i
/-- DMA_CPOS_SRC.ADDR. -/
def L.DMA_CPOS_SRC_ADDR (i : Nat) : Loc := ⟨(A.DMA_CPOS_SRC i), 0, 32⟩

/-- Address of DMA_CPOS_DST (R468). -/
def A.DMA_CPOS_DST (i : Nat) : Nat := 0x71014 + 0x40 * i
/-- DMA_CPOS_DST.ADDR. -/
def L.DMA_CPOS_DST_ADDR (i : Nat) : Loc := ⟨(A.DMA_CPOS_DST i), 0, 32⟩

/-- Address of DMA_CIDX (R468). -/
def A.DMA_CIDX (i : Nat) : Nat := 0x71018 + 0x40 * i
/-- DMA_CIDX.I1. -/
def L.DMA_CIDX_I1 (i : Nat) : Loc := ⟨(A.DMA_CIDX i), 16, 16⟩
/-- DMA_CIDX.I0. -/
def L.DMA_CIDX_I0 (i : Nat) : Loc := ⟨(A.DMA_CIDX i), 0, 16⟩

/-- Address of DMA_CIDX2 (R468). -/
def A.DMA_CIDX2 (i : Nat) : Nat := 0x7101c + 0x40 * i
/-- DMA_CIDX2.I2. -/
def L.DMA_CIDX2_I2 (i : Nat) : Loc := ⟨(A.DMA_CIDX2 i), 0, 16⟩

/-- Address of DMA_CCRC (R468). -/
def A.DMA_CCRC (i : Nat) : Nat := 0x71020 + 0x40 * i
/-- DMA_CCRC.CRC. -/
def L.DMA_CCRC_CRC (i : Nat) : Loc := ⟨(A.DMA_CCRC i), 0, 32⟩

/-- Address of DMA_CEVENT (R468). -/
def A.DMA_CEVENT (i : Nat) : Nat := 0x71024 + 0x40 * i
/-- DMA_CEVENT.FETCH_ERR. -/
def L.DMA_CEVENT_FETCH_ERR (i : Nat) : Loc := ⟨(A.DMA_CEVENT i), 5, 1⟩
/-- DMA_CEVENT.EMPTY. -/
def L.DMA_CEVENT_EMPTY (i : Nat) : Loc := ⟨(A.DMA_CEVENT i), 4, 1⟩
/-- DMA_CEVENT.CMD_ERR. -/
def L.DMA_CEVENT_CMD_ERR (i : Nat) : Loc := ⟨(A.DMA_CEVENT i), 3, 1⟩
/-- DMA_CEVENT.ABORTED. -/
def L.DMA_CEVENT_ABORTED (i : Nat) : Loc := ⟨(A.DMA_CEVENT i), 2, 1⟩
/-- DMA_CEVENT.BAD. -/
def L.DMA_CEVENT_BAD (i : Nat) : Loc := ⟨(A.DMA_CEVENT i), 1, 1⟩
/-- DMA_CEVENT.DONE. -/
def L.DMA_CEVENT_DONE (i : Nat) : Loc := ⟨(A.DMA_CEVENT i), 0, 1⟩

/-- Address of DMA_CCNT (R468). -/
def A.DMA_CCNT (i : Nat) : Nat := 0x71028 + 0x40 * i
/-- DMA_CCNT.DESC. -/
def L.DMA_CCNT_DESC (i : Nat) : Loc := ⟨(A.DMA_CCNT i), 16, 16⟩
/-- DMA_CCNT.BADS. -/
def L.DMA_CCNT_BADS (i : Nat) : Loc := ⟨(A.DMA_CCNT i), 0, 16⟩

/-- Address of DMA_CNOTE (R468). -/
def A.DMA_CNOTE (i : Nat) : Nat := 0x7102c + 0x40 * i
/-- DMA_CNOTE.HOST. -/
def L.DMA_CNOTE_HOST (i : Nat) : Loc := ⟨(A.DMA_CNOTE i), 31, 1⟩
/-- DMA_CNOTE.VEC. -/
def L.DMA_CNOTE_VEC (i : Nat) : Loc := ⟨(A.DMA_CNOTE i), 16, 6⟩
/-- DMA_CNOTE.BEAD. -/
def L.DMA_CNOTE_BEAD (i : Nat) : Loc := ⟨(A.DMA_CNOTE i), 0, 4⟩

/-- Address of MON_CTL (R484). -/
def A.MON_CTL : Nat := 0x80000
/-- MON_CTL.RUN. -/
def L.MON_CTL_RUN : Loc := ⟨A.MON_CTL, 31, 1⟩
/-- MON_CTL.LP. -/
def L.MON_CTL_LP : Loc := ⟨A.MON_CTL, 30, 1⟩

/-- Address of MON_STAT (R484). -/
def A.MON_STAT : Nat := 0x80004
/-- MON_STAT.RUN_ACT. -/
def L.MON_STAT_RUN_ACT : Loc := ⟨A.MON_STAT, 31, 1⟩
/-- MON_STAT.BUSY. -/
def L.MON_STAT_BUSY : Loc := ⟨A.MON_STAT, 24, 4⟩
/-- MON_STAT.LP_ACT. -/
def L.MON_STAT_LP_ACT : Loc := ⟨A.MON_STAT, 20, 4⟩
/-- MON_STAT.BADENT. -/
def L.MON_STAT_BADENT : Loc := ⟨A.MON_STAT, 0, 6⟩

/-- Address of MON_PTR (R484). -/
def A.MON_PTR : Nat := 0x80008
/-- MON_PTR.PTR3. -/
def L.MON_PTR_PTR3 : Loc := ⟨A.MON_PTR, 24, 6⟩
/-- MON_PTR.PTR2. -/
def L.MON_PTR_PTR2 : Loc := ⟨A.MON_PTR, 16, 6⟩
/-- MON_PTR.PTR1. -/
def L.MON_PTR_PTR1 : Loc := ⟨A.MON_PTR, 8, 6⟩
/-- MON_PTR.PTR0. -/
def L.MON_PTR_PTR0 : Loc := ⟨A.MON_PTR, 0, 6⟩

/-- Address of MON_TRIG (R484). -/
def A.MON_TRIG : Nat := 0x8000c
/-- MON_TRIG.PWM. -/
def L.MON_TRIG_PWM : Loc := ⟨A.MON_TRIG, 30, 2⟩
/-- MON_TRIG.EDGE. -/
def L.MON_TRIG_EDGE : Loc := ⟨A.MON_TRIG, 29, 1⟩
/-- MON_TRIG.PWMDLY. -/
def L.MON_TRIG_PWMDLY : Loc := ⟨A.MON_TRIG, 16, 13⟩
/-- MON_TRIG.TIMER. -/
def L.MON_TRIG_TIMER : Loc := ⟨A.MON_TRIG, 0, 16⟩

/-- Address of MON_MAINS_CFG (R484). -/
def A.MON_MAINS_CFG : Nat := 0x80010
/-- MON_MAINS_CFG.EDGE. -/
def L.MON_MAINS_CFG_EDGE : Loc := ⟨A.MON_MAINS_CFG, 31, 1⟩
/-- MON_MAINS_CFG.NOM. -/
def L.MON_MAINS_CFG_NOM : Loc := ⟨A.MON_MAINS_CFG, 30, 1⟩

/-- Address of MON_MAINS_STAT (R484). -/
def A.MON_MAINS_STAT : Nat := 0x80014
/-- MON_MAINS_STAT.VALID. -/
def L.MON_MAINS_STAT_VALID : Loc := ⟨A.MON_MAINS_STAT, 31, 1⟩
/-- MON_MAINS_STAT.HELD. -/
def L.MON_MAINS_STAT_HELD : Loc := ⟨A.MON_MAINS_STAT, 30, 1⟩
/-- MON_MAINS_STAT.PERIOD. -/
def L.MON_MAINS_STAT_PERIOD : Loc := ⟨A.MON_MAINS_STAT, 0, 20⟩

/-- Address of MON_HYST (R484). -/
def A.MON_HYST : Nat := 0x80018
/-- MON_HYST.HYST. -/
def L.MON_HYST_HYST : Loc := ⟨A.MON_HYST, 0, 24⟩

/-- Address of MON_EVENT (R484). -/
def A.MON_EVENT : Nat := 0x80020
/-- MON_EVENT.TRIG_TMO. -/
def L.MON_EVENT_TRIG_TMO : Loc := ⟨A.MON_EVENT, 4, 1⟩
/-- MON_EVENT.CFG_ERR. -/
def L.MON_EVENT_CFG_ERR : Loc := ⟨A.MON_EVENT, 3, 1⟩
/-- MON_EVENT.OVR. -/
def L.MON_EVENT_OVR : Loc := ⟨A.MON_EVENT, 2, 1⟩
/-- MON_EVENT.MAINS_OK. -/
def L.MON_EVENT_MAINS_OK : Loc := ⟨A.MON_EVENT, 1, 1⟩
/-- MON_EVENT.MAINS_LOST. -/
def L.MON_EVENT_MAINS_LOST : Loc := ⟨A.MON_EVENT, 0, 1⟩

/-- Address of MON_THI_LO (R484). -/
def A.MON_THI_LO : Nat := 0x80024
/-- MON_THI_LO.THI. -/
def L.MON_THI_LO_THI : Loc := ⟨A.MON_THI_LO, 0, 32⟩

/-- Address of MON_THI_HI (R484). -/
def A.MON_THI_HI : Nat := 0x80028
/-- MON_THI_HI.THI. -/
def L.MON_THI_HI_THI : Loc := ⟨A.MON_THI_HI, 0, 32⟩

/-- Address of MON_TLO_LO (R484). -/
def A.MON_TLO_LO : Nat := 0x8002c
/-- MON_TLO_LO.TLO. -/
def L.MON_TLO_LO_TLO : Loc := ⟨A.MON_TLO_LO, 0, 32⟩

/-- Address of MON_TLO_HI (R484). -/
def A.MON_TLO_HI : Nat := 0x80030
/-- MON_TLO_HI.TLO. -/
def L.MON_TLO_HI_TLO : Loc := ⟨A.MON_TLO_HI, 0, 32⟩

/-- Address of MON_CNT (R484). -/
def A.MON_CNT : Nat := 0x80034
/-- MON_CNT.SKIP. -/
def L.MON_CNT_SKIP : Loc := ⟨A.MON_CNT, 16, 16⟩
/-- MON_CNT.OVR. -/
def L.MON_CNT_OVR : Loc := ⟨A.MON_CNT, 0, 16⟩

/-- Address of MON_ENTRY (R484). -/
def A.MON_ENTRY (i j : Nat) : Nat := 0x80100 + 0x10 * i + 0x4 * j
/-- MON_ENTRY.WORD. -/
def L.MON_ENTRY_WORD (i j : Nat) : Loc := ⟨(A.MON_ENTRY i j), 0, 32⟩

/-- Address of MON_RES_W0 (R484). -/
def A.MON_RES_W0 (i : Nat) : Nat := 0x80800 + 0x10 * i
/-- MON_RES_W0.WORD. -/
def L.MON_RES_W0_WORD (i : Nat) : Loc := ⟨(A.MON_RES_W0 i), 0, 32⟩

/-- Address of MON_RES_W1 (R484). -/
def A.MON_RES_W1 (i : Nat) : Nat := 0x80804 + 0x10 * i
/-- MON_RES_W1.WORD. -/
def L.MON_RES_W1_WORD (i : Nat) : Loc := ⟨(A.MON_RES_W1 i), 0, 32⟩

/-- Address of MON_RES_W2 (R484). -/
def A.MON_RES_W2 (i : Nat) : Nat := 0x80808 + 0x10 * i
/-- MON_RES_W2.WORD. -/
def L.MON_RES_W2_WORD (i : Nat) : Loc := ⟨(A.MON_RES_W2 i), 0, 32⟩

/-- Address of MON_RES_W3 (R484). -/
def A.MON_RES_W3 (i : Nat) : Nat := 0x8080c + 0x10 * i
/-- MON_RES_W3.WORD. -/
def L.MON_RES_W3_WORD (i : Nat) : Loc := ⟨(A.MON_RES_W3 i), 0, 32⟩

/-- Address of MON_PWM_CFG (R484). -/
def A.MON_PWM_CFG (i : Nat) : Nat := 0x81000 + 0x10 * i
/-- MON_PWM_CFG.EN. -/
def L.MON_PWM_CFG_EN (i : Nat) : Loc := ⟨(A.MON_PWM_CFG i), 31, 1⟩
/-- MON_PWM_CFG.PER. -/
def L.MON_PWM_CFG_PER (i : Nat) : Loc := ⟨(A.MON_PWM_CFG i), 0, 24⟩

/-- Address of MON_PWM_DUTY (R484). -/
def A.MON_PWM_DUTY (i : Nat) : Nat := 0x81004 + 0x10 * i
/-- MON_PWM_DUTY.DUTY. -/
def L.MON_PWM_DUTY_DUTY (i : Nat) : Loc := ⟨(A.MON_PWM_DUTY i), 0, 17⟩

/-- Address of DMP_CEIL0 (R315). -/
def A.DMP_CEIL0 : Nat := 0x90000
/-- DMP_CEIL0.PK. -/
def L.DMP_CEIL0_PK : Loc := ⟨A.DMP_CEIL0, 16, 16⟩
/-- DMP_CEIL0.AVG. -/
def L.DMP_CEIL0_AVG : Loc := ⟨A.DMP_CEIL0, 0, 16⟩

/-- Address of DMP_CEIL1 (R315). -/
def A.DMP_CEIL1 : Nat := 0x90004
/-- DMP_CEIL1.ARRAY. -/
def L.DMP_CEIL1_ARRAY : Loc := ⟨A.DMP_CEIL1, 16, 16⟩
/-- DMP_CEIL1.COOL_MIN. -/
def L.DMP_CEIL1_COOL_MIN : Loc := ⟨A.DMP_CEIL1, 8, 8⟩
/-- DMP_CEIL1.STRIKES. -/
def L.DMP_CEIL1_STRIKES : Loc := ⟨A.DMP_CEIL1, 4, 4⟩
/-- DMP_CEIL1.COEX_ENF. -/
def L.DMP_CEIL1_COEX_ENF : Loc := ⟨A.DMP_CEIL1, 0, 4⟩

/-- Address of DMP_CEIL2 (R315). -/
def A.DMP_CEIL2 : Nat := 0x90008
/-- DMP_CEIL2.TRIP_EN. -/
def L.DMP_CEIL2_TRIP_EN : Loc := ⟨A.DMP_CEIL2, 24, 8⟩
/-- DMP_CEIL2.DUTY. -/
def L.DMP_CEIL2_DUTY : Loc := ⟨A.DMP_CEIL2, 0, 9⟩

/-- Address of DMP_CEIL_TMAP (R315). -/
def A.DMP_CEIL_TMAP (i : Nat) : Nat := 0x90010 + 0x4 * i
/-- DMP_CEIL_TMAP.MAP. -/
def L.DMP_CEIL_TMAP_MAP (i : Nat) : Loc := ⟨(A.DMP_CEIL_TMAP i), 0, 32⟩

/-- Address of DMP_OBAND_LO (R315). -/
def A.DMP_OBAND_LO (i : Nat) : Nat := 0x90020 + 0x8 * i
/-- DMP_OBAND_LO.VALID. -/
def L.DMP_OBAND_LO_VALID (i : Nat) : Loc := ⟨(A.DMP_OBAND_LO i), 31, 1⟩
/-- DMP_OBAND_LO.LO. -/
def L.DMP_OBAND_LO_LO (i : Nat) : Loc := ⟨(A.DMP_OBAND_LO i), 0, 24⟩

/-- Address of DMP_OBAND_HI (R315). -/
def A.DMP_OBAND_HI (i : Nat) : Nat := 0x90024 + 0x8 * i
/-- DMP_OBAND_HI.HI. -/
def L.DMP_OBAND_HI_HI (i : Nat) : Loc := ⟨(A.DMP_OBAND_HI i), 0, 24⟩

/-- Address of DMP_LIM0 (R315). -/
def A.DMP_LIM0 : Nat := 0x90100
/-- DMP_LIM0.PK. -/
def L.DMP_LIM0_PK : Loc := ⟨A.DMP_LIM0, 16, 16⟩
/-- DMP_LIM0.AVG. -/
def L.DMP_LIM0_AVG : Loc := ⟨A.DMP_LIM0, 0, 16⟩

/-- Address of DMP_LIM1 (R315). -/
def A.DMP_LIM1 : Nat := 0x90104
/-- DMP_LIM1.ARRAY. -/
def L.DMP_LIM1_ARRAY : Loc := ⟨A.DMP_LIM1, 16, 16⟩
/-- DMP_LIM1.COOL. -/
def L.DMP_LIM1_COOL : Loc := ⟨A.DMP_LIM1, 8, 8⟩

/-- Address of DMP_LIM2 (R315). -/
def A.DMP_LIM2 : Nat := 0x90108
/-- DMP_LIM2.TRIP_EN. -/
def L.DMP_LIM2_TRIP_EN : Loc := ⟨A.DMP_LIM2, 24, 8⟩
/-- DMP_LIM2.BAND_EN. -/
def L.DMP_LIM2_BAND_EN : Loc := ⟨A.DMP_LIM2, 16, 8⟩
/-- DMP_LIM2.DUTY. -/
def L.DMP_LIM2_DUTY : Loc := ⟨A.DMP_LIM2, 0, 9⟩

/-- Address of DMP_LIM_TMAP (R315). -/
def A.DMP_LIM_TMAP (i : Nat) : Nat := 0x90110 + 0x4 * i
/-- DMP_LIM_TMAP.MAP. -/
def L.DMP_LIM_TMAP_MAP (i : Nat) : Loc := ⟨(A.DMP_LIM_TMAP i), 0, 32⟩

/-- Address of DMP_FBAND_LO (R315). -/
def A.DMP_FBAND_LO (i : Nat) : Nat := 0x90120 + 0x8 * i
/-- DMP_FBAND_LO.LO. -/
def L.DMP_FBAND_LO_LO (i : Nat) : Loc := ⟨(A.DMP_FBAND_LO i), 0, 24⟩

/-- Address of DMP_FBAND_HI (R315). -/
def A.DMP_FBAND_HI (i : Nat) : Nat := 0x90124 + 0x8 * i
/-- DMP_FBAND_HI.HI. -/
def L.DMP_FBAND_HI_HI (i : Nat) : Loc := ⟨(A.DMP_FBAND_HI i), 0, 24⟩

/-- Address of DMP_STAT (R315). -/
def A.DMP_STAT : Nat := 0x90200
/-- DMP_STAT.ARR_PWR. -/
def L.DMP_STAT_ARR_PWR : Loc := ⟨A.DMP_STAT, 16, 16⟩
/-- DMP_STAT.INHIBIT. -/
def L.DMP_STAT_INHIBIT : Loc := ⟨A.DMP_STAT, 15, 1⟩
/-- DMP_STAT.THERM. -/
def L.DMP_STAT_THERM : Loc := ⟨A.DMP_STAT, 14, 1⟩
/-- DMP_STAT.TRIP. -/
def L.DMP_STAT_TRIP : Loc := ⟨A.DMP_STAT, 0, 8⟩

/-- Address of DMP_EVENT (R315). -/
def A.DMP_EVENT : Nat := 0x90204
/-- DMP_EVENT.LOCKOUT. -/
def L.DMP_EVENT_LOCKOUT : Loc := ⟨A.DMP_EVENT, 7, 1⟩
/-- DMP_EVENT.REFUSE. -/
def L.DMP_EVENT_REFUSE : Loc := ⟨A.DMP_EVENT, 6, 1⟩
/-- DMP_EVENT.INHIBIT. -/
def L.DMP_EVENT_INHIBIT : Loc := ⟨A.DMP_EVENT, 5, 1⟩
/-- DMP_EVENT.THERM. -/
def L.DMP_EVENT_THERM : Loc := ⟨A.DMP_EVENT, 4, 1⟩
/-- DMP_EVENT.TRIP. -/
def L.DMP_EVENT_TRIP : Loc := ⟨A.DMP_EVENT, 3, 1⟩
/-- DMP_EVENT.ARRAY. -/
def L.DMP_EVENT_ARRAY : Loc := ⟨A.DMP_EVENT, 2, 1⟩
/-- DMP_EVENT.RELEASE. -/
def L.DMP_EVENT_RELEASE : Loc := ⟨A.DMP_EVENT, 1, 1⟩
/-- DMP_EVENT.HOLD. -/
def L.DMP_EVENT_HOLD : Loc := ⟨A.DMP_EVENT, 0, 1⟩

/-- Address of DMP_REARM (R315). -/
def A.DMP_REARM : Nat := 0x90208
/-- DMP_REARM.GO. -/
def L.DMP_REARM_GO : Loc := ⟨A.DMP_REARM, 31, 1⟩
/-- DMP_REARM.ALL. -/
def L.DMP_REARM_ALL : Loc := ⟨A.DMP_REARM, 30, 1⟩
/-- DMP_REARM.PATH. -/
def L.DMP_REARM_PATH : Loc := ⟨A.DMP_REARM, 0, 6⟩

/-- Address of DMP_CNT (R315). -/
def A.DMP_CNT : Nat := 0x9020c
/-- DMP_CNT.HOLDS. -/
def L.DMP_CNT_HOLDS : Loc := ⟨A.DMP_CNT, 16, 16⟩
/-- DMP_CNT.REFUSED. -/
def L.DMP_CNT_REFUSED : Loc := ⟨A.DMP_CNT, 0, 16⟩

/-- Address of DMP_LOCK (R315). -/
def A.DMP_LOCK : Nat := 0x902fc
/-- DMP_LOCK.LOCK. -/
def L.DMP_LOCK_LOCK : Loc := ⟨A.DMP_LOCK, 0, 1⟩

/-- Address of DMP_PSTAT (R315). -/
def A.DMP_PSTAT (i : Nat) : Nat := 0x91000 + 0x40 * i
/-- DMP_PSTAT.STATE. -/
def L.DMP_PSTAT_STATE (i : Nat) : Loc := ⟨(A.DMP_PSTAT i), 30, 2⟩
/-- DMP_PSTAT.FORCED. -/
def L.DMP_PSTAT_FORCED (i : Nat) : Loc := ⟨(A.DMP_PSTAT i), 29, 1⟩
/-- DMP_PSTAT.CAUSE. -/
def L.DMP_PSTAT_CAUSE (i : Nat) : Loc := ⟨(A.DMP_PSTAT i), 21, 8⟩
/-- DMP_PSTAT.STRIKES. -/
def L.DMP_PSTAT_STRIKES (i : Nat) : Loc := ⟨(A.DMP_PSTAT i), 12, 4⟩
/-- DMP_PSTAT.COOL_LEFT. -/
def L.DMP_PSTAT_COOL_LEFT (i : Nat) : Loc := ⟨(A.DMP_PSTAT i), 0, 8⟩

/-- Address of DMP_PGATE (R315). -/
def A.DMP_PGATE (i : Nat) : Nat := 0x91004 + 0x40 * i
/-- DMP_PGATE.GATE. -/
def L.DMP_PGATE_GATE (i : Nat) : Loc := ⟨(A.DMP_PGATE i), 0, 4⟩

/-- Address of DMP_PPWR (R315). -/
def A.DMP_PPWR (i : Nat) : Nat := 0x91008 + 0x40 * i
/-- DMP_PPWR.AVG. -/
def L.DMP_PPWR_AVG (i : Nat) : Loc := ⟨(A.DMP_PPWR i), 16, 16⟩
/-- DMP_PPWR.PK. -/
def L.DMP_PPWR_PK (i : Nat) : Loc := ⟨(A.DMP_PPWR i), 0, 16⟩

/-- Address of DMP_PDUTY (R315). -/
def A.DMP_PDUTY (i : Nat) : Nat := 0x9100c + 0x40 * i
/-- DMP_PDUTY.BLOCKS. -/
def L.DMP_PDUTY_BLOCKS (i : Nat) : Loc := ⟨(A.DMP_PDUTY i), 0, 14⟩

/-- Address of AIR_CFG (R281). -/
def A.AIR_CFG : Nat := 0xa0000
/-- AIR_CFG.GO. -/
def L.AIR_CFG_GO : Loc := ⟨A.AIR_CFG, 31, 1⟩
/-- AIR_CFG.MODE. -/
def L.AIR_CFG_MODE : Loc := ⟨A.AIR_CFG, 30, 1⟩
/-- AIR_CFG.SCS_REF. -/
def L.AIR_CFG_SCS_REF : Loc := ⟨A.AIR_CFG, 26, 2⟩
/-- AIR_CFG.PERIOD. -/
def L.AIR_CFG_PERIOD : Loc := ⟨A.AIR_CFG, 20, 4⟩
/-- AIR_CFG.CHK_LEAD. -/
def L.AIR_CFG_CHK_LEAD : Loc := ⟨A.AIR_CFG, 0, 16⟩

/-- Address of AIR_STAT (R281). -/
def A.AIR_STAT : Nat := 0xa0004
/-- AIR_STAT.PEND. -/
def L.AIR_STAT_PEND : Loc := ⟨A.AIR_STAT, 31, 1⟩
/-- AIR_STAT.ERR. -/
def L.AIR_STAT_ERR : Loc := ⟨A.AIR_STAT, 30, 1⟩
/-- AIR_STAT.NSYM. -/
def L.AIR_STAT_NSYM : Loc := ⟨A.AIR_STAT, 20, 10⟩

/-- Address of AIR_PAT (R281). -/
def A.AIR_PAT (i : Nat) : Nat := 0xa0040 + 0x4 * i
/-- AIR_PAT.SYMS. -/
def L.AIR_PAT_SYMS (i : Nat) : Loc := ⟨(A.AIR_PAT i), 0, 32⟩

/-- Address of COEX_CFG (R281). -/
def A.COEX_CFG (i : Nat) : Nat := 0xa1000 + 0x100 * i
/-- COEX_CFG.ROLE. -/
def L.COEX_CFG_ROLE (i : Nat) : Loc := ⟨(A.COEX_CFG i), 30, 2⟩
/-- COEX_CFG.GATE. -/
def L.COEX_CFG_GATE (i : Nat) : Loc := ⟨(A.COEX_CFG i), 29, 1⟩
/-- COEX_CFG.PRIO. -/
def L.COEX_CFG_PRIO (i : Nat) : Loc := ⟨(A.COEX_CFG i), 28, 1⟩
/-- COEX_CFG.PREEMPT. -/
def L.COEX_CFG_PREEMPT (i : Nat) : Loc := ⟨(A.COEX_CFG i), 27, 1⟩
/-- COEX_CFG.REQ_LEAD. -/
def L.COEX_CFG_REQ_LEAD (i : Nat) : Loc := ⟨(A.COEX_CFG i), 0, 16⟩

/-- Address of COEX_TIME (R281). -/
def A.COEX_TIME (i : Nat) : Nat := 0xa1004 + 0x100 * i
/-- COEX_TIME.DGL. -/
def L.COEX_TIME_DGL (i : Nat) : Loc := ⟨(A.COEX_TIME i), 24, 8⟩
/-- COEX_TIME.MAXHOLD. -/
def L.COEX_TIME_MAXHOLD (i : Nat) : Loc := ⟨(A.COEX_TIME i), 16, 8⟩
/-- COEX_TIME.MIN_GAP. -/
def L.COEX_TIME_MIN_GAP (i : Nat) : Loc := ⟨(A.COEX_TIME i), 8, 8⟩

/-- Address of COEX_STAT (R281). -/
def A.COEX_STAT (i : Nat) : Nat := 0xa1008 + 0x100 * i
/-- COEX_STAT.IN. -/
def L.COEX_STAT_IN (i : Nat) : Loc := ⟨(A.COEX_STAT i), 28, 4⟩
/-- COEX_STAT.STUCK. -/
def L.COEX_STAT_STUCK (i : Nat) : Loc := ⟨(A.COEX_STAT i), 24, 4⟩

/-- Address of COEX_EVENT (R281). -/
def A.COEX_EVENT (i : Nat) : Nat := 0xa100c + 0x100 * i
/-- COEX_EVENT.VIOL. -/
def L.COEX_EVENT_VIOL (i : Nat) : Loc := ⟨(A.COEX_EVENT i), 3, 1⟩
/-- COEX_EVENT.FAST. -/
def L.COEX_EVENT_FAST (i : Nat) : Loc := ⟨(A.COEX_EVENT i), 2, 1⟩
/-- COEX_EVENT.STUCK. -/
def L.COEX_EVENT_STUCK (i : Nat) : Loc := ⟨(A.COEX_EVENT i), 1, 1⟩
/-- COEX_EVENT.NO_GRANT. -/
def L.COEX_EVENT_NO_GRANT (i : Nat) : Loc := ⟨(A.COEX_EVENT i), 0, 1⟩

/-- Address of COEX_CNT (R281). -/
def A.COEX_CNT (i : Nat) : Nat := 0xa1010 + 0x100 * i
/-- COEX_CNT.FAST. -/
def L.COEX_CNT_FAST (i : Nat) : Loc := ⟨(A.COEX_CNT i), 16, 16⟩
/-- COEX_CNT.NO_GRANT. -/
def L.COEX_CNT_NO_GRANT (i : Nat) : Loc := ⟨(A.COEX_CNT i), 0, 16⟩

/-- Address of TUN_CFG (R281). -/
def A.TUN_CFG (i : Nat) : Nat := 0xa2000 + 0x100 * i
/-- TUN_CFG.EN. -/
def L.TUN_CFG_EN (i : Nat) : Loc := ⟨(A.TUN_CFG i), 31, 1⟩
/-- TUN_CFG.DIV. -/
def L.TUN_CFG_DIV (i : Nat) : Loc := ⟨(A.TUN_CFG i), 16, 10⟩
/-- TUN_CFG.DRIVE. -/
def L.TUN_CFG_DRIVE (i : Nat) : Loc := ⟨(A.TUN_CFG i), 14, 2⟩
/-- TUN_CFG.LEN. -/
def L.TUN_CFG_LEN (i : Nat) : Loc := ⟨(A.TUN_CFG i), 8, 6⟩
/-- TUN_CFG.LEAD. -/
def L.TUN_CFG_LEAD (i : Nat) : Loc := ⟨(A.TUN_CFG i), 0, 8⟩

/-- Address of TUN_DATA (R281). -/
def A.TUN_DATA (i : Nat) : Nat := 0xa2004 + 0x100 * i
/-- TUN_DATA.WORD. -/
def L.TUN_DATA_WORD (i : Nat) : Loc := ⟨(A.TUN_DATA i), 0, 32⟩

/-- Address of TUN_PUSH (R281). -/
def A.TUN_PUSH (i : Nat) : Nat := 0xa2008 + 0x100 * i
/-- TUN_PUSH.GO. -/
def L.TUN_PUSH_GO (i : Nat) : Loc := ⟨(A.TUN_PUSH i), 31, 1⟩
/-- TUN_PUSH.WHEN. -/
def L.TUN_PUSH_WHEN (i : Nat) : Loc := ⟨(A.TUN_PUSH i), 29, 2⟩
/-- TUN_PUSH.M. -/
def L.TUN_PUSH_M (i : Nat) : Loc := ⟨(A.TUN_PUSH i), 0, 3⟩

/-- Address of TUN_STAT (R281). -/
def A.TUN_STAT (i : Nat) : Nat := 0xa200c + 0x100 * i
/-- TUN_STAT.BUSY. -/
def L.TUN_STAT_BUSY (i : Nat) : Loc := ⟨(A.TUN_STAT i), 31, 1⟩
/-- TUN_STAT.OVF. -/
def L.TUN_STAT_OVF (i : Nat) : Loc := ⟨(A.TUN_STAT i), 30, 1⟩
/-- TUN_STAT.LATE. -/
def L.TUN_STAT_LATE (i : Nat) : Loc := ⟨(A.TUN_STAT i), 29, 1⟩
/-- TUN_STAT.LEVEL. -/
def L.TUN_STAT_LEVEL (i : Nat) : Loc := ⟨(A.TUN_STAT i), 0, 5⟩

/-- Address of FH_CFG (R333). -/
def A.FH_CFG : Nat := 0xb0000
/-- FH_CFG.MODE_ERR. -/
def L.FH_CFG_MODE_ERR : Loc := ⟨A.FH_CFG, 7, 1⟩
/-- FH_CFG.FWD_EN. -/
def L.FH_CFG_FWD_EN : Loc := ⟨A.FH_CFG, 6, 1⟩
/-- FH_CFG.FEC25. -/
def L.FH_CFG_FEC25 : Loc := ⟨A.FH_CFG, 5, 1⟩
/-- FH_CFG.DUAL. -/
def L.FH_CFG_DUAL : Loc := ⟨A.FH_CFG, 4, 1⟩
/-- FH_CFG.MODE. -/
def L.FH_CFG_MODE : Loc := ⟨A.FH_CFG, 0, 4⟩

/-- Address of FH_UNIT (R333). -/
def A.FH_UNIT : Nat := 0xb0004
/-- FH_UNIT.UNIT. -/
def L.FH_UNIT_UNIT : Loc := ⟨A.FH_UNIT, 0, 16⟩

/-- Address of FH_CASC (R333). -/
def A.FH_CASC : Nat := 0xb0008
/-- FH_CASC.DOWN_HI. -/
def L.FH_CASC_DOWN_HI : Loc := ⟨A.FH_CASC, 16, 16⟩
/-- FH_CASC.DOWN_LO. -/
def L.FH_CASC_DOWN_LO : Loc := ⟨A.FH_CASC, 0, 16⟩

/-- Address of FH_MAC_LO (R333). -/
def A.FH_MAC_LO : Nat := 0xb0010
/-- FH_MAC_LO.ADDR_LO. -/
def L.FH_MAC_LO_ADDR_LO : Loc := ⟨A.FH_MAC_LO, 0, 32⟩

/-- Address of FH_MAC_HI (R333). -/
def A.FH_MAC_HI : Nat := 0xb0014
/-- FH_MAC_HI.ADDR_HI. -/
def L.FH_MAC_HI_ADDR_HI : Loc := ⟨A.FH_MAC_HI, 0, 16⟩

/-- Address of FH_MACGRP_LO (R333). -/
def A.FH_MACGRP_LO : Nat := 0xb0018
/-- FH_MACGRP_LO.ADDR_LO. -/
def L.FH_MACGRP_LO_ADDR_LO : Loc := ⟨A.FH_MACGRP_LO, 0, 32⟩

/-- Address of FH_MACGRP_HI (R333). -/
def A.FH_MACGRP_HI : Nat := 0xb001c
/-- FH_MACGRP_HI.ADDR_HI. -/
def L.FH_MACGRP_HI_ADDR_HI : Loc := ⟨A.FH_MACGRP_HI, 0, 16⟩

/-- Address of FH_VLAN (R333). -/
def A.FH_VLAN : Nat := 0xb0020
/-- FH_VLAN.PCP_MGT. -/
def L.FH_VLAN_PCP_MGT : Loc := ⟨A.FH_VLAN, 24, 3⟩
/-- FH_VLAN.PCP_GST. -/
def L.FH_VLAN_PCP_GST : Loc := ⟨A.FH_VLAN, 20, 3⟩
/-- FH_VLAN.PCP_PTP. -/
def L.FH_VLAN_PCP_PTP : Loc := ⟨A.FH_VLAN, 16, 3⟩
/-- FH_VLAN.UNTAG_OK. -/
def L.FH_VLAN_UNTAG_OK : Loc := ⟨A.FH_VLAN, 12, 1⟩
/-- FH_VLAN.VID. -/
def L.FH_VLAN_VID : Loc := ⟨A.FH_VLAN, 0, 12⟩

/-- Address of FH_ULRES (R333). -/
def A.FH_ULRES : Nat := 0xb0024
/-- FH_ULRES.RES. -/
def L.FH_ULRES_RES : Loc := ⟨A.FH_ULRES, 0, 16⟩

/-- Address of FH_PTP (R333). -/
def A.FH_PTP : Nat := 0xb0028
/-- FH_PTP.TC_EN. -/
def L.FH_PTP_TC_EN : Loc := ⟨A.FH_PTP, 8, 1⟩
/-- FH_PTP.DOMAIN. -/
def L.FH_PTP_DOMAIN : Loc := ⟨A.FH_PTP, 0, 8⟩

/-- Address of FH_LOCK (R333). -/
def A.FH_LOCK : Nat := 0xb00fc
/-- FH_LOCK.LOCK. -/
def L.FH_LOCK_LOCK : Loc := ⟨A.FH_LOCK, 0, 1⟩

/-- Address of FH_PSTAT (R333). -/
def A.FH_PSTAT (i : Nat) : Nat := 0xb1000 + 0x100 * i
/-- FH_PSTAT.LSTATE. -/
def L.FH_PSTAT_LSTATE (i : Nat) : Loc := ⟨(A.FH_PSTAT i), 30, 2⟩
/-- FH_PSTAT.RFAULT. -/
def L.FH_PSTAT_RFAULT (i : Nat) : Loc := ⟨(A.FH_PSTAT i), 29, 1⟩
/-- FH_PSTAT.FEC_DEGR. -/
def L.FH_PSTAT_FEC_DEGR (i : Nat) : Loc := ⟨(A.FH_PSTAT i), 28, 1⟩
/-- FH_PSTAT.SIG. -/
def L.FH_PSTAT_SIG (i : Nat) : Loc := ⟨(A.FH_PSTAT i), 0, 8⟩

/-- Address of FH_PEVENT (R333). -/
def A.FH_PEVENT (i : Nat) : Nat := 0xb1004 + 0x100 * i
/-- FH_PEVENT.FWD_DROP. -/
def L.FH_PEVENT_FWD_DROP (i : Nat) : Loc := ⟨(A.FH_PEVENT i), 5, 1⟩
/-- FH_PEVENT.EG_DROP. -/
def L.FH_PEVENT_EG_DROP (i : Nat) : Loc := ⟨(A.FH_PEVENT i), 4, 1⟩
/-- FH_PEVENT.FEC_DEGR. -/
def L.FH_PEVENT_FEC_DEGR (i : Nat) : Loc := ⟨(A.FH_PEVENT i), 3, 1⟩
/-- FH_PEVENT.RFAULT. -/
def L.FH_PEVENT_RFAULT (i : Nat) : Loc := ⟨(A.FH_PEVENT i), 2, 1⟩
/-- FH_PEVENT.LINK_UP. -/
def L.FH_PEVENT_LINK_UP (i : Nat) : Loc := ⟨(A.FH_PEVENT i), 1, 1⟩
/-- FH_PEVENT.LINK_DOWN. -/
def L.FH_PEVENT_LINK_DOWN (i : Nat) : Loc := ⟨(A.FH_PEVENT i), 0, 1⟩

/-- Address of FH_TSCORR (R333). -/
def A.FH_TSCORR (i : Nat) : Nat := 0xb1008 + 0x100 * i
/-- FH_TSCORR.ING. -/
def L.FH_TSCORR_ING (i : Nat) : Loc := ⟨(A.FH_TSCORR i), 16, 16⟩
/-- FH_TSCORR.EGR. -/
def L.FH_TSCORR_EGR (i : Nat) : Loc := ⟨(A.FH_TSCORR i), 0, 16⟩

/-- Address of FH_FECTHR (R333). -/
def A.FH_FECTHR (i : Nat) : Nat := 0xb100c + 0x100 * i
/-- FH_FECTHR.THR. -/
def L.FH_FECTHR_THR (i : Nat) : Loc := ⟨(A.FH_FECTHR i), 0, 24⟩

/-- Address of FH_CNT (R333). -/
def A.FH_CNT (i j : Nat) : Nat := 0xb1040 + 0x100 * i + 0x4 * j
/-- FH_CNT.COUNT. -/
def L.FH_CNT_COUNT (i j : Nat) : Loc := ⟨(A.FH_CNT i j), 0, 32⟩

/-- Address of GST_CFG (R360). -/
def A.GST_CFG : Nat := 0xc0000
/-- GST_CFG.UFLOW. -/
def L.GST_CFG_UFLOW : Loc := ⟨A.GST_CFG, 24, 8⟩
/-- GST_CFG.PEER. -/
def L.GST_CFG_PEER : Loc := ⟨A.GST_CFG, 0, 16⟩

/-- Address of GST_UCFG (R360). -/
def A.GST_UCFG : Nat := 0xc0004
/-- GST_UCFG.UL_DLY. -/
def L.GST_UCFG_UL_DLY : Loc := ⟨A.GST_UCFG, 20, 12⟩
/-- GST_UCFG.MTU. -/
def L.GST_UCFG_MTU : Loc := ⟨A.GST_UCFG, 0, 14⟩

/-- Address of GST_TDCFG (R360). -/
def A.GST_TDCFG : Nat := 0xc0008
/-- GST_TDCFG.TD_MW. -/
def L.GST_TDCFG_TD_MW : Loc := ⟨A.GST_TDCFG, 16, 4⟩
/-- GST_TDCFG.NBLK. -/
def L.GST_TDCFG_NBLK : Loc := ⟨A.GST_TDCFG, 0, 12⟩

/-- Address of GST_BUFSTAT (R360). -/
def A.GST_BUFSTAT : Nat := 0xc000c
/-- GST_BUFSTAT.DESC. -/
def L.GST_BUFSTAT_DESC : Loc := ⟨A.GST_BUFSTAT, 16, 15⟩
/-- GST_BUFSTAT.KIB. -/
def L.GST_BUFSTAT_KIB : Loc := ⟨A.GST_BUFSTAT, 0, 14⟩

/-- Address of GST_MRING (R360). -/
def A.GST_MRING : Nat := 0xc0010
/-- GST_MRING.NSLOT. -/
def L.GST_MRING_NSLOT : Loc := ⟨A.GST_MRING, 24, 8⟩
/-- GST_MRING.BASE. -/
def L.GST_MRING_BASE : Loc := ⟨A.GST_MRING, 0, 19⟩

/-- Address of GST_MPTR (R360). -/
def A.GST_MPTR : Nat := 0xc0014
/-- GST_MPTR.WR. -/
def L.GST_MPTR_WR : Loc := ⟨A.GST_MPTR, 24, 8⟩
/-- GST_MPTR.RD. -/
def L.GST_MPTR_RD : Loc := ⟨A.GST_MPTR, 0, 8⟩

/-- Address of GST_MTX_ADDR (R360). -/
def A.GST_MTX_ADDR : Nat := 0xc0018
/-- GST_MTX_ADDR.OFFSET. -/
def L.GST_MTX_ADDR_OFFSET : Loc := ⟨A.GST_MTX_ADDR, 0, 19⟩

/-- Address of GST_MTX (R360). -/
def A.GST_MTX : Nat := 0xc001c
/-- GST_MTX.GO. -/
def L.GST_MTX_GO : Loc := ⟨A.GST_MTX, 31, 1⟩
/-- GST_MTX.BUSY. -/
def L.GST_MTX_BUSY : Loc := ⟨A.GST_MTX, 30, 1⟩
/-- GST_MTX.LEN. -/
def L.GST_MTX_LEN : Loc := ⟨A.GST_MTX, 16, 14⟩
/-- GST_MTX.TAG. -/
def L.GST_MTX_TAG : Loc := ⟨A.GST_MTX, 0, 16⟩

/-- Address of GST_EVENT (R360). -/
def A.GST_EVENT : Nat := 0xc0020
/-- GST_EVENT.ECC. -/
def L.GST_EVENT_ECC : Loc := ⟨A.GST_EVENT, 8, 1⟩
/-- GST_EVENT.DEP_LATE. -/
def L.GST_EVENT_DEP_LATE : Loc := ⟨A.GST_EVENT, 7, 1⟩
/-- GST_EVENT.MGT_LOSS. -/
def L.GST_EVENT_MGT_LOSS : Loc := ⟨A.GST_EVENT, 6, 1⟩
/-- GST_EVENT.W_BUSY. -/
def L.GST_EVENT_W_BUSY : Loc := ⟨A.GST_EVENT, 5, 1⟩
/-- GST_EVENT.SEQ_GAP. -/
def L.GST_EVENT_SEQ_GAP : Loc := ⟨A.GST_EVENT, 4, 1⟩
/-- GST_EVENT.BUF_FULL. -/
def L.GST_EVENT_BUF_FULL : Loc := ⟨A.GST_EVENT, 3, 1⟩
/-- GST_EVENT.BAD. -/
def L.GST_EVENT_BAD : Loc := ⟨A.GST_EVENT, 2, 1⟩
/-- GST_EVENT.LATE. -/
def L.GST_EVENT_LATE : Loc := ⟨A.GST_EVENT, 1, 1⟩
/-- GST_EVENT.EARLY. -/
def L.GST_EVENT_EARLY : Loc := ⟨A.GST_EVENT, 0, 1⟩

/-- Address of GST_CNT (R360). -/
def A.GST_CNT (i : Nat) : Nat := 0xc0040 + 0x4 * i
/-- GST_CNT.COUNT. -/
def L.GST_CNT_COUNT (i : Nat) : Loc := ⟨(A.GST_CNT i), 0, 32⟩

/-- Address of GST_LOCK (R360). -/
def A.GST_LOCK : Nat := 0xc00fc
/-- GST_LOCK.LOCK. -/
def L.GST_LOCK_LOCK : Loc := ⟨A.GST_LOCK, 0, 1⟩

/-- Address of GST_CCFG (R360). -/
def A.GST_CCFG (i : Nat) : Nat := 0xc0100 + 0x10 * i
/-- GST_CCFG.DL_OPEN. -/
def L.GST_CCFG_DL_OPEN (i : Nat) : Loc := ⟨(A.GST_CCFG i), 20, 12⟩
/-- GST_CCFG.UL_MW. -/
def L.GST_CCFG_UL_MW (i : Nat) : Loc := ⟨(A.GST_CCFG i), 8, 4⟩

/-- Address of GST_CCNT (R360). -/
def A.GST_CCNT (i : Nat) : Nat := 0xc0104 + 0x10 * i
/-- GST_CCNT.EARLY. -/
def L.GST_CCNT_EARLY (i : Nat) : Loc := ⟨(A.GST_CCNT i), 16, 16⟩
/-- GST_CCNT.LATE. -/
def L.GST_CCNT_LATE (i : Nat) : Loc := ⟨(A.GST_CCNT i), 0, 16⟩

/-- Address of PATH_CFG (R281). -/
def A.PATH_CFG (i : Nat) : Nat := 0x100000 + 0x1000 * i
/-- PATH_CFG.EN. -/
def L.PATH_CFG_EN (i : Nat) : Loc := ⟨(A.PATH_CFG i), 31, 1⟩
/-- PATH_CFG.COEX_MASK. -/
def L.PATH_CFG_COEX_MASK (i : Nat) : Loc := ⟨(A.PATH_CFG i), 24, 4⟩
/-- PATH_CFG.FE_DRIVE. -/
def L.PATH_CFG_FE_DRIVE (i : Nat) : Loc := ⟨(A.PATH_CFG i), 21, 2⟩
/-- PATH_CFG.LNA_PROT. -/
def L.PATH_CFG_LNA_PROT (i : Nat) : Loc := ⟨(A.PATH_CFG i), 20, 1⟩
/-- PATH_CFG.RXDEG. -/
def L.PATH_CFG_RXDEG (i : Nat) : Loc := ⟨(A.PATH_CFG i), 19, 1⟩
/-- PATH_CFG.DROP. -/
def L.PATH_CFG_DROP (i : Nat) : Loc := ⟨(A.PATH_CFG i), 18, 1⟩
/-- PATH_CFG.TXDEG_N. -/
def L.PATH_CFG_TXDEG_N (i : Nat) : Loc := ⟨(A.PATH_CFG i), 16, 2⟩
/-- PATH_CFG.LNA_HOLD. -/
def L.PATH_CFG_LNA_HOLD (i : Nat) : Loc := ⟨(A.PATH_CFG i), 0, 16⟩

/-- Address of PATH_FE_PA (R281). -/
def A.PATH_FE_PA (i : Nat) : Nat := 0x100004 + 0x1000 * i
/-- PATH_FE_PA.ON. -/
def L.PATH_FE_PA_ON (i : Nat) : Loc := ⟨(A.PATH_FE_PA i), 16, 16⟩
/-- PATH_FE_PA.OFF. -/
def L.PATH_FE_PA_OFF (i : Nat) : Loc := ⟨(A.PATH_FE_PA i), 0, 16⟩

/-- Address of PATH_FE_TR (R281). -/
def A.PATH_FE_TR (i : Nat) : Nat := 0x100008 + 0x1000 * i
/-- PATH_FE_TR.ON. -/
def L.PATH_FE_TR_ON (i : Nat) : Loc := ⟨(A.PATH_FE_TR i), 16, 16⟩
/-- PATH_FE_TR.OFF. -/
def L.PATH_FE_TR_OFF (i : Nat) : Loc := ⟨(A.PATH_FE_TR i), 0, 16⟩

/-- Address of PATH_FE_LNA (R281). -/
def A.PATH_FE_LNA (i : Nat) : Nat := 0x10000c + 0x1000 * i
/-- PATH_FE_LNA.ON. -/
def L.PATH_FE_LNA_ON (i : Nat) : Loc := ⟨(A.PATH_FE_LNA i), 16, 16⟩
/-- PATH_FE_LNA.OFF. -/
def L.PATH_FE_LNA_OFF (i : Nat) : Loc := ⟨(A.PATH_FE_LNA i), 0, 16⟩

/-- Address of PATH_CTL (R281). -/
def A.PATH_CTL (i : Nat) : Nat := 0x100010 + 0x1000 * i
/-- PATH_CTL.OUT_GO. -/
def L.PATH_CTL_OUT_GO (i : Nat) : Loc := ⟨(A.PATH_CTL i), 31, 1⟩
/-- PATH_CTL.RET_GO. -/
def L.PATH_CTL_RET_GO (i : Nat) : Loc := ⟨(A.PATH_CTL i), 30, 1⟩
/-- PATH_CTL.FE_GO. -/
def L.PATH_CTL_FE_GO (i : Nat) : Loc := ⟨(A.PATH_CTL i), 29, 1⟩
/-- PATH_CTL.RET_TMO. -/
def L.PATH_CTL_RET_TMO (i : Nat) : Loc := ⟨(A.PATH_CTL i), 16, 8⟩
/-- PATH_CTL.LEN. -/
def L.PATH_CTL_LEN (i : Nat) : Loc := ⟨(A.PATH_CTL i), 0, 8⟩

/-- Address of PATH_STAT (R281). -/
def A.PATH_STAT (i : Nat) : Nat := 0x100014 + 0x1000 * i
/-- PATH_STAT.STATE. -/
def L.PATH_STAT_STATE (i : Nat) : Loc := ⟨(A.PATH_STAT i), 29, 3⟩
/-- PATH_STAT.STEP. -/
def L.PATH_STAT_STEP (i : Nat) : Loc := ⟨(A.PATH_STAT i), 26, 3⟩
/-- PATH_STAT.RXS. -/
def L.PATH_STAT_RXS (i : Nat) : Loc := ⟨(A.PATH_STAT i), 25, 1⟩
/-- PATH_STAT.TXS. -/
def L.PATH_STAT_TXS (i : Nat) : Loc := ⟨(A.PATH_STAT i), 24, 1⟩
/-- PATH_STAT.LNA_BYP. -/
def L.PATH_STAT_LNA_BYP (i : Nat) : Loc := ⟨(A.PATH_STAT i), 23, 1⟩
/-- PATH_STAT.PA. -/
def L.PATH_STAT_PA (i : Nat) : Loc := ⟨(A.PATH_STAT i), 22, 1⟩
/-- PATH_STAT.TR. -/
def L.PATH_STAT_TR (i : Nat) : Loc := ⟨(A.PATH_STAT i), 21, 1⟩
/-- PATH_STAT.LNA. -/
def L.PATH_STAT_LNA (i : Nat) : Loc := ⟨(A.PATH_STAT i), 20, 1⟩
/-- PATH_STAT.FE_PEND. -/
def L.PATH_STAT_FE_PEND (i : Nat) : Loc := ⟨(A.PATH_STAT i), 19, 1⟩
/-- PATH_STAT.TXDEG. -/
def L.PATH_STAT_TXDEG (i : Nat) : Loc := ⟨(A.PATH_STAT i), 16, 3⟩
/-- PATH_STAT.BURST. -/
def L.PATH_STAT_BURST (i : Nat) : Loc := ⟨(A.PATH_STAT i), 0, 16⟩

/-- Address of PATH_EVENT (R281). -/
def A.PATH_EVENT (i : Nat) : Nat := 0x100018 + 0x1000 * i
/-- PATH_EVENT.CMD_ERR. -/
def L.PATH_EVENT_CMD_ERR (i : Nat) : Loc := ⟨(A.PATH_EVENT i), 10, 1⟩
/-- PATH_EVENT.FE_ERR. -/
def L.PATH_EVENT_FE_ERR (i : Nat) : Loc := ⟨(A.PATH_EVENT i), 9, 1⟩
/-- PATH_EVENT.SRCH_DONE. -/
def L.PATH_EVENT_SRCH_DONE (i : Nat) : Loc := ⟨(A.PATH_EVENT i), 8, 1⟩
/-- PATH_EVENT.MISMATCH. -/
def L.PATH_EVENT_MISMATCH (i : Nat) : Loc := ⟨(A.PATH_EVENT i), 7, 1⟩
/-- PATH_EVENT.LNA_PROT. -/
def L.PATH_EVENT_LNA_PROT (i : Nat) : Loc := ⟨(A.PATH_EVENT i), 6, 1⟩
/-- PATH_EVENT.DEGRADED. -/
def L.PATH_EVENT_DEGRADED (i : Nat) : Loc := ⟨(A.PATH_EVENT i), 5, 1⟩
/-- PATH_EVENT.RET_FAIL. -/
def L.PATH_EVENT_RET_FAIL (i : Nat) : Loc := ⟨(A.PATH_EVENT i), 4, 1⟩
/-- PATH_EVENT.RETURNED. -/
def L.PATH_EVENT_RETURNED (i : Nat) : Loc := ⟨(A.PATH_EVENT i), 3, 1⟩
/-- PATH_EVENT.HOLD. -/
def L.PATH_EVENT_HOLD (i : Nat) : Loc := ⟨(A.PATH_EVENT i), 2, 1⟩
/-- PATH_EVENT.TX_CUT. -/
def L.PATH_EVENT_TX_CUT (i : Nat) : Loc := ⟨(A.PATH_EVENT i), 1, 1⟩
/-- PATH_EVENT.TX_NOT_READY. -/
def L.PATH_EVENT_TX_NOT_READY (i : Nat) : Loc := ⟨(A.PATH_EVENT i), 0, 1⟩

/-- Address of PATH_WHY (R281). -/
def A.PATH_WHY (i : Nat) : Nat := 0x10001c + 0x1000 * i
/-- PATH_WHY.RFAIL. -/
def L.PATH_WHY_RFAIL (i : Nat) : Loc := ⟨(A.PATH_WHY i), 29, 3⟩
/-- PATH_WHY.CAUSE. -/
def L.PATH_WHY_CAUSE (i : Nat) : Loc := ⟨(A.PATH_WHY i), 24, 5⟩
/-- PATH_WHY.CUT. -/
def L.PATH_WHY_CUT (i : Nat) : Loc := ⟨(A.PATH_WHY i), 16, 8⟩
/-- PATH_WHY.WITHHELD. -/
def L.PATH_WHY_WITHHELD (i : Nat) : Loc := ⟨(A.PATH_WHY i), 0, 16⟩

/-- Address of PATH_MM (R281). -/
def A.PATH_MM (i : Nat) : Nat := 0x100020 + 0x1000 * i
/-- PATH_MM.AUTO. -/
def L.PATH_MM_AUTO (i : Nat) : Loc := ⟨(A.PATH_MM i), 31, 1⟩
/-- PATH_MM.INTERVAL. -/
def L.PATH_MM_INTERVAL (i : Nat) : Loc := ⟨(A.PATH_MM i), 16, 15⟩
/-- PATH_MM.RL_MIN. -/
def L.PATH_MM_RL_MIN (i : Nat) : Loc := ⟨(A.PATH_MM i), 0, 16⟩

/-- Address of PATH_MMRES (R281). -/
def A.PATH_MMRES (i : Nat) : Nat := 0x100024 + 0x1000 * i
/-- PATH_MMRES.RL. -/
def L.PATH_MMRES_RL (i : Nat) : Loc := ⟨(A.PATH_MMRES i), 16, 16⟩
/-- PATH_MMRES.PHASE. -/
def L.PATH_MMRES_PHASE (i : Nat) : Loc := ⟨(A.PATH_MMRES i), 0, 16⟩

/-- Address of PATH_SRCH (R281). -/
def A.PATH_SRCH (i : Nat) : Nat := 0x100028 + 0x1000 * i
/-- PATH_SRCH.GO. -/
def L.PATH_SRCH_GO (i : Nat) : Loc := ⟨(A.PATH_SRCH i), 31, 1⟩
/-- PATH_SRCH.SSTATE. -/
def L.PATH_SRCH_SSTATE (i : Nat) : Loc := ⟨(A.PATH_SRCH i), 28, 2⟩
/-- PATH_SRCH.N. -/
def L.PATH_SRCH_N (i : Nat) : Loc := ⟨(A.PATH_SRCH i), 20, 4⟩
/-- PATH_SRCH.CUR. -/
def L.PATH_SRCH_CUR (i : Nat) : Loc := ⟨(A.PATH_SRCH i), 16, 4⟩
/-- PATH_SRCH.BEST. -/
def L.PATH_SRCH_BEST (i : Nat) : Loc := ⟨(A.PATH_SRCH i), 12, 4⟩
/-- PATH_SRCH.TSETTLE. -/
def L.PATH_SRCH_TSETTLE (i : Nat) : Loc := ⟨(A.PATH_SRCH i), 0, 8⟩

/-- Address of PATH_TUNTAB (R281). -/
def A.PATH_TUNTAB (i j : Nat) : Nat := 0x100100 + 0x1000 * i + 0x4 * j
/-- PATH_TUNTAB.WORD. -/
def L.PATH_TUNTAB_WORD (i j : Nat) : Loc := ⟨(A.PATH_TUNTAB i j), 0, 32⟩

/-- Address of RXADC_CFG (R139). -/
def A.RXADC_CFG (i : Nat) : Nat := 0x140000 + 0x400 * i
/-- RXADC_CFG.DWELL. -/
def L.RXADC_CFG_DWELL (i : Nat) : Loc := ⟨(A.RXADC_CFG i), 8, 4⟩
/-- RXADC_CFG.FREEZE. -/
def L.RXADC_CFG_FREEZE (i : Nat) : Loc := ⟨(A.RXADC_CFG i), 7, 1⟩
/-- RXADC_CFG.ROT_EN. -/
def L.RXADC_CFG_ROT_EN (i : Nat) : Loc := ⟨(A.RXADC_CFG i), 6, 1⟩
/-- RXADC_CFG.ZONE. -/
def L.RXADC_CFG_ZONE (i : Nat) : Loc := ⟨(A.RXADC_CFG i), 4, 2⟩
/-- RXADC_CFG.EN. -/
def L.RXADC_CFG_EN (i : Nat) : Loc := ⟨(A.RXADC_CFG i), 0, 1⟩

/-- Address of RXADC_DSA (R139). -/
def A.RXADC_DSA (i : Nat) : Nat := 0x140004 + 0x400 * i
/-- RXADC_DSA.PEND. -/
def L.RXADC_DSA_PEND (i : Nat) : Loc := ⟨(A.RXADC_DSA i), 31, 1⟩
/-- RXADC_DSA.AT_MODE. -/
def L.RXADC_DSA_AT_MODE (i : Nat) : Loc := ⟨(A.RXADC_DSA i), 30, 1⟩
/-- RXADC_DSA.AT. -/
def L.RXADC_DSA_AT (i : Nat) : Loc := ⟨(A.RXADC_DSA i), 16, 14⟩
/-- RXADC_DSA.ACTIVE. -/
def L.RXADC_DSA_ACTIVE (i : Nat) : Loc := ⟨(A.RXADC_DSA i), 8, 5⟩
/-- RXADC_DSA.ATT. -/
def L.RXADC_DSA_ATT (i : Nat) : Loc := ⟨(A.RXADC_DSA i), 0, 5⟩

/-- Address of RXADC_STAT (R139). -/
def A.RXADC_STAT (i : Nat) : Nat := 0x140008 + 0x400 * i
/-- RXADC_STAT.FAILED. -/
def L.RXADC_STAT_FAILED (i : Nat) : Loc := ⟨(A.RXADC_STAT i), 15, 9⟩
/-- RXADC_STAT.REDUND. -/
def L.RXADC_STAT_REDUND (i : Nat) : Loc := ⟨(A.RXADC_STAT i), 14, 1⟩
/-- RXADC_STAT.CONVERGED. -/
def L.RXADC_STAT_CONVERGED (i : Nat) : Loc := ⟨(A.RXADC_STAT i), 13, 1⟩
/-- RXADC_STAT.SETTLING. -/
def L.RXADC_STAT_SETTLING (i : Nat) : Loc := ⟨(A.RXADC_STAT i), 12, 1⟩
/-- RXADC_STAT.SPARE. -/
def L.RXADC_STAT_SPARE (i : Nat) : Loc := ⟨(A.RXADC_STAT i), 8, 4⟩
/-- RXADC_STAT.TARGET. -/
def L.RXADC_STAT_TARGET (i : Nat) : Loc := ⟨(A.RXADC_STAT i), 5, 3⟩
/-- RXADC_STAT.STATE. -/
def L.RXADC_STAT_STATE (i : Nat) : Loc := ⟨(A.RXADC_STAT i), 0, 3⟩

/-- Address of RXADC_MAP (R139). -/
def A.RXADC_MAP (i : Nat) : Nat := 0x14000c + 0x400 * i
/-- RXADC_MAP.P7. -/
def L.RXADC_MAP_P7 (i : Nat) : Loc := ⟨(A.RXADC_MAP i), 28, 4⟩
/-- RXADC_MAP.P6. -/
def L.RXADC_MAP_P6 (i : Nat) : Loc := ⟨(A.RXADC_MAP i), 24, 4⟩
/-- RXADC_MAP.P5. -/
def L.RXADC_MAP_P5 (i : Nat) : Loc := ⟨(A.RXADC_MAP i), 20, 4⟩
/-- RXADC_MAP.P4. -/
def L.RXADC_MAP_P4 (i : Nat) : Loc := ⟨(A.RXADC_MAP i), 16, 4⟩
/-- RXADC_MAP.P3. -/
def L.RXADC_MAP_P3 (i : Nat) : Loc := ⟨(A.RXADC_MAP i), 12, 4⟩
/-- RXADC_MAP.P2. -/
def L.RXADC_MAP_P2 (i : Nat) : Loc := ⟨(A.RXADC_MAP i), 8, 4⟩
/-- RXADC_MAP.P1. -/
def L.RXADC_MAP_P1 (i : Nat) : Loc := ⟨(A.RXADC_MAP i), 4, 4⟩
/-- RXADC_MAP.P0. -/
def L.RXADC_MAP_P0 (i : Nat) : Loc := ⟨(A.RXADC_MAP i), 0, 4⟩

/-- Address of RXADC_EVENT (R139). -/
def A.RXADC_EVENT (i : Nat) : Nat := 0x140010 + 0x400 * i
/-- RXADC_EVENT.DSA_ERR. -/
def L.RXADC_EVENT_DSA_ERR (i : Nat) : Loc := ⟨(A.RXADC_EVENT i), 9, 1⟩
/-- RXADC_EVENT.SEL_ERR. -/
def L.RXADC_EVENT_SEL_ERR (i : Nat) : Loc := ⟨(A.RXADC_EVENT i), 8, 1⟩
/-- RXADC_EVENT.ZONE_ERR. -/
def L.RXADC_EVENT_ZONE_ERR (i : Nat) : Loc := ⟨(A.RXADC_EVENT i), 7, 1⟩
/-- RXADC_EVENT.LATE. -/
def L.RXADC_EVENT_LATE (i : Nat) : Loc := ⟨(A.RXADC_EVENT i), 6, 1⟩
/-- RXADC_EVENT.AMBIG. -/
def L.RXADC_EVENT_AMBIG (i : Nat) : Loc := ⟨(A.RXADC_EVENT i), 5, 1⟩
/-- RXADC_EVENT.EST_LIMIT. -/
def L.RXADC_EVENT_EST_LIMIT (i : Nat) : Loc := ⟨(A.RXADC_EVENT i), 4, 1⟩
/-- RXADC_EVENT.REDUND_LOST. -/
def L.RXADC_EVENT_REDUND_LOST (i : Nat) : Loc := ⟨(A.RXADC_EVENT i), 3, 1⟩
/-- RXADC_EVENT.SUBST. -/
def L.RXADC_EVENT_SUBST (i : Nat) : Loc := ⟨(A.RXADC_EVENT i), 2, 1⟩
/-- RXADC_EVENT.SLICE_FAULT. -/
def L.RXADC_EVENT_SLICE_FAULT (i : Nat) : Loc := ⟨(A.RXADC_EVENT i), 1, 1⟩
/-- RXADC_EVENT.OVR. -/
def L.RXADC_EVENT_OVR (i : Nat) : Loc := ⟨(A.RXADC_EVENT i), 0, 1⟩

/-- Address of RXADC_FAULT (R139). -/
def A.RXADC_FAULT (i : Nat) : Nat := 0x140014 + 0x400 * i
/-- RXADC_FAULT.SLICE. -/
def L.RXADC_FAULT_SLICE (i : Nat) : Loc := ⟨(A.RXADC_FAULT i), 28, 4⟩
/-- RXADC_FAULT.POS. -/
def L.RXADC_FAULT_POS (i : Nat) : Loc := ⟨(A.RXADC_FAULT i), 25, 3⟩
/-- RXADC_FAULT.CAUSE. -/
def L.RXADC_FAULT_CAUSE (i : Nat) : Loc := ⟨(A.RXADC_FAULT i), 22, 3⟩
/-- RXADC_FAULT.CONCEALED. -/
def L.RXADC_FAULT_CONCEALED (i : Nat) : Loc := ⟨(A.RXADC_FAULT i), 0, 16⟩

/-- Address of RXADC_OVR_CNT (R139). -/
def A.RXADC_OVR_CNT (i : Nat) : Nat := 0x140018 + 0x400 * i
/-- RXADC_OVR_CNT.COUNT. -/
def L.RXADC_OVR_CNT_COUNT (i : Nat) : Loc := ⟨(A.RXADC_OVR_CNT i), 0, 32⟩

/-- Address of RXADC_SOFS (R139). -/
def A.RXADC_SOFS (i j : Nat) : Nat := 0x140100 + 0x400 * i + 0x10 * j
/-- RXADC_SOFS.OFS. -/
def L.RXADC_SOFS_OFS (i j : Nat) : Loc := ⟨(A.RXADC_SOFS i j), 0, 12⟩

/-- Address of RXADC_SGAIN (R139). -/
def A.RXADC_SGAIN (i j : Nat) : Nat := 0x140104 + 0x400 * i + 0x10 * j
/-- RXADC_SGAIN.GAIN. -/
def L.RXADC_SGAIN_GAIN (i j : Nat) : Loc := ⟨(A.RXADC_SGAIN i j), 0, 16⟩

/-- Address of RXADC_SSKEW (R139). -/
def A.RXADC_SSKEW (i j : Nat) : Nat := 0x140108 + 0x400 * i + 0x10 * j
/-- RXADC_SSKEW.SKEW. -/
def L.RXADC_SSKEW_SKEW (i j : Nat) : Loc := ⟨(A.RXADC_SSKEW i j), 0, 12⟩

/-- Address of RXADC_SBW (R139). -/
def A.RXADC_SBW (i j : Nat) : Nat := 0x14010c + 0x400 * i + 0x10 * j
/-- RXADC_SBW.BW. -/
def L.RXADC_SBW_BW (i j : Nat) : Loc := ⟨(A.RXADC_SBW i j), 0, 10⟩

/-- Address of RXADC_OBS_SEL (R139). -/
def A.RXADC_OBS_SEL (i : Nat) : Nat := 0x15001c + 0x400 * i
/-- RXADC_OBS_SEL.PEND. -/
def L.RXADC_OBS_SEL_PEND (i : Nat) : Loc := ⟨(A.RXADC_OBS_SEL i), 31, 1⟩
/-- RXADC_OBS_SEL.ACTIVE. -/
def L.RXADC_OBS_SEL_ACTIVE (i : Nat) : Loc := ⟨(A.RXADC_OBS_SEL i), 24, 5⟩
/-- RXADC_OBS_SEL.SEL. -/
def L.RXADC_OBS_SEL_SEL (i : Nat) : Loc := ⟨(A.RXADC_OBS_SEL i), 0, 5⟩

/-- Address of TXDAC_CFG (R159). -/
def A.TXDAC_CFG (i : Nat) : Nat := 0x180000 + 0x400 * i
/-- TXDAC_CFG.SINC_EN. -/
def L.TXDAC_CFG_SINC_EN (i : Nat) : Loc := ⟨(A.TXDAC_CFG i), 8, 1⟩
/-- TXDAC_CFG.RAMP. -/
def L.TXDAC_CFG_RAMP (i : Nat) : Loc := ⟨(A.TXDAC_CFG i), 4, 4⟩
/-- TXDAC_CFG.GW_MODE. -/
def L.TXDAC_CFG_GW_MODE (i : Nat) : Loc := ⟨(A.TXDAC_CFG i), 1, 1⟩
/-- TXDAC_CFG.EN. -/
def L.TXDAC_CFG_EN (i : Nat) : Loc := ⟨(A.TXDAC_CFG i), 0, 1⟩

/-- Address of TXDAC_NCO_LO (R159). -/
def A.TXDAC_NCO_LO (i : Nat) : Nat := 0x180004 + 0x400 * i
/-- TXDAC_NCO_LO.FTW_LO. -/
def L.TXDAC_NCO_LO_FTW_LO (i : Nat) : Loc := ⟨(A.TXDAC_NCO_LO i), 0, 32⟩

/-- Address of TXDAC_NCO_HI (R159). -/
def A.TXDAC_NCO_HI (i : Nat) : Nat := 0x180008 + 0x400 * i
/-- TXDAC_NCO_HI.PHASE. -/
def L.TXDAC_NCO_HI_PHASE (i : Nat) : Loc := ⟨(A.TXDAC_NCO_HI i), 16, 16⟩
/-- TXDAC_NCO_HI.FTW_HI. -/
def L.TXDAC_NCO_HI_FTW_HI (i : Nat) : Loc := ⟨(A.TXDAC_NCO_HI i), 0, 16⟩

/-- Address of TXDAC_MUTE (R159). -/
def A.TXDAC_MUTE (i : Nat) : Nat := 0x18000c + 0x400 * i
/-- TXDAC_MUTE.MUTE. -/
def L.TXDAC_MUTE_MUTE (i : Nat) : Loc := ⟨(A.TXDAC_MUTE i), 0, 1⟩

/-- Address of TXDAC_STAT (R159). -/
def A.TXDAC_STAT (i : Nat) : Nat := 0x180010 + 0x400 * i
/-- TXDAC_STAT.FAILED_N. -/
def L.TXDAC_STAT_FAILED_N (i : Nat) : Loc := ⟨(A.TXDAC_STAT i), 16, 7⟩
/-- TXDAC_STAT.EXCL_PEND. -/
def L.TXDAC_STAT_EXCL_PEND (i : Nat) : Loc := ⟨(A.TXDAC_STAT i), 12, 1⟩
/-- TXDAC_STAT.SPARES. -/
def L.TXDAC_STAT_SPARES (i : Nat) : Loc := ⟨(A.TXDAC_STAT i), 10, 2⟩
/-- TXDAC_STAT.REDUND. -/
def L.TXDAC_STAT_REDUND (i : Nat) : Loc := ⟨(A.TXDAC_STAT i), 9, 1⟩
/-- TXDAC_STAT.NCO_PEND. -/
def L.TXDAC_STAT_NCO_PEND (i : Nat) : Loc := ⟨(A.TXDAC_STAT i), 8, 1⟩
/-- TXDAC_STAT.SETTLING. -/
def L.TXDAC_STAT_SETTLING (i : Nat) : Loc := ⟨(A.TXDAC_STAT i), 7, 1⟩
/-- TXDAC_STAT.RAMPING. -/
def L.TXDAC_STAT_RAMPING (i : Nat) : Loc := ⟨(A.TXDAC_STAT i), 6, 1⟩
/-- TXDAC_STAT.MUTED. -/
def L.TXDAC_STAT_MUTED (i : Nat) : Loc := ⟨(A.TXDAC_STAT i), 5, 1⟩
/-- TXDAC_STAT.MODE. -/
def L.TXDAC_STAT_MODE (i : Nat) : Loc := ⟨(A.TXDAC_STAT i), 3, 2⟩
/-- TXDAC_STAT.STATE. -/
def L.TXDAC_STAT_STATE (i : Nat) : Loc := ⟨(A.TXDAC_STAT i), 0, 3⟩

/-- Address of TXDAC_EVENT (R159). -/
def A.TXDAC_EVENT (i : Nat) : Nat := 0x180014 + 0x400 * i
/-- TXDAC_EVENT.GW_WAIT. -/
def L.TXDAC_EVENT_GW_WAIT (i : Nat) : Loc := ⟨(A.TXDAC_EVENT i), 5, 1⟩
/-- TXDAC_EVENT.CLIP. -/
def L.TXDAC_EVENT_CLIP (i : Nat) : Loc := ⟨(A.TXDAC_EVENT i), 4, 1⟩
/-- TXDAC_EVENT.NCO_ERR. -/
def L.TXDAC_EVENT_NCO_ERR (i : Nat) : Loc := ⟨(A.TXDAC_EVENT i), 3, 1⟩
/-- TXDAC_EVENT.REDUND_LOST. -/
def L.TXDAC_EVENT_REDUND_LOST (i : Nat) : Loc := ⟨(A.TXDAC_EVENT i), 2, 1⟩
/-- TXDAC_EVENT.SUBST. -/
def L.TXDAC_EVENT_SUBST (i : Nat) : Loc := ⟨(A.TXDAC_EVENT i), 1, 1⟩
/-- TXDAC_EVENT.SEG_FAULT. -/
def L.TXDAC_EVENT_SEG_FAULT (i : Nat) : Loc := ⟨(A.TXDAC_EVENT i), 0, 1⟩

/-- Address of TXDAC_FAULT (R159). -/
def A.TXDAC_FAULT (i : Nat) : Nat := 0x18001c + 0x400 * i
/-- TXDAC_FAULT.SPARE_USED. -/
def L.TXDAC_FAULT_SPARE_USED (i : Nat) : Loc := ⟨(A.TXDAC_FAULT i), 16, 7⟩
/-- TXDAC_FAULT.CAUSE. -/
def L.TXDAC_FAULT_CAUSE (i : Nat) : Loc := ⟨(A.TXDAC_FAULT i), 8, 3⟩
/-- TXDAC_FAULT.SEG. -/
def L.TXDAC_FAULT_SEG (i : Nat) : Loc := ⟨(A.TXDAC_FAULT i), 0, 7⟩

/-- Address of TXDAC_SEGFAIL (R159). -/
def A.TXDAC_SEGFAIL (i j : Nat) : Nat := 0x180020 + 0x400 * i + 0x4 * j
/-- TXDAC_SEGFAIL.FAILED. -/
def L.TXDAC_SEGFAIL_FAILED (i j : Nat) : Loc := ⟨(A.TXDAC_SEGFAIL i j), 0, 32⟩

/-- Address of TXDAC_CLIP_CNT (R159). -/
def A.TXDAC_CLIP_CNT (i : Nat) : Nat := 0x18002c + 0x400 * i
/-- TXDAC_CLIP_CNT.COUNT. -/
def L.TXDAC_CLIP_CNT_COUNT (i : Nat) : Loc := ⟨(A.TXDAC_CLIP_CNT i), 0, 32⟩

/-- Address of CH_CFG (R186). -/
def A.CH_CFG (i : Nat) : Nat := 0x200000 + 0x1000 * (i / 8) + 0x100 * (i % 8)
/-- CH_CFG.EN. -/
def L.CH_CFG_EN (i : Nat) : Loc := ⟨(A.CH_CFG i), 31, 1⟩
/-- CH_CFG.OUT_RATE. -/
def L.CH_CFG_OUT_RATE (i : Nat) : Loc := ⟨(A.CH_CFG i), 26, 2⟩
/-- CH_CFG.HB_EN. -/
def L.CH_CFG_HB_EN (i : Nat) : Loc := ⟨(A.CH_CFG i), 25, 1⟩
/-- CH_CFG.CIC_N. -/
def L.CH_CFG_CIC_N (i : Nat) : Loc := ⟨(A.CH_CFG i), 22, 2⟩
/-- CH_CFG.CIC_R. -/
def L.CH_CFG_CIC_R (i : Nat) : Loc := ⟨(A.CH_CFG i), 17, 5⟩
/-- CH_CFG.FIR_ID. -/
def L.CH_CFG_FIR_ID (i : Nat) : Loc := ⟨(A.CH_CFG i), 8, 6⟩

/-- Address of CH_NCO_LO (R186). -/
def A.CH_NCO_LO (i : Nat) : Nat := 0x200004 + 0x1000 * (i / 8) + 0x100 * (i % 8)
/-- CH_NCO_LO.FTW_LO. -/
def L.CH_NCO_LO_FTW_LO (i : Nat) : Loc := ⟨(A.CH_NCO_LO i), 0, 32⟩

/-- Address of CH_NCO_HI (R186). -/
def A.CH_NCO_HI (i : Nat) : Nat := 0x200008 + 0x1000 * (i / 8) + 0x100 * (i % 8)
/-- CH_NCO_HI.PHASE. -/
def L.CH_NCO_HI_PHASE (i : Nat) : Loc := ⟨(A.CH_NCO_HI i), 16, 16⟩
/-- CH_NCO_HI.FTW_HI. -/
def L.CH_NCO_HI_FTW_HI (i : Nat) : Loc := ⟨(A.CH_NCO_HI i), 0, 16⟩

/-- Address of CH_DELAY (R186). -/
def A.CH_DELAY (i : Nat) : Nat := 0x20000c + 0x1000 * (i / 8) + 0x100 * (i % 8)
/-- CH_DELAY.DI. -/
def L.CH_DELAY_DI (i : Nat) : Loc := ⟨(A.CH_DELAY i), 8, 8⟩
/-- CH_DELAY.DF. -/
def L.CH_DELAY_DF (i : Nat) : Loc := ⟨(A.CH_DELAY i), 0, 8⟩

/-- Address of CH_GAIN (R186). -/
def A.CH_GAIN (i : Nat) : Nat := 0x200010 + 0x1000 * (i / 8) + 0x100 * (i % 8)
/-- CH_GAIN.GAIN. -/
def L.CH_GAIN_GAIN (i : Nat) : Loc := ⟨(A.CH_GAIN i), 0, 16⟩

/-- Address of CH_CHG (R186). -/
def A.CH_CHG (i : Nat) : Nat := 0x200014 + 0x1000 * (i / 8) + 0x100 * (i % 8)
/-- CH_CHG.GO. -/
def L.CH_CHG_GO (i : Nat) : Loc := ⟨(A.CH_CHG i), 31, 1⟩
/-- CH_CHG.AT_MODE. -/
def L.CH_CHG_AT_MODE (i : Nat) : Loc := ⟨(A.CH_CHG i), 30, 1⟩
/-- CH_CHG.AT. -/
def L.CH_CHG_AT (i : Nat) : Loc := ⟨(A.CH_CHG i), 0, 14⟩

/-- Address of CH_STAT (R186). -/
def A.CH_STAT (i : Nat) : Nat := 0x200018 + 0x1000 * (i / 8) + 0x100 * (i % 8)
/-- CH_STAT.STATE. -/
def L.CH_STAT_STATE (i : Nat) : Loc := ⟨(A.CH_STAT i), 30, 2⟩
/-- CH_STAT.PEND. -/
def L.CH_STAT_PEND (i : Nat) : Loc := ⟨(A.CH_STAT i), 29, 1⟩
/-- CH_STAT.SETTLING. -/
def L.CH_STAT_SETTLING (i : Nat) : Loc := ⟨(A.CH_STAT i), 28, 1⟩
/-- CH_STAT.ERRC. -/
def L.CH_STAT_ERRC (i : Nat) : Loc := ⟨(A.CH_STAT i), 24, 4⟩

/-- Address of CH_EVENT (R186). -/
def A.CH_EVENT (i : Nat) : Nat := 0x20001c + 0x1000 * (i / 8) + 0x100 * (i % 8)
/-- CH_EVENT.FP_LO. -/
def L.CH_EVENT_FP_LO (i : Nat) : Loc := ⟨(A.CH_EVENT i), 4, 1⟩
/-- CH_EVENT.FP_HI. -/
def L.CH_EVENT_FP_HI (i : Nat) : Loc := ⟨(A.CH_EVENT i), 3, 1⟩
/-- CH_EVENT.SAT. -/
def L.CH_EVENT_SAT (i : Nat) : Loc := ⟨(A.CH_EVENT i), 2, 1⟩
/-- CH_EVENT.LATE. -/
def L.CH_EVENT_LATE (i : Nat) : Loc := ⟨(A.CH_EVENT i), 1, 1⟩
/-- CH_EVENT.ERR. -/
def L.CH_EVENT_ERR (i : Nat) : Loc := ⟨(A.CH_EVENT i), 0, 1⟩

/-- Address of CH_INVAL (R186). -/
def A.CH_INVAL (i : Nat) : Nat := 0x200020 + 0x1000 * (i / 8) + 0x100 * (i % 8)
/-- CH_INVAL.CAUSE. -/
def L.CH_INVAL_CAUSE (i : Nat) : Loc := ⟨(A.CH_INVAL i), 28, 4⟩
/-- CH_INVAL.COUNT. -/
def L.CH_INVAL_COUNT (i : Nat) : Loc := ⟨(A.CH_INVAL i), 0, 16⟩

/-- Address of CH_FPWR (R186). -/
def A.CH_FPWR (i : Nat) : Nat := 0x200024 + 0x1000 * (i / 8) + 0x100 * (i % 8)
/-- CH_FPWR.PWR. -/
def L.CH_FPWR_PWR (i : Nat) : Loc := ⟨(A.CH_FPWR i), 0, 16⟩

/-- Address of CH_FTHR (R186). -/
def A.CH_FTHR (i : Nat) : Nat := 0x200028 + 0x1000 * (i / 8) + 0x100 * (i % 8)
/-- CH_FTHR.HI. -/
def L.CH_FTHR_HI (i : Nat) : Loc := ⟨(A.CH_FTHR i), 16, 16⟩
/-- CH_FTHR.LO. -/
def L.CH_FTHR_LO (i : Nat) : Loc := ⟨(A.CH_FTHR i), 0, 16⟩

/-- Address of CH_PCFG (R186). -/
def A.CH_PCFG (i : Nat) : Nat := 0x20002c + 0x1000 * (i / 8) + 0x100 * (i % 8)
/-- CH_PCFG.WIN. -/
def L.CH_PCFG_WIN (i : Nat) : Loc := ⟨(A.CH_PCFG i), 16, 5⟩
/-- CH_PCFG.HYST. -/
def L.CH_PCFG_HYST (i : Nat) : Loc := ⟨(A.CH_PCFG i), 0, 16⟩

/-- Address of CH_RXCTR (R186). -/
def A.CH_RXCTR (i : Nat) : Nat := 0x200800 + 0x1000 * i
/-- CH_RXCTR.PEND. -/
def L.CH_RXCTR_PEND (i : Nat) : Loc := ⟨(A.CH_RXCTR i), 31, 1⟩
/-- CH_RXCTR.CTR. -/
def L.CH_RXCTR_CTR (i : Nat) : Loc := ⟨(A.CH_RXCTR i), 0, 16⟩

/-- Address of CH_CPWR (R186). -/
def A.CH_CPWR (i : Nat) : Nat := 0x200804 + 0x1000 * i
/-- CH_CPWR.ABOVE. -/
def L.CH_CPWR_ABOVE (i : Nat) : Loc := ⟨(A.CH_CPWR i), 31, 1⟩
/-- CH_CPWR.PWR. -/
def L.CH_CPWR_PWR (i : Nat) : Loc := ⟨(A.CH_CPWR i), 0, 16⟩

/-- Address of CH_CTHR (R186). -/
def A.CH_CTHR (i : Nat) : Nat := 0x200808 + 0x1000 * i
/-- CH_CTHR.HI. -/
def L.CH_CTHR_HI (i : Nat) : Loc := ⟨(A.CH_CTHR i), 16, 16⟩
/-- CH_CTHR.HYST. -/
def L.CH_CTHR_HYST (i : Nat) : Loc := ⟨(A.CH_CTHR i), 0, 16⟩

/-- Address of CH_PEVENT (R186). -/
def A.CH_PEVENT (i : Nat) : Nat := 0x20080c + 0x1000 * i
/-- CH_PEVENT.CP_CLR. -/
def L.CH_PEVENT_CP_CLR (i : Nat) : Loc := ⟨(A.CH_PEVENT i), 1, 1⟩
/-- CH_PEVENT.CP_HI. -/
def L.CH_PEVENT_CP_HI (i : Nat) : Loc := ⟨(A.CH_PEVENT i), 0, 1⟩

/-- Address of CH_SUMCLIP (R186). -/
def A.CH_SUMCLIP (i : Nat) : Nat := 0x200810 + 0x1000 * i
/-- CH_SUMCLIP.COUNT. -/
def L.CH_SUMCLIP_COUNT (i : Nat) : Loc := ⟨(A.CH_SUMCLIP i), 0, 32⟩

/-- Address of WCH_CFG (R186). -/
def A.WCH_CFG (i : Nat) : Nat := 0x240000 + 0x1000 * i
/-- WCH_CFG.EN. -/
def L.WCH_CFG_EN (i : Nat) : Loc := ⟨(A.WCH_CFG i), 31, 1⟩
/-- WCH_CFG.TD. -/
def L.WCH_CFG_TD (i : Nat) : Loc := ⟨(A.WCH_CFG i), 30, 1⟩
/-- WCH_CFG.SRC. -/
def L.WCH_CFG_SRC (i : Nat) : Loc := ⟨(A.WCH_CFG i), 23, 7⟩
/-- WCH_CFG.CIC_N. -/
def L.WCH_CFG_CIC_N (i : Nat) : Loc := ⟨(A.WCH_CFG i), 21, 2⟩
/-- WCH_CFG.CIC_R. -/
def L.WCH_CFG_CIC_R (i : Nat) : Loc := ⟨(A.WCH_CFG i), 16, 5⟩
/-- WCH_CFG.HB_EN. -/
def L.WCH_CFG_HB_EN (i : Nat) : Loc := ⟨(A.WCH_CFG i), 15, 1⟩
/-- WCH_CFG.TAPS. -/
def L.WCH_CFG_TAPS (i : Nat) : Loc := ⟨(A.WCH_CFG i), 0, 9⟩

/-- Address of WCH_XF_REQ (R186). -/
def A.WCH_XF_REQ (i : Nat) : Nat := 0x240040 + 0x1000 * i
/-- WCH_XF_REQ.GO. -/
def L.WCH_XF_REQ_GO (i : Nat) : Loc := ⟨(A.WCH_XF_REQ i), 31, 1⟩
/-- WCH_XF_REQ.AT_MODE. -/
def L.WCH_XF_REQ_AT_MODE (i : Nat) : Loc := ⟨(A.WCH_XF_REQ i), 30, 1⟩
/-- WCH_XF_REQ.FADE. -/
def L.WCH_XF_REQ_FADE (i : Nat) : Loc := ⟨(A.WCH_XF_REQ i), 24, 4⟩
/-- WCH_XF_REQ.TARGET. -/
def L.WCH_XF_REQ_TARGET (i : Nat) : Loc := ⟨(A.WCH_XF_REQ i), 20, 4⟩
/-- WCH_XF_REQ.AT. -/
def L.WCH_XF_REQ_AT (i : Nat) : Loc := ⟨(A.WCH_XF_REQ i), 0, 16⟩

/-- Address of WCH_XF_STAT (R186). -/
def A.WCH_XF_STAT (i : Nat) : Nat := 0x240044 + 0x1000 * i
/-- WCH_XF_STAT.STATE. -/
def L.WCH_XF_STAT_STATE (i : Nat) : Loc := ⟨(A.WCH_XF_STAT i), 30, 2⟩
/-- WCH_XF_STAT.PEND. -/
def L.WCH_XF_STAT_PEND (i : Nat) : Loc := ⟨(A.WCH_XF_STAT i), 29, 1⟩
/-- WCH_XF_STAT.LATE. -/
def L.WCH_XF_STAT_LATE (i : Nat) : Loc := ⟨(A.WCH_XF_STAT i), 28, 1⟩
/-- WCH_XF_STAT.BANK_BUSY. -/
def L.WCH_XF_STAT_BANK_BUSY (i : Nat) : Loc := ⟨(A.WCH_XF_STAT i), 27, 1⟩
/-- WCH_XF_STAT.ERR. -/
def L.WCH_XF_STAT_ERR (i : Nat) : Loc := ⟨(A.WCH_XF_STAT i), 26, 1⟩
/-- WCH_XF_STAT.ACTIVE. -/
def L.WCH_XF_STAT_ACTIVE (i : Nat) : Loc := ⟨(A.WCH_XF_STAT i), 24, 2⟩
/-- WCH_XF_STAT.STEP. -/
def L.WCH_XF_STAT_STEP (i : Nat) : Loc := ⟨(A.WCH_XF_STAT i), 20, 4⟩
/-- WCH_XF_STAT.REPLACED. -/
def L.WCH_XF_STAT_REPLACED (i : Nat) : Loc := ⟨(A.WCH_XF_STAT i), 0, 16⟩

/-- Address of WCH_COEF (R186). -/
def A.WCH_COEF (i j k : Nat) : Nat := 0x280000 + 0x1000 * i + 0x800 * j + 0x4 * k
/-- WCH_COEF.C. -/
def L.WCH_COEF_C (i j k : Nat) : Loc := ⟨(A.WCH_COEF i j k), 0, 18⟩

/-- Address of OF_CFG (R206). -/
def A.OF_CFG (i : Nat) : Nat := 0x300000 + 0x1000 * (i / 4) + 0x100 * (i % 4)
/-- OF_CFG.EN. -/
def L.OF_CFG_EN (i : Nat) : Loc := ⟨(A.OF_CFG i), 31, 1⟩
/-- OF_CFG.TD. -/
def L.OF_CFG_TD (i : Nat) : Loc := ⟨(A.OF_CFG i), 30, 1⟩
/-- OF_CFG.SIZE. -/
def L.OF_CFG_SIZE (i : Nat) : Loc := ⟨(A.OF_CFG i), 24, 4⟩
/-- OF_CFG.SCS. -/
def L.OF_CFG_SCS (i : Nat) : Loc := ⟨(A.OF_CFG i), 22, 2⟩
/-- OF_CFG.ECP. -/
def L.OF_CFG_ECP (i : Nat) : Loc := ⟨(A.OF_CFG i), 21, 1⟩
/-- OF_CFG.PC_MODE. -/
def L.OF_CFG_PC_MODE (i : Nat) : Loc := ⟨(A.OF_CFG i), 18, 2⟩
/-- OF_CFG.SHIFT. -/
def L.OF_CFG_SHIFT (i : Nat) : Loc := ⟨(A.OF_CFG i), 12, 3⟩

/-- Address of OF_RB (R206). -/
def A.OF_RB (i : Nat) : Nat := 0x300004 + 0x1000 * (i / 4) + 0x100 * (i % 4)
/-- OF_RB.NRB. -/
def L.OF_RB_NRB (i : Nat) : Loc := ⟨(A.OF_RB i), 16, 9⟩
/-- OF_RB.K0. -/
def L.OF_RB_K0 (i : Nat) : Loc := ⟨(A.OF_RB i), 0, 16⟩

/-- Address of OF_WIN (R206). -/
def A.OF_WIN (i : Nat) : Nat := 0x300008 + 0x1000 * (i / 4) + 0x100 * (i % 4)
/-- OF_WIN.TOFF. -/
def L.OF_WIN_TOFF (i : Nat) : Loc := ⟨(A.OF_WIN i), 16, 16⟩
/-- OF_WIN.WIN_ADV. -/
def L.OF_WIN_WIN_ADV (i : Nat) : Loc := ⟨(A.OF_WIN i), 0, 12⟩

/-- Address of OF_PC_LO (R206). -/
def A.OF_PC_LO (i : Nat) : Nat := 0x30000c + 0x1000 * (i / 4) + 0x100 * (i % 4)
/-- OF_PC_LO.F0_LO. -/
def L.OF_PC_LO_F0_LO (i : Nat) : Loc := ⟨(A.OF_PC_LO i), 0, 32⟩

/-- Address of OF_PC_HI (R206). -/
def A.OF_PC_HI (i : Nat) : Nat := 0x300010 + 0x1000 * (i / 4) + 0x100 * (i % 4)
/-- OF_PC_HI.F0_HI. -/
def L.OF_PC_HI_F0_HI (i : Nat) : Loc := ⟨(A.OF_PC_HI i), 0, 16⟩

/-- Address of OF_MASK_LO (R206). -/
def A.OF_MASK_LO (i : Nat) : Nat := 0x300014 + 0x1000 * (i / 4) + 0x100 * (i % 4)
/-- OF_MASK_LO.PATHS_LO. -/
def L.OF_MASK_LO_PATHS_LO (i : Nat) : Loc := ⟨(A.OF_MASK_LO i), 0, 32⟩

/-- Address of OF_MASK_HI (R206). -/
def A.OF_MASK_HI (i : Nat) : Nat := 0x300018 + 0x1000 * (i / 4) + 0x100 * (i % 4)
/-- OF_MASK_HI.PATHS_HI. -/
def L.OF_MASK_HI_PATHS_HI (i : Nat) : Loc := ⟨(A.OF_MASK_HI i), 0, 32⟩

/-- Address of OF_CHG (R206). -/
def A.OF_CHG (i : Nat) : Nat := 0x30001c + 0x1000 * (i / 4) + 0x100 * (i % 4)
/-- OF_CHG.GO. -/
def L.OF_CHG_GO (i : Nat) : Loc := ⟨(A.OF_CHG i), 31, 1⟩
/-- OF_CHG.AT_MODE. -/
def L.OF_CHG_AT_MODE (i : Nat) : Loc := ⟨(A.OF_CHG i), 30, 1⟩
/-- OF_CHG.AT. -/
def L.OF_CHG_AT (i : Nat) : Loc := ⟨(A.OF_CHG i), 0, 5⟩

/-- Address of OF_STAT (R206). -/
def A.OF_STAT (i : Nat) : Nat := 0x300020 + 0x1000 * (i / 4) + 0x100 * (i % 4)
/-- OF_STAT.STATE. -/
def L.OF_STAT_STATE (i : Nat) : Loc := ⟨(A.OF_STAT i), 30, 2⟩
/-- OF_STAT.PEND. -/
def L.OF_STAT_PEND (i : Nat) : Loc := ⟨(A.OF_STAT i), 29, 1⟩
/-- OF_STAT.ERRC. -/
def L.OF_STAT_ERRC (i : Nat) : Loc := ⟨(A.OF_STAT i), 24, 4⟩
/-- OF_STAT.M. -/
def L.OF_STAT_M (i : Nat) : Loc := ⟨(A.OF_STAT i), 21, 3⟩
/-- OF_STAT.NPATH. -/
def L.OF_STAT_NPATH (i : Nat) : Loc := ⟨(A.OF_STAT i), 0, 7⟩

/-- Address of OF_EVENT (R206). -/
def A.OF_EVENT (i : Nat) : Nat := 0x300024 + 0x1000 * (i / 4) + 0x100 * (i % 4)
/-- OF_EVENT.RATE_MM. -/
def L.OF_EVENT_RATE_MM (i : Nat) : Loc := ⟨(A.OF_EVENT i), 3, 1⟩
/-- OF_EVENT.SAT. -/
def L.OF_EVENT_SAT (i : Nat) : Loc := ⟨(A.OF_EVENT i), 2, 1⟩
/-- OF_EVENT.LATE. -/
def L.OF_EVENT_LATE (i : Nat) : Loc := ⟨(A.OF_EVENT i), 1, 1⟩
/-- OF_EVENT.ERR. -/
def L.OF_EVENT_ERR (i : Nat) : Loc := ⟨(A.OF_EVENT i), 0, 1⟩

/-- Address of OF_CNT (R206). -/
def A.OF_CNT (i : Nat) : Nat := 0x300028 + 0x1000 * (i / 4) + 0x100 * (i % 4)
/-- OF_CNT.INV_SYM. -/
def L.OF_CNT_INV_SYM (i : Nat) : Loc := ⟨(A.OF_CNT i), 20, 12⟩
/-- OF_CNT.SAT. -/
def L.OF_CNT_SAT (i : Nat) : Loc := ⟨(A.OF_CNT i), 8, 12⟩
/-- OF_CNT.REPLACED. -/
def L.OF_CNT_REPLACED (i : Nat) : Loc := ⟨(A.OF_CNT i), 0, 8⟩

/-- Address of OF_ADM (R206). -/
def A.OF_ADM (i : Nat) : Nat := 0x302000 + 0x10 * i
/-- OF_ADM.CAUSE. -/
def L.OF_ADM_CAUSE (i : Nat) : Loc := ⟨(A.OF_ADM i), 28, 4⟩
/-- OF_ADM.UTIL. -/
def L.OF_ADM_UTIL (i : Nat) : Loc := ⟨(A.OF_ADM i), 16, 12⟩
/-- OF_ADM.WORST. -/
def L.OF_ADM_WORST (i : Nat) : Loc := ⟨(A.OF_ADM i), 0, 16⟩

/-- Address of OF_ADM_CUR (R206). -/
def A.OF_ADM_CUR (i : Nat) : Nat := 0x302004 + 0x10 * i
/-- OF_ADM_CUR.UTIL. -/
def L.OF_ADM_CUR_UTIL (i : Nat) : Loc := ⟨(A.OF_ADM_CUR i), 16, 12⟩
/-- OF_ADM_CUR.WORST. -/
def L.OF_ADM_CUR_WORST (i : Nat) : Loc := ⟨(A.OF_ADM_CUR i), 0, 16⟩

/-- Address of BM_CCFG (R231). -/
def A.BM_CCFG (i : Nat) : Nat := 0x400000 + 0x8000 * (i / 4) + 0x100 * (i % 4)
/-- BM_CCFG.EN. -/
def L.BM_CCFG_EN (i : Nat) : Loc := ⟨(A.BM_CCFG i), 31, 1⟩
/-- BM_CCFG.OSH. -/
def L.BM_CCFG_OSH (i : Nat) : Loc := ⟨(A.BM_CCFG i), 28, 3⟩
/-- BM_CCFG.NL. -/
def L.BM_CCFG_NL (i : Nat) : Loc := ⟨(A.BM_CCFG i), 16, 6⟩
/-- BM_CCFG.G. -/
def L.BM_CCFG_G (i : Nat) : Loc := ⟨(A.BM_CCFG i), 8, 5⟩

/-- Address of BM_CTIME (R231). -/
def A.BM_CTIME (i : Nat) : Nat := 0x400004 + 0x8000 * (i / 4) + 0x100 * (i % 4)
/-- BM_CTIME.RA_LEAD. -/
def L.BM_CTIME_RA_LEAD (i : Nat) : Loc := ⟨(A.BM_CTIME i), 24, 2⟩
/-- BM_CTIME.COMMIT_OFF. -/
def L.BM_CTIME_COMMIT_OFF (i : Nat) : Loc := ⟨(A.BM_CTIME i), 0, 10⟩

/-- Address of BM_CHG (R231). -/
def A.BM_CHG (i : Nat) : Nat := 0x400008 + 0x8000 * (i / 4) + 0x100 * (i % 4)
/-- BM_CHG.GO. -/
def L.BM_CHG_GO (i : Nat) : Loc := ⟨(A.BM_CHG i), 31, 1⟩
/-- BM_CHG.AT_MODE. -/
def L.BM_CHG_AT_MODE (i : Nat) : Loc := ⟨(A.BM_CHG i), 30, 1⟩
/-- BM_CHG.AT. -/
def L.BM_CHG_AT (i : Nat) : Loc := ⟨(A.BM_CHG i), 0, 5⟩

/-- Address of BM_CSTAT (R231). -/
def A.BM_CSTAT (i : Nat) : Nat := 0x40000c + 0x8000 * (i / 4) + 0x100 * (i % 4)
/-- BM_CSTAT.STATE. -/
def L.BM_CSTAT_STATE (i : Nat) : Loc := ⟨(A.BM_CSTAT i), 30, 2⟩
/-- BM_CSTAT.PEND. -/
def L.BM_CSTAT_PEND (i : Nat) : Loc := ⟨(A.BM_CSTAT i), 29, 1⟩
/-- BM_CSTAT.ERRC. -/
def L.BM_CSTAT_ERRC (i : Nat) : Loc := ⟨(A.BM_CSTAT i), 24, 4⟩
/-- BM_CSTAT.SYM. -/
def L.BM_CSTAT_SYM (i : Nat) : Loc := ⟨(A.BM_CSTAT i), 0, 16⟩

/-- Address of BM_XF_REQ (R231). -/
def A.BM_XF_REQ (i : Nat) : Nat := 0x400010 + 0x8000 * (i / 4) + 0x100 * (i % 4)
/-- BM_XF_REQ.GO. -/
def L.BM_XF_REQ_GO (i : Nat) : Loc := ⟨(A.BM_XF_REQ i), 31, 1⟩
/-- BM_XF_REQ.AT_MODE. -/
def L.BM_XF_REQ_AT_MODE (i : Nat) : Loc := ⟨(A.BM_XF_REQ i), 30, 1⟩
/-- BM_XF_REQ.FADE. -/
def L.BM_XF_REQ_FADE (i : Nat) : Loc := ⟨(A.BM_XF_REQ i), 24, 4⟩
/-- BM_XF_REQ.TARGET. -/
def L.BM_XF_REQ_TARGET (i : Nat) : Loc := ⟨(A.BM_XF_REQ i), 20, 4⟩
/-- BM_XF_REQ.AT. -/
def L.BM_XF_REQ_AT (i : Nat) : Loc := ⟨(A.BM_XF_REQ i), 0, 16⟩

/-- Address of BM_XF_STAT (R231). -/
def A.BM_XF_STAT (i : Nat) : Nat := 0x400014 + 0x8000 * (i / 4) + 0x100 * (i % 4)
/-- BM_XF_STAT.STATE. -/
def L.BM_XF_STAT_STATE (i : Nat) : Loc := ⟨(A.BM_XF_STAT i), 30, 2⟩
/-- BM_XF_STAT.PEND. -/
def L.BM_XF_STAT_PEND (i : Nat) : Loc := ⟨(A.BM_XF_STAT i), 29, 1⟩
/-- BM_XF_STAT.LATE. -/
def L.BM_XF_STAT_LATE (i : Nat) : Loc := ⟨(A.BM_XF_STAT i), 28, 1⟩
/-- BM_XF_STAT.BANK_BUSY. -/
def L.BM_XF_STAT_BANK_BUSY (i : Nat) : Loc := ⟨(A.BM_XF_STAT i), 27, 1⟩
/-- BM_XF_STAT.ERR. -/
def L.BM_XF_STAT_ERR (i : Nat) : Loc := ⟨(A.BM_XF_STAT i), 26, 1⟩
/-- BM_XF_STAT.ACTIVE. -/
def L.BM_XF_STAT_ACTIVE (i : Nat) : Loc := ⟨(A.BM_XF_STAT i), 24, 2⟩
/-- BM_XF_STAT.STEP. -/
def L.BM_XF_STAT_STEP (i : Nat) : Loc := ⟨(A.BM_XF_STAT i), 20, 4⟩
/-- BM_XF_STAT.REPLACED. -/
def L.BM_XF_STAT_REPLACED (i : Nat) : Loc := ⟨(A.BM_XF_STAT i), 0, 16⟩

/-- Address of BM_CEVENT (R231). -/
def A.BM_CEVENT (i : Nat) : Nat := 0x400018 + 0x8000 * (i / 4) + 0x100 * (i % 4)
/-- BM_CEVENT.CAP_MM. -/
def L.BM_CEVENT_CAP_MM (i : Nat) : Loc := ⟨(A.BM_CEVENT i), 3, 1⟩
/-- BM_CEVENT.SAT. -/
def L.BM_CEVENT_SAT (i : Nat) : Loc := ⟨(A.BM_CEVENT i), 2, 1⟩
/-- BM_CEVENT.LATE. -/
def L.BM_CEVENT_LATE (i : Nat) : Loc := ⟨(A.BM_CEVENT i), 1, 1⟩
/-- BM_CEVENT.ERR. -/
def L.BM_CEVENT_ERR (i : Nat) : Loc := ⟨(A.BM_CEVENT i), 0, 1⟩

/-- Address of BM_CCNT (R231). -/
def A.BM_CCNT (i : Nat) : Nat := 0x40001c + 0x8000 * (i / 4) + 0x100 * (i % 4)
/-- BM_CCNT.RECOMP. -/
def L.BM_CCNT_RECOMP (i : Nat) : Loc := ⟨(A.BM_CCNT i), 20, 12⟩
/-- BM_CCNT.REPLAY. -/
def L.BM_CCNT_REPLAY (i : Nat) : Loc := ⟨(A.BM_CCNT i), 14, 6⟩
/-- BM_CCNT.DROP. -/
def L.BM_CCNT_DROP (i : Nat) : Loc := ⟨(A.BM_CCNT i), 8, 6⟩
/-- BM_CCNT.SAT. -/
def L.BM_CCNT_SAT (i : Nat) : Loc := ⟨(A.BM_CCNT i), 0, 8⟩

/-- Address of BM_DSTAT (R231). -/
def A.BM_DSTAT (i : Nat) : Nat := 0x401000 + 0x8000 * i
/-- BM_DSTAT.PLC. -/
def L.BM_DSTAT_PLC (i : Nat) : Loc := ⟨(A.BM_DSTAT i), 28, 4⟩
/-- BM_DSTAT.CHK. -/
def L.BM_DSTAT_CHK (i : Nat) : Loc := ⟨(A.BM_DSTAT i), 7, 1⟩
/-- BM_DSTAT.ELEM_DROP. -/
def L.BM_DSTAT_ELEM_DROP (i : Nat) : Loc := ⟨(A.BM_DSTAT i), 6, 1⟩
/-- BM_DSTAT.REDUND. -/
def L.BM_DSTAT_REDUND (i : Nat) : Loc := ⟨(A.BM_DSTAT i), 5, 1⟩
/-- BM_DSTAT.SPARES. -/
def L.BM_DSTAT_SPARES (i : Nat) : Loc := ⟨(A.BM_DSTAT i), 0, 3⟩

/-- Address of BM_DEVENT (R231). -/
def A.BM_DEVENT (i : Nat) : Nat := 0x401004 + 0x8000 * i
/-- BM_DEVENT.RA_WRITE. -/
def L.BM_DEVENT_RA_WRITE (i : Nat) : Loc := ⟨(A.BM_DEVENT i), 7, 1⟩
/-- BM_DEVENT.SPARE_FAULT. -/
def L.BM_DEVENT_SPARE_FAULT (i : Nat) : Loc := ⟨(A.BM_DEVENT i), 6, 1⟩
/-- BM_DEVENT.ELEM_LOST. -/
def L.BM_DEVENT_ELEM_LOST (i : Nat) : Loc := ⟨(A.BM_DEVENT i), 5, 1⟩
/-- BM_DEVENT.CHK_SUSP. -/
def L.BM_DEVENT_CHK_SUSP (i : Nat) : Loc := ⟨(A.BM_DEVENT i), 4, 1⟩
/-- BM_DEVENT.UNLOC. -/
def L.BM_DEVENT_UNLOC (i : Nat) : Loc := ⟨(A.BM_DEVENT i), 3, 1⟩
/-- BM_DEVENT.REDUND_LOST. -/
def L.BM_DEVENT_REDUND_LOST (i : Nat) : Loc := ⟨(A.BM_DEVENT i), 2, 1⟩
/-- BM_DEVENT.SUBST. -/
def L.BM_DEVENT_SUBST (i : Nat) : Loc := ⟨(A.BM_DEVENT i), 1, 1⟩
/-- BM_DEVENT.ROD_FAULT. -/
def L.BM_DEVENT_ROD_FAULT (i : Nat) : Loc := ⟨(A.BM_DEVENT i), 0, 1⟩

/-- Address of BM_FAULT (R231). -/
def A.BM_FAULT (i : Nat) : Nat := 0x401008 + 0x8000 * i
/-- BM_FAULT.CAUSE. -/
def L.BM_FAULT_CAUSE (i : Nat) : Loc := ⟨(A.BM_FAULT i), 30, 2⟩
/-- BM_FAULT.CARRIER. -/
def L.BM_FAULT_CARRIER (i : Nat) : Loc := ⟨(A.BM_FAULT i), 28, 2⟩
/-- BM_FAULT.ELEM. -/
def L.BM_FAULT_ELEM (i : Nat) : Loc := ⟨(A.BM_FAULT i), 22, 6⟩
/-- BM_FAULT.ROD. -/
def L.BM_FAULT_ROD (i : Nat) : Loc := ⟨(A.BM_FAULT i), 15, 7⟩

/-- Address of BM_FAULT_SYM (R231). -/
def A.BM_FAULT_SYM (i : Nat) : Nat := 0x40100c + 0x8000 * i
/-- BM_FAULT_SYM.SYM. -/
def L.BM_FAULT_SYM_SYM (i : Nat) : Loc := ⟨(A.BM_FAULT_SYM i), 0, 16⟩

/-- Address of BM_RETIRED (R231). -/
def A.BM_RETIRED (i j : Nat) : Nat := 0x401010 + 0x8000 * i + 0x4 * j
/-- BM_RETIRED.ROD. -/
def L.BM_RETIRED_ROD (i j : Nat) : Loc := ⟨(A.BM_RETIRED i j), 0, 32⟩

/-- Address of BM_RODMAP (R231). -/
def A.BM_RODMAP (i j : Nat) : Nat := 0x401100 + 0x8000 * i + 0x4 * j
/-- BM_RODMAP.DROP3. -/
def L.BM_RODMAP_DROP3 (i j : Nat) : Loc := ⟨(A.BM_RODMAP i j), 31, 1⟩
/-- BM_RODMAP.ROD3. -/
def L.BM_RODMAP_ROD3 (i j : Nat) : Loc := ⟨(A.BM_RODMAP i j), 24, 7⟩
/-- BM_RODMAP.DROP2. -/
def L.BM_RODMAP_DROP2 (i j : Nat) : Loc := ⟨(A.BM_RODMAP i j), 23, 1⟩
/-- BM_RODMAP.ROD2. -/
def L.BM_RODMAP_ROD2 (i j : Nat) : Loc := ⟨(A.BM_RODMAP i j), 16, 7⟩
/-- BM_RODMAP.DROP1. -/
def L.BM_RODMAP_DROP1 (i j : Nat) : Loc := ⟨(A.BM_RODMAP i j), 15, 1⟩
/-- BM_RODMAP.ROD1. -/
def L.BM_RODMAP_ROD1 (i j : Nat) : Loc := ⟨(A.BM_RODMAP i j), 8, 7⟩
/-- BM_RODMAP.DROP0. -/
def L.BM_RODMAP_DROP0 (i j : Nat) : Loc := ⟨(A.BM_RODMAP i j), 7, 1⟩
/-- BM_RODMAP.ROD0. -/
def L.BM_RODMAP_ROD0 (i j : Nat) : Loc := ⟨(A.BM_RODMAP i j), 0, 7⟩

/-- Address of BM_ERAMP (R231). -/
def A.BM_ERAMP (i j : Nat) : Nat := 0x401200 + 0x8000 * i + 0x4 * j
/-- BM_ERAMP.GO. -/
def L.BM_ERAMP_GO (i j : Nat) : Loc := ⟨(A.BM_ERAMP i j), 31, 1⟩
/-- BM_ERAMP.TARGET. -/
def L.BM_ERAMP_TARGET (i j : Nat) : Loc := ⟨(A.BM_ERAMP i j), 30, 1⟩
/-- BM_ERAMP.STATE. -/
def L.BM_ERAMP_STATE (i j : Nat) : Loc := ⟨(A.BM_ERAMP i j), 28, 2⟩
/-- BM_ERAMP.LEN. -/
def L.BM_ERAMP_LEN (i j : Nat) : Loc := ⟨(A.BM_ERAMP i j), 16, 8⟩
/-- BM_ERAMP.GAIN. -/
def L.BM_ERAMP_GAIN (i j : Nat) : Loc := ⟨(A.BM_ERAMP i j), 0, 13⟩

/-- Address of DPD_PCFG (R256). -/
def A.DPD_PCFG (i : Nat) : Nat := 0x500000 + 0x1000 * i
/-- DPD_PCFG.EN. -/
def L.DPD_PCFG_EN (i : Nat) : Loc := ⟨(A.DPD_PCFG i), 31, 1⟩
/-- DPD_PCFG.RT_EN. -/
def L.DPD_PCFG_RT_EN (i : Nat) : Loc := ⟨(A.DPD_PCFG i), 30, 1⟩
/-- DPD_PCFG.MIN_PWR. -/
def L.DPD_PCFG_MIN_PWR (i : Nat) : Loc := ⟨(A.DPD_PCFG i), 0, 16⟩

/-- Address of DPD_XF_REQ (R256). -/
def A.DPD_XF_REQ (i : Nat) : Nat := 0x500010 + 0x1000 * i
/-- DPD_XF_REQ.GO. -/
def L.DPD_XF_REQ_GO (i : Nat) : Loc := ⟨(A.DPD_XF_REQ i), 31, 1⟩
/-- DPD_XF_REQ.AT_MODE. -/
def L.DPD_XF_REQ_AT_MODE (i : Nat) : Loc := ⟨(A.DPD_XF_REQ i), 30, 1⟩
/-- DPD_XF_REQ.FADE. -/
def L.DPD_XF_REQ_FADE (i : Nat) : Loc := ⟨(A.DPD_XF_REQ i), 24, 4⟩
/-- DPD_XF_REQ.TARGET. -/
def L.DPD_XF_REQ_TARGET (i : Nat) : Loc := ⟨(A.DPD_XF_REQ i), 20, 4⟩
/-- DPD_XF_REQ.AT. -/
def L.DPD_XF_REQ_AT (i : Nat) : Loc := ⟨(A.DPD_XF_REQ i), 0, 16⟩

/-- Address of DPD_XF_STAT (R256). -/
def A.DPD_XF_STAT (i : Nat) : Nat := 0x500014 + 0x1000 * i
/-- DPD_XF_STAT.STATE. -/
def L.DPD_XF_STAT_STATE (i : Nat) : Loc := ⟨(A.DPD_XF_STAT i), 30, 2⟩
/-- DPD_XF_STAT.PEND. -/
def L.DPD_XF_STAT_PEND (i : Nat) : Loc := ⟨(A.DPD_XF_STAT i), 29, 1⟩
/-- DPD_XF_STAT.LATE. -/
def L.DPD_XF_STAT_LATE (i : Nat) : Loc := ⟨(A.DPD_XF_STAT i), 28, 1⟩
/-- DPD_XF_STAT.BANK_BUSY. -/
def L.DPD_XF_STAT_BANK_BUSY (i : Nat) : Loc := ⟨(A.DPD_XF_STAT i), 27, 1⟩
/-- DPD_XF_STAT.ERR. -/
def L.DPD_XF_STAT_ERR (i : Nat) : Loc := ⟨(A.DPD_XF_STAT i), 26, 1⟩
/-- DPD_XF_STAT.ACTIVE. -/
def L.DPD_XF_STAT_ACTIVE (i : Nat) : Loc := ⟨(A.DPD_XF_STAT i), 24, 2⟩
/-- DPD_XF_STAT.STEP. -/
def L.DPD_XF_STAT_STEP (i : Nat) : Loc := ⟨(A.DPD_XF_STAT i), 20, 4⟩
/-- DPD_XF_STAT.REPLACED. -/
def L.DPD_XF_STAT_REPLACED (i : Nat) : Loc := ⟨(A.DPD_XF_STAT i), 0, 16⟩

/-- Address of DPD_PSTAT (R256). -/
def A.DPD_PSTAT (i : Nat) : Nat := 0x500018 + 0x1000 * i
/-- DPD_PSTAT.ACT. -/
def L.DPD_PSTAT_ACT (i : Nat) : Loc := ⟨(A.DPD_PSTAT i), 30, 2⟩
/-- DPD_PSTAT.FB. -/
def L.DPD_PSTAT_FB (i : Nat) : Loc := ⟨(A.DPD_PSTAT i), 28, 2⟩
/-- DPD_PSTAT.CAND. -/
def L.DPD_PSTAT_CAND (i : Nat) : Loc := ⟨(A.DPD_PSTAT i), 26, 2⟩
/-- DPD_PSTAT.ERRC. -/
def L.DPD_PSTAT_ERRC (i : Nat) : Loc := ⟨(A.DPD_PSTAT i), 22, 4⟩

/-- Address of DPD_TRIAL (R256). -/
def A.DPD_TRIAL (i : Nat) : Nat := 0x500020 + 0x1000 * i
/-- DPD_TRIAL.GO. -/
def L.DPD_TRIAL_GO (i : Nat) : Loc := ⟨(A.DPD_TRIAL i), 31, 1⟩
/-- DPD_TRIAL.ABORT. -/
def L.DPD_TRIAL_ABORT (i : Nat) : Loc := ⟨(A.DPD_TRIAL i), 30, 1⟩
/-- DPD_TRIAL.HOLDOFF. -/
def L.DPD_TRIAL_HOLDOFF (i : Nat) : Loc := ⟨(A.DPD_TRIAL i), 16, 8⟩
/-- DPD_TRIAL.J. -/
def L.DPD_TRIAL_J (i : Nat) : Loc := ⟨(A.DPD_TRIAL i), 12, 4⟩
/-- DPD_TRIAL.FADE. -/
def L.DPD_TRIAL_FADE (i : Nat) : Loc := ⟨(A.DPD_TRIAL i), 8, 4⟩
/-- DPD_TRIAL.RB_FADE. -/
def L.DPD_TRIAL_RB_FADE (i : Nat) : Loc := ⟨(A.DPD_TRIAL i), 4, 4⟩

/-- Address of DPD_TRIAL_LIM (R256). -/
def A.DPD_TRIAL_LIM (i : Nat) : Nat := 0x500024 + 0x1000 * i
/-- DPD_TRIAL_LIM.TIMEOUT. -/
def L.DPD_TRIAL_LIM_TIMEOUT (i : Nat) : Loc := ⟨(A.DPD_TRIAL_LIM i), 24, 8⟩
/-- DPD_TRIAL_LIM.GAIN_TOL. -/
def L.DPD_TRIAL_LIM_GAIN_TOL (i : Nat) : Loc := ⟨(A.DPD_TRIAL_LIM i), 16, 8⟩
/-- DPD_TRIAL_LIM.SPIKE. -/
def L.DPD_TRIAL_LIM_SPIKE (i : Nat) : Loc := ⟨(A.DPD_TRIAL_LIM i), 8, 8⟩
/-- DPD_TRIAL_LIM.TOL. -/
def L.DPD_TRIAL_LIM_TOL (i : Nat) : Loc := ⟨(A.DPD_TRIAL_LIM i), 0, 8⟩

/-- Address of DPD_TRIAL_RES (R256). -/
def A.DPD_TRIAL_RES (i : Nat) : Nat := 0x500028 + 0x1000 * i
/-- DPD_TRIAL_RES.RESULT. -/
def L.DPD_TRIAL_RES_RESULT (i : Nat) : Loc := ⟨(A.DPD_TRIAL_RES i), 28, 4⟩
/-- DPD_TRIAL_RES.CAUSE. -/
def L.DPD_TRIAL_RES_CAUSE (i : Nat) : Loc := ⟨(A.DPD_TRIAL_RES i), 24, 4⟩
/-- DPD_TRIAL_RES.TSTATE. -/
def L.DPD_TRIAL_RES_TSTATE (i : Nat) : Loc := ⟨(A.DPD_TRIAL_RES i), 20, 4⟩
/-- DPD_TRIAL_RES.NOK. -/
def L.DPD_TRIAL_RES_NOK (i : Nat) : Loc := ⟨(A.DPD_TRIAL_RES i), 16, 4⟩

/-- Address of DPD_TRIAL_MET (R256). -/
def A.DPD_TRIAL_MET (i : Nat) : Nat := 0x50002c + 0x1000 * i
/-- DPD_TRIAL_MET.M_CAND. -/
def L.DPD_TRIAL_MET_M_CAND (i : Nat) : Loc := ⟨(A.DPD_TRIAL_MET i), 16, 16⟩
/-- DPD_TRIAL_MET.M_BASE. -/
def L.DPD_TRIAL_MET_M_BASE (i : Nat) : Loc := ⟨(A.DPD_TRIAL_MET i), 0, 16⟩

/-- Address of DPD_MASK (R256). -/
def A.DPD_MASK (i : Nat) : Nat := 0x500030 + 0x1000 * i
/-- DPD_MASK.LO. -/
def L.DPD_MASK_LO (i : Nat) : Loc := ⟨(A.DPD_MASK i), 22, 10⟩
/-- DPD_MASK.HI. -/
def L.DPD_MASK_HI (i : Nat) : Loc := ⟨(A.DPD_MASK i), 12, 10⟩
/-- DPD_MASK.GAP. -/
def L.DPD_MASK_GAP (i : Nat) : Loc := ⟨(A.DPD_MASK i), 8, 4⟩
/-- DPD_MASK.WID. -/
def L.DPD_MASK_WID (i : Nat) : Loc := ⟨(A.DPD_MASK i), 0, 8⟩

/-- Address of DPD_ALIGN (R256). -/
def A.DPD_ALIGN (i : Nat) : Nat := 0x500034 + 0x1000 * i
/-- DPD_ALIGN.RES. -/
def L.DPD_ALIGN_RES (i : Nat) : Loc := ⟨(A.DPD_ALIGN i), 16, 16⟩
/-- DPD_ALIGN.EXT. -/
def L.DPD_ALIGN_EXT (i : Nat) : Loc := ⟨(A.DPD_ALIGN i), 0, 16⟩

/-- Address of DPD_PEVENT (R256). -/
def A.DPD_PEVENT (i : Nat) : Nat := 0x500038 + 0x1000 * i
/-- DPD_PEVENT.CLIP. -/
def L.DPD_PEVENT_CLIP (i : Nat) : Loc := ⟨(A.DPD_PEVENT i), 4, 1⟩
/-- DPD_PEVENT.ADOPT. -/
def L.DPD_PEVENT_ADOPT (i : Nat) : Loc := ⟨(A.DPD_PEVENT i), 3, 1⟩
/-- DPD_PEVENT.ROLLBACK. -/
def L.DPD_PEVENT_ROLLBACK (i : Nat) : Loc := ⟨(A.DPD_PEVENT i), 2, 1⟩
/-- DPD_PEVENT.ABANDON. -/
def L.DPD_PEVENT_ABANDON (i : Nat) : Loc := ⟨(A.DPD_PEVENT i), 1, 1⟩
/-- DPD_PEVENT.ERR. -/
def L.DPD_PEVENT_ERR (i : Nat) : Loc := ⟨(A.DPD_PEVENT i), 0, 1⟩

/-- Address of DPD_PCNT (R256). -/
def A.DPD_PCNT (i : Nat) : Nat := 0x50003c + 0x1000 * i
/-- DPD_PCNT.CLIP. -/
def L.DPD_PCNT_CLIP (i : Nat) : Loc := ⟨(A.DPD_PCNT i), 16, 16⟩
/-- DPD_PCNT.ADOPT. -/
def L.DPD_PCNT_ADOPT (i : Nat) : Loc := ⟨(A.DPD_PCNT i), 8, 8⟩
/-- DPD_PCNT.ROLLBACK. -/
def L.DPD_PCNT_ROLLBACK (i : Nat) : Loc := ⟨(A.DPD_PCNT i), 0, 8⟩

/-- Address of DPD_BANK (R256). -/
def A.DPD_BANK (i j k : Nat) : Nat := 0x500400 + 0x1000 * i + 0x200 * j + 0x4 * k
/-- DPD_BANK.WORD. -/
def L.DPD_BANK_WORD (i j k : Nat) : Loc := ⟨(A.DPD_BANK i j k), 0, 32⟩

/-- Address of DPD_OCFG (R256). -/
def A.DPD_OCFG (i : Nat) : Nat := 0x540000 + 0x100 * i
/-- DPD_OCFG.INTERVAL. -/
def L.DPD_OCFG_INTERVAL (i : Nat) : Loc := ⟨(A.DPD_OCFG i), 16, 16⟩
/-- DPD_OCFG.MASK. -/
def L.DPD_OCFG_MASK (i : Nat) : Loc := ⟨(A.DPD_OCFG i), 0, 8⟩

/-- Address of DPD_CAPREQ (R256). -/
def A.DPD_CAPREQ (i : Nat) : Nat := 0x540004 + 0x100 * i
/-- DPD_CAPREQ.GO. -/
def L.DPD_CAPREQ_GO (i : Nat) : Loc := ⟨(A.DPD_CAPREQ i), 31, 1⟩
/-- DPD_CAPREQ.INPUT. -/
def L.DPD_CAPREQ_INPUT (i : Nat) : Loc := ⟨(A.DPD_CAPREQ i), 8, 1⟩
/-- DPD_CAPREQ.M. -/
def L.DPD_CAPREQ_M (i : Nat) : Loc := ⟨(A.DPD_CAPREQ i), 0, 3⟩

/-- Address of DPD_CAPSTAT (R256). -/
def A.DPD_CAPSTAT (i : Nat) : Nat := 0x540008 + 0x100 * i
/-- DPD_CAPSTAT.PEND. -/
def L.DPD_CAPSTAT_PEND (i : Nat) : Loc := ⟨(A.DPD_CAPSTAT i), 29, 1⟩
/-- DPD_CAPSTAT.FULL1. -/
def L.DPD_CAPSTAT_FULL1 (i : Nat) : Loc := ⟨(A.DPD_CAPSTAT i), 28, 1⟩
/-- DPD_CAPSTAT.FULL0. -/
def L.DPD_CAPSTAT_FULL0 (i : Nat) : Loc := ⟨(A.DPD_CAPSTAT i), 27, 1⟩
/-- DPD_CAPSTAT.SKIP. -/
def L.DPD_CAPSTAT_SKIP (i : Nat) : Loc := ⟨(A.DPD_CAPSTAT i), 16, 8⟩
/-- DPD_CAPSTAT.SEQ. -/
def L.DPD_CAPSTAT_SEQ (i : Nat) : Loc := ⟨(A.DPD_CAPSTAT i), 0, 16⟩

/-- Address of DPD_SJOB (R256). -/
def A.DPD_SJOB : Nat := 0x541000
/-- DPD_SJOB.GO. -/
def L.DPD_SJOB_GO : Loc := ⟨A.DPD_SJOB, 31, 1⟩
/-- DPD_SJOB.DESC. -/
def L.DPD_SJOB_DESC : Loc := ⟨A.DPD_SJOB, 0, 19⟩

/-- Address of DPD_SSTAT (R256). -/
def A.DPD_SSTAT (i : Nat) : Nat := 0x541040 + 0x4 * i
/-- DPD_SSTAT.STATE. -/
def L.DPD_SSTAT_STATE (i : Nat) : Loc := ⟨(A.DPD_SSTAT i), 29, 3⟩
/-- DPD_SSTAT.ERRC. -/
def L.DPD_SSTAT_ERRC (i : Nat) : Loc := ⟨(A.DPD_SSTAT i), 25, 4⟩
/-- DPD_SSTAT.POS. -/
def L.DPD_SSTAT_POS (i : Nat) : Loc := ⟨(A.DPD_SSTAT i), 16, 4⟩

/-- Address of CAL_RXA_XF_REQ (R301). -/
def A.CAL_RXA_XF_REQ (i : Nat) : Nat := 0x600000 + 0x400 * i
/-- CAL_RXA_XF_REQ.GO. -/
def L.CAL_RXA_XF_REQ_GO (i : Nat) : Loc := ⟨(A.CAL_RXA_XF_REQ i), 31, 1⟩
/-- CAL_RXA_XF_REQ.AT_MODE. -/
def L.CAL_RXA_XF_REQ_AT_MODE (i : Nat) : Loc := ⟨(A.CAL_RXA_XF_REQ i), 30, 1⟩
/-- CAL_RXA_XF_REQ.FADE. -/
def L.CAL_RXA_XF_REQ_FADE (i : Nat) : Loc := ⟨(A.CAL_RXA_XF_REQ i), 24, 4⟩
/-- CAL_RXA_XF_REQ.TARGET. -/
def L.CAL_RXA_XF_REQ_TARGET (i : Nat) : Loc := ⟨(A.CAL_RXA_XF_REQ i), 20, 4⟩
/-- CAL_RXA_XF_REQ.AT. -/
def L.CAL_RXA_XF_REQ_AT (i : Nat) : Loc := ⟨(A.CAL_RXA_XF_REQ i), 0, 16⟩

/-- Address of CAL_RXA_XF_STAT (R301). -/
def A.CAL_RXA_XF_STAT (i : Nat) : Nat := 0x600004 + 0x400 * i
/-- CAL_RXA_XF_STAT.STATE. -/
def L.CAL_RXA_XF_STAT_STATE (i : Nat) : Loc := ⟨(A.CAL_RXA_XF_STAT i), 30, 2⟩
/-- CAL_RXA_XF_STAT.PEND. -/
def L.CAL_RXA_XF_STAT_PEND (i : Nat) : Loc := ⟨(A.CAL_RXA_XF_STAT i), 29, 1⟩
/-- CAL_RXA_XF_STAT.LATE. -/
def L.CAL_RXA_XF_STAT_LATE (i : Nat) : Loc := ⟨(A.CAL_RXA_XF_STAT i), 28, 1⟩
/-- CAL_RXA_XF_STAT.BANK_BUSY. -/
def L.CAL_RXA_XF_STAT_BANK_BUSY (i : Nat) : Loc := ⟨(A.CAL_RXA_XF_STAT i), 27, 1⟩
/-- CAL_RXA_XF_STAT.ERR. -/
def L.CAL_RXA_XF_STAT_ERR (i : Nat) : Loc := ⟨(A.CAL_RXA_XF_STAT i), 26, 1⟩
/-- CAL_RXA_XF_STAT.ACTIVE. -/
def L.CAL_RXA_XF_STAT_ACTIVE (i : Nat) : Loc := ⟨(A.CAL_RXA_XF_STAT i), 24, 2⟩
/-- CAL_RXA_XF_STAT.STEP. -/
def L.CAL_RXA_XF_STAT_STEP (i : Nat) : Loc := ⟨(A.CAL_RXA_XF_STAT i), 20, 4⟩
/-- CAL_RXA_XF_STAT.REPLACED. -/
def L.CAL_RXA_XF_STAT_REPLACED (i : Nat) : Loc := ⟨(A.CAL_RXA_XF_STAT i), 0, 16⟩

/-- Address of CAL_RXA_SKT (R301). -/
def A.CAL_RXA_SKT (i j k : Nat) : Nat := 0x600100 + 0x400 * i + 0x80 * j + 0x4 * k
/-- CAL_RXA_SKT.SKT. -/
def L.CAL_RXA_SKT_SKT (i j k : Nat) : Loc := ⟨(A.CAL_RXA_SKT i j k), 0, 8⟩

/-- Address of CAL_RXA_BUFG (R301). -/
def A.CAL_RXA_BUFG (i j : Nat) : Nat := 0x600124 + 0x400 * i + 0x80 * j
/-- CAL_RXA_BUFG.BUFG. -/
def L.CAL_RXA_BUFG_BUFG (i j : Nat) : Loc := ⟨(A.CAL_RXA_BUFG i j), 0, 6⟩

/-- Address of CAL_TXA_XF_REQ (R301). -/
def A.CAL_TXA_XF_REQ (i : Nat) : Nat := 0x620000 + 0x400 * i
/-- CAL_TXA_XF_REQ.GO. -/
def L.CAL_TXA_XF_REQ_GO (i : Nat) : Loc := ⟨(A.CAL_TXA_XF_REQ i), 31, 1⟩
/-- CAL_TXA_XF_REQ.AT_MODE. -/
def L.CAL_TXA_XF_REQ_AT_MODE (i : Nat) : Loc := ⟨(A.CAL_TXA_XF_REQ i), 30, 1⟩
/-- CAL_TXA_XF_REQ.FADE. -/
def L.CAL_TXA_XF_REQ_FADE (i : Nat) : Loc := ⟨(A.CAL_TXA_XF_REQ i), 24, 4⟩
/-- CAL_TXA_XF_REQ.TARGET. -/
def L.CAL_TXA_XF_REQ_TARGET (i : Nat) : Loc := ⟨(A.CAL_TXA_XF_REQ i), 20, 4⟩
/-- CAL_TXA_XF_REQ.AT. -/
def L.CAL_TXA_XF_REQ_AT (i : Nat) : Loc := ⟨(A.CAL_TXA_XF_REQ i), 0, 16⟩

/-- Address of CAL_TXA_XF_STAT (R301). -/
def A.CAL_TXA_XF_STAT (i : Nat) : Nat := 0x620004 + 0x400 * i
/-- CAL_TXA_XF_STAT.STATE. -/
def L.CAL_TXA_XF_STAT_STATE (i : Nat) : Loc := ⟨(A.CAL_TXA_XF_STAT i), 30, 2⟩
/-- CAL_TXA_XF_STAT.PEND. -/
def L.CAL_TXA_XF_STAT_PEND (i : Nat) : Loc := ⟨(A.CAL_TXA_XF_STAT i), 29, 1⟩
/-- CAL_TXA_XF_STAT.LATE. -/
def L.CAL_TXA_XF_STAT_LATE (i : Nat) : Loc := ⟨(A.CAL_TXA_XF_STAT i), 28, 1⟩
/-- CAL_TXA_XF_STAT.BANK_BUSY. -/
def L.CAL_TXA_XF_STAT_BANK_BUSY (i : Nat) : Loc := ⟨(A.CAL_TXA_XF_STAT i), 27, 1⟩
/-- CAL_TXA_XF_STAT.ERR. -/
def L.CAL_TXA_XF_STAT_ERR (i : Nat) : Loc := ⟨(A.CAL_TXA_XF_STAT i), 26, 1⟩
/-- CAL_TXA_XF_STAT.ACTIVE. -/
def L.CAL_TXA_XF_STAT_ACTIVE (i : Nat) : Loc := ⟨(A.CAL_TXA_XF_STAT i), 24, 2⟩
/-- CAL_TXA_XF_STAT.STEP. -/
def L.CAL_TXA_XF_STAT_STEP (i : Nat) : Loc := ⟨(A.CAL_TXA_XF_STAT i), 20, 4⟩
/-- CAL_TXA_XF_STAT.REPLACED. -/
def L.CAL_TXA_XF_STAT_REPLACED (i : Nat) : Loc := ⟨(A.CAL_TXA_XF_STAT i), 0, 16⟩

/-- Address of CAL_TXA_DLY (R301). -/
def A.CAL_TXA_DLY (i j : Nat) : Nat := 0x620100 + 0x400 * i + 0x80 * j
/-- CAL_TXA_DLY.DLY. -/
def L.CAL_TXA_DLY_DLY (i j : Nat) : Loc := ⟨(A.CAL_TXA_DLY i j), 0, 8⟩

/-- Address of CAL_TXA_IFS (R301). -/
def A.CAL_TXA_IFS (i j : Nat) : Nat := 0x620104 + 0x400 * i + 0x80 * j
/-- CAL_TXA_IFS.IFS. -/
def L.CAL_TXA_IFS_IFS (i j : Nat) : Loc := ⟨(A.CAL_TXA_IFS i j), 0, 6⟩

/-- Address of CAL_TXSEG (R301). -/
def A.CAL_TXSEG (i j : Nat) : Nat := 0x620200 + 0x400 * i + 0x4 * j
/-- CAL_TXSEG.TRIM. -/
def L.CAL_TXSEG_TRIM (i j : Nat) : Loc := ⟨(A.CAL_TXSEG i j), 0, 8⟩

/-- Address of CAL_LANE_XF_REQ (R301). -/
def A.CAL_LANE_XF_REQ (i : Nat) : Nat := 0x640000 + 0x400 * i
/-- CAL_LANE_XF_REQ.GO. -/
def L.CAL_LANE_XF_REQ_GO (i : Nat) : Loc := ⟨(A.CAL_LANE_XF_REQ i), 31, 1⟩
/-- CAL_LANE_XF_REQ.AT_MODE. -/
def L.CAL_LANE_XF_REQ_AT_MODE (i : Nat) : Loc := ⟨(A.CAL_LANE_XF_REQ i), 30, 1⟩
/-- CAL_LANE_XF_REQ.FADE. -/
def L.CAL_LANE_XF_REQ_FADE (i : Nat) : Loc := ⟨(A.CAL_LANE_XF_REQ i), 24, 4⟩
/-- CAL_LANE_XF_REQ.TARGET. -/
def L.CAL_LANE_XF_REQ_TARGET (i : Nat) : Loc := ⟨(A.CAL_LANE_XF_REQ i), 20, 4⟩
/-- CAL_LANE_XF_REQ.AT. -/
def L.CAL_LANE_XF_REQ_AT (i : Nat) : Loc := ⟨(A.CAL_LANE_XF_REQ i), 0, 16⟩

/-- Address of CAL_LANE_XF_STAT (R301). -/
def A.CAL_LANE_XF_STAT (i : Nat) : Nat := 0x640004 + 0x400 * i
/-- CAL_LANE_XF_STAT.STATE. -/
def L.CAL_LANE_XF_STAT_STATE (i : Nat) : Loc := ⟨(A.CAL_LANE_XF_STAT i), 30, 2⟩
/-- CAL_LANE_XF_STAT.PEND. -/
def L.CAL_LANE_XF_STAT_PEND (i : Nat) : Loc := ⟨(A.CAL_LANE_XF_STAT i), 29, 1⟩
/-- CAL_LANE_XF_STAT.LATE. -/
def L.CAL_LANE_XF_STAT_LATE (i : Nat) : Loc := ⟨(A.CAL_LANE_XF_STAT i), 28, 1⟩
/-- CAL_LANE_XF_STAT.BANK_BUSY. -/
def L.CAL_LANE_XF_STAT_BANK_BUSY (i : Nat) : Loc := ⟨(A.CAL_LANE_XF_STAT i), 27, 1⟩
/-- CAL_LANE_XF_STAT.ERR. -/
def L.CAL_LANE_XF_STAT_ERR (i : Nat) : Loc := ⟨(A.CAL_LANE_XF_STAT i), 26, 1⟩
/-- CAL_LANE_XF_STAT.ACTIVE. -/
def L.CAL_LANE_XF_STAT_ACTIVE (i : Nat) : Loc := ⟨(A.CAL_LANE_XF_STAT i), 24, 2⟩
/-- CAL_LANE_XF_STAT.STEP. -/
def L.CAL_LANE_XF_STAT_STEP (i : Nat) : Loc := ⟨(A.CAL_LANE_XF_STAT i), 20, 4⟩
/-- CAL_LANE_XF_STAT.REPLACED. -/
def L.CAL_LANE_XF_STAT_REPLACED (i : Nat) : Loc := ⟨(A.CAL_LANE_XF_STAT i), 0, 16⟩

/-- Address of CAL_LANE_RXG (R301). -/
def A.CAL_LANE_RXG (i j : Nat) : Nat := 0x640100 + 0x400 * i + 0x80 * j
/-- CAL_LANE_RXG.Q. -/
def L.CAL_LANE_RXG_Q (i j : Nat) : Loc := ⟨(A.CAL_LANE_RXG i j), 16, 16⟩
/-- CAL_LANE_RXG.I. -/
def L.CAL_LANE_RXG_I (i j : Nat) : Loc := ⟨(A.CAL_LANE_RXG i j), 0, 16⟩

/-- Address of CAL_LANE_TXG (R301). -/
def A.CAL_LANE_TXG (i j : Nat) : Nat := 0x640104 + 0x400 * i + 0x80 * j
/-- CAL_LANE_TXG.Q. -/
def L.CAL_LANE_TXG_Q (i j : Nat) : Loc := ⟨(A.CAL_LANE_TXG i j), 16, 16⟩
/-- CAL_LANE_TXG.I. -/
def L.CAL_LANE_TXG_I (i j : Nat) : Loc := ⟨(A.CAL_LANE_TXG i j), 0, 16⟩

/-- Address of CAL_GRID_XF_REQ (R301). -/
def A.CAL_GRID_XF_REQ (i : Nat) : Nat := 0x660000 + 0x1000 * i
/-- CAL_GRID_XF_REQ.GO. -/
def L.CAL_GRID_XF_REQ_GO (i : Nat) : Loc := ⟨(A.CAL_GRID_XF_REQ i), 31, 1⟩
/-- CAL_GRID_XF_REQ.AT_MODE. -/
def L.CAL_GRID_XF_REQ_AT_MODE (i : Nat) : Loc := ⟨(A.CAL_GRID_XF_REQ i), 30, 1⟩
/-- CAL_GRID_XF_REQ.FADE. -/
def L.CAL_GRID_XF_REQ_FADE (i : Nat) : Loc := ⟨(A.CAL_GRID_XF_REQ i), 24, 4⟩
/-- CAL_GRID_XF_REQ.TARGET. -/
def L.CAL_GRID_XF_REQ_TARGET (i : Nat) : Loc := ⟨(A.CAL_GRID_XF_REQ i), 20, 4⟩
/-- CAL_GRID_XF_REQ.AT. -/
def L.CAL_GRID_XF_REQ_AT (i : Nat) : Loc := ⟨(A.CAL_GRID_XF_REQ i), 0, 16⟩

/-- Address of CAL_GRID_XF_STAT (R301). -/
def A.CAL_GRID_XF_STAT (i : Nat) : Nat := 0x660004 + 0x1000 * i
/-- CAL_GRID_XF_STAT.STATE. -/
def L.CAL_GRID_XF_STAT_STATE (i : Nat) : Loc := ⟨(A.CAL_GRID_XF_STAT i), 30, 2⟩
/-- CAL_GRID_XF_STAT.PEND. -/
def L.CAL_GRID_XF_STAT_PEND (i : Nat) : Loc := ⟨(A.CAL_GRID_XF_STAT i), 29, 1⟩
/-- CAL_GRID_XF_STAT.LATE. -/
def L.CAL_GRID_XF_STAT_LATE (i : Nat) : Loc := ⟨(A.CAL_GRID_XF_STAT i), 28, 1⟩
/-- CAL_GRID_XF_STAT.BANK_BUSY. -/
def L.CAL_GRID_XF_STAT_BANK_BUSY (i : Nat) : Loc := ⟨(A.CAL_GRID_XF_STAT i), 27, 1⟩
/-- CAL_GRID_XF_STAT.ERR. -/
def L.CAL_GRID_XF_STAT_ERR (i : Nat) : Loc := ⟨(A.CAL_GRID_XF_STAT i), 26, 1⟩
/-- CAL_GRID_XF_STAT.ACTIVE. -/
def L.CAL_GRID_XF_STAT_ACTIVE (i : Nat) : Loc := ⟨(A.CAL_GRID_XF_STAT i), 24, 2⟩
/-- CAL_GRID_XF_STAT.STEP. -/
def L.CAL_GRID_XF_STAT_STEP (i : Nat) : Loc := ⟨(A.CAL_GRID_XF_STAT i), 20, 4⟩
/-- CAL_GRID_XF_STAT.REPLACED. -/
def L.CAL_GRID_XF_STAT_REPLACED (i : Nat) : Loc := ⟨(A.CAL_GRID_XF_STAT i), 0, 16⟩

/-- Address of CAL_GRID_GE (R301). -/
def A.CAL_GRID_GE (i j k : Nat) : Nat := 0x660400 + 0x1000 * i + 0x400 * j + 0x8 * k
/-- CAL_GRID_GE.Q. -/
def L.CAL_GRID_GE_Q (i j k : Nat) : Loc := ⟨(A.CAL_GRID_GE i j k), 16, 16⟩
/-- CAL_GRID_GE.I. -/
def L.CAL_GRID_GE_I (i j k : Nat) : Loc := ⟨(A.CAL_GRID_GE i j k), 0, 16⟩

/-- Address of CAL_GRID_SLOPE (R301). -/
def A.CAL_GRID_SLOPE (i j k : Nat) : Nat := 0x660404 + 0x1000 * i + 0x400 * j + 0x8 * k
/-- CAL_GRID_SLOPE.SLOPE. -/
def L.CAL_GRID_SLOPE_SLOPE (i j k : Nat) : Loc := ⟨(A.CAL_GRID_SLOPE i j k), 0, 16⟩

/-- Address of CAL_CFG (R301). -/
def A.CAL_CFG : Nat := 0x680000
/-- CAL_CFG.BG_EN. -/
def L.CAL_CFG_BG_EN : Loc := ⟨A.CAL_CFG, 31, 1⟩
/-- CAL_CFG.BG_FADE. -/
def L.CAL_CFG_BG_FADE : Loc := ⟨A.CAL_CFG, 24, 4⟩
/-- CAL_CFG.BG_INTERVAL. -/
def L.CAL_CFG_BG_INTERVAL : Loc := ⟨A.CAL_CFG, 16, 8⟩
/-- CAL_CFG.CW_MARGIN. -/
def L.CAL_CFG_CW_MARGIN : Loc := ⟨A.CAL_CFG, 8, 8⟩
/-- CAL_CFG.PRE_RETRY. -/
def L.CAL_CFG_PRE_RETRY : Loc := ⟨A.CAL_CFG, 4, 4⟩
/-- CAL_CFG.CW_TMO. -/
def L.CAL_CFG_CW_TMO : Loc := ⟨A.CAL_CFG, 0, 4⟩

/-- Address of CAL_PRE (R301). -/
def A.CAL_PRE : Nat := 0x680004
/-- CAL_PRE.PRE_MAX. -/
def L.CAL_PRE_PRE_MAX : Loc := ⟨A.CAL_PRE, 16, 16⟩
/-- CAL_PRE.SNR_MIN. -/
def L.CAL_PRE_SNR_MIN : Loc := ⟨A.CAL_PRE, 0, 16⟩

/-- Address of CAL_PILOT (R301). -/
def A.CAL_PILOT : Nat := 0x680008
/-- CAL_PILOT.CALOUT. -/
def L.CAL_PILOT_CALOUT : Loc := ⟨A.CAL_PILOT, 31, 1⟩
/-- CAL_PILOT.MODE. -/
def L.CAL_PILOT_MODE : Loc := ⟨A.CAL_PILOT, 28, 2⟩
/-- CAL_PILOT.CM. -/
def L.CAL_PILOT_CM : Loc := ⟨A.CAL_PILOT, 24, 3⟩
/-- CAL_PILOT.CSP. -/
def L.CAL_PILOT_CSP : Loc := ⟨A.CAL_PILOT, 16, 8⟩
/-- CAL_PILOT.LVL. -/
def L.CAL_PILOT_LVL : Loc := ⟨A.CAL_PILOT, 0, 8⟩

/-- Address of CAL_PILOT_LO (R301). -/
def A.CAL_PILOT_LO : Nat := 0x68000c
/-- CAL_PILOT_LO.FTW_LO. -/
def L.CAL_PILOT_LO_FTW_LO : Loc := ⟨A.CAL_PILOT_LO, 0, 32⟩

/-- Address of CAL_PILOT_HI (R301). -/
def A.CAL_PILOT_HI : Nat := 0x680010
/-- CAL_PILOT_HI.FTW_HI. -/
def L.CAL_PILOT_HI_FTW_HI : Loc := ⟨A.CAL_PILOT_HI, 0, 16⟩

/-- Address of CAL_RXINJ_LO (R301). -/
def A.CAL_RXINJ_LO : Nat := 0x680014
/-- CAL_RXINJ_LO.MASK_LO. -/
def L.CAL_RXINJ_LO_MASK_LO : Loc := ⟨A.CAL_RXINJ_LO, 0, 32⟩

/-- Address of CAL_RXINJ_HI (R301). -/
def A.CAL_RXINJ_HI : Nat := 0x680018
/-- CAL_RXINJ_HI.MASK_HI. -/
def L.CAL_RXINJ_HI_MASK_HI : Loc := ⟨A.CAL_RXINJ_HI, 0, 32⟩

/-- Address of CAL_RUN (R301). -/
def A.CAL_RUN : Nat := 0x680020
/-- CAL_RUN.GO. -/
def L.CAL_RUN_GO : Loc := ⟨A.CAL_RUN, 31, 1⟩
/-- CAL_RUN.ABORT. -/
def L.CAL_RUN_ABORT : Loc := ⟨A.CAL_RUN, 30, 1⟩
/-- CAL_RUN.APPLY. -/
def L.CAL_RUN_APPLY : Loc := ⟨A.CAL_RUN, 29, 1⟩
/-- CAL_RUN.FADE. -/
def L.CAL_RUN_FADE : Loc := ⟨A.CAL_RUN, 24, 4⟩
/-- CAL_RUN.KIND. -/
def L.CAL_RUN_KIND : Loc := ⟨A.CAL_RUN, 16, 4⟩
/-- CAL_RUN.PATH. -/
def L.CAL_RUN_PATH : Loc := ⟨A.CAL_RUN, 8, 6⟩

/-- Address of CAL_RSTAT (R301). -/
def A.CAL_RSTAT : Nat := 0x680024
/-- CAL_RSTAT.STATE. -/
def L.CAL_RSTAT_STATE : Loc := ⟨A.CAL_RSTAT, 29, 3⟩
/-- CAL_RSTAT.QLEN. -/
def L.CAL_RSTAT_QLEN : Loc := ⟨A.CAL_RSTAT, 24, 5⟩
/-- CAL_RSTAT.STATUS. -/
def L.CAL_RSTAT_STATUS : Loc := ⟨A.CAL_RSTAT, 20, 4⟩
/-- CAL_RSTAT.KIND. -/
def L.CAL_RSTAT_KIND : Loc := ⟨A.CAL_RSTAT, 16, 4⟩
/-- CAL_RSTAT.PATH. -/
def L.CAL_RSTAT_PATH : Loc := ⟨A.CAL_RSTAT, 8, 6⟩
/-- CAL_RSTAT.SEG. -/
def L.CAL_RSTAT_SEG : Loc := ⟨A.CAL_RSTAT, 0, 8⟩

/-- Address of CAL_RES_GP (R301). -/
def A.CAL_RES_GP : Nat := 0x680028
/-- CAL_RES_GP.GAIN. -/
def L.CAL_RES_GP_GAIN : Loc := ⟨A.CAL_RES_GP, 16, 16⟩
/-- CAL_RES_GP.PHASE. -/
def L.CAL_RES_GP_PHASE : Loc := ⟨A.CAL_RES_GP, 0, 16⟩

/-- Address of CAL_RES_DS (R301). -/
def A.CAL_RES_DS : Nat := 0x68002c
/-- CAL_RES_DS.SNR. -/
def L.CAL_RES_DS_SNR : Loc := ⟨A.CAL_RES_DS, 16, 16⟩
/-- CAL_RES_DS.DELAY. -/
def L.CAL_RES_DS_DELAY : Loc := ⟨A.CAL_RES_DS, 0, 16⟩

/-- Address of CAL_ALIGN (R301). -/
def A.CAL_ALIGN : Nat := 0x680030
/-- CAL_ALIGN.REF_PATH. -/
def L.CAL_ALIGN_REF_PATH : Loc := ⟨A.CAL_ALIGN, 20, 6⟩
/-- CAL_ALIGN.TXLVL. -/
def L.CAL_ALIGN_TXLVL : Loc := ⟨A.CAL_ALIGN, 0, 8⟩

/-- Address of CAL_TXREF (R301). -/
def A.CAL_TXREF : Nat := 0x680034
/-- CAL_TXREF.GAIN. -/
def L.CAL_TXREF_GAIN : Loc := ⟨A.CAL_TXREF, 0, 16⟩

/-- Address of CAL_APPLY (R301). -/
def A.CAL_APPLY : Nat := 0x680038
/-- CAL_APPLY.GO. -/
def L.CAL_APPLY_GO : Loc := ⟨A.CAL_APPLY, 31, 1⟩
/-- CAL_APPLY.FADE. -/
def L.CAL_APPLY_FADE : Loc := ⟨A.CAL_APPLY, 24, 4⟩
/-- CAL_APPLY.PATH. -/
def L.CAL_APPLY_PATH : Loc := ⟨A.CAL_APPLY, 16, 6⟩
/-- CAL_APPLY.AT. -/
def L.CAL_APPLY_AT : Loc := ⟨A.CAL_APPLY, 0, 14⟩

/-- Address of CAL_APPLY_GRP (R301). -/
def A.CAL_APPLY_GRP : Nat := 0x68003c
/-- CAL_APPLY_GRP.GRID. -/
def L.CAL_APPLY_GRP_GRID : Loc := ⟨A.CAL_APPLY_GRP, 3, 8⟩
/-- CAL_APPLY_GRP.LANE. -/
def L.CAL_APPLY_GRP_LANE : Loc := ⟨A.CAL_APPLY_GRP, 2, 1⟩
/-- CAL_APPLY_GRP.TXA. -/
def L.CAL_APPLY_GRP_TXA : Loc := ⟨A.CAL_APPLY_GRP, 1, 1⟩
/-- CAL_APPLY_GRP.RXA. -/
def L.CAL_APPLY_GRP_RXA : Loc := ⟨A.CAL_APPLY_GRP, 0, 1⟩

/-- Address of CAL_EVENT (R301). -/
def A.CAL_EVENT : Nat := 0x680040
/-- CAL_EVENT.PILOT_BUSY. -/
def L.CAL_EVENT_PILOT_BUSY : Loc := ⟨A.CAL_EVENT, 4, 1⟩
/-- CAL_EVENT.HELD. -/
def L.CAL_EVENT_HELD : Loc := ⟨A.CAL_EVENT, 3, 1⟩
/-- CAL_EVENT.RETRY. -/
def L.CAL_EVENT_RETRY : Loc := ⟨A.CAL_EVENT, 2, 1⟩
/-- CAL_EVENT.FAIL. -/
def L.CAL_EVENT_FAIL : Loc := ⟨A.CAL_EVENT, 1, 1⟩
/-- CAL_EVENT.DONE. -/
def L.CAL_EVENT_DONE : Loc := ⟨A.CAL_EVENT, 0, 1⟩

/-- Address of CAL_CNT (R301). -/
def A.CAL_CNT : Nat := 0x680044
/-- CAL_CNT.RUNS. -/
def L.CAL_CNT_RUNS : Loc := ⟨A.CAL_CNT, 16, 16⟩
/-- CAL_CNT.FAILS. -/
def L.CAL_CNT_FAILS : Loc := ⟨A.CAL_CNT, 8, 8⟩
/-- CAL_CNT.RETRIES. -/
def L.CAL_CNT_RETRIES : Loc := ⟨A.CAL_CNT, 0, 8⟩

/-- Address of CAL_NET (R301). -/
def A.CAL_NET (i : Nat) : Nat := 0x681000 + 0x10 * i
/-- CAL_NET.GAIN. -/
def L.CAL_NET_GAIN (i : Nat) : Loc := ⟨(A.CAL_NET i), 16, 16⟩
/-- CAL_NET.DLY. -/
def L.CAL_NET_DLY (i : Nat) : Loc := ⟨(A.CAL_NET i), 0, 16⟩

/-- Address of CAL_OBSCOR (R301). -/
def A.CAL_OBSCOR (i : Nat) : Nat := 0x681004 + 0x10 * i
/-- CAL_OBSCOR.Q. -/
def L.CAL_OBSCOR_Q (i : Nat) : Loc := ⟨(A.CAL_OBSCOR i), 16, 16⟩
/-- CAL_OBSCOR.I. -/
def L.CAL_OBSCOR_I (i : Nat) : Loc := ⟨(A.CAL_OBSCOR i), 0, 16⟩

/-- Address of CAL_OBSDLY (R301). -/
def A.CAL_OBSDLY (i : Nat) : Nat := 0x681008 + 0x10 * i
/-- CAL_OBSDLY.DLY. -/
def L.CAL_OBSDLY_DLY (i : Nat) : Loc := ⟨(A.CAL_OBSDLY i), 0, 16⟩

end Sys2Proof.Machine
end

