-- ==== Sys2Proof/Machine/RegMapBeam.lean ====
section
/-! DEFINITION. The register map of the blocks BM, DPD, row by row from the spec's register tables. -/
namespace Sys2Proof.Machine

/-- Registers of Beam from the spec's tables, part 0. -/
def regMapBeam0 : List RegRow := [
  ⟨.BM_CCFG, 0x400000, [⟨0x8000, 2, 4⟩, ⟨0x100, 4, 1⟩], 0, [], .fw, 0, 0,
    [⟨31, 31, .rw, 0⟩, ⟨30, 28, .rw, 0⟩, ⟨21, 16, .rw, 0x20⟩, ⟨12, 8, .rw, 0x1⟩]⟩,
  ⟨.BM_CTIME, 0x400004, [⟨0x8000, 2, 4⟩, ⟨0x100, 4, 1⟩], 0, [], .fw, 0, 0,
    [⟨25, 24, .rw, 0⟩, ⟨9, 0, .rw, 0x9c⟩]⟩,
  ⟨.BM_CHG, 0x400008, [⟨0x8000, 2, 4⟩, ⟨0x100, 4, 1⟩], 0, [], .fw, 0, 0,
    [⟨31, 31, .wo, 0⟩, ⟨30, 30, .wo, 0⟩, ⟨4, 0, .wo, 0⟩]⟩,
  ⟨.BM_CSTAT, 0x40000c, [⟨0x8000, 2, 4⟩, ⟨0x100, 4, 1⟩], 0, [], .none, 0, 0,
    [⟨31, 30, .ro, 0⟩, ⟨29, 29, .ro, 0⟩, ⟨27, 24, .ro, 0⟩, ⟨15, 0, .ro, 0⟩]⟩,
  ⟨.BM_XF_REQ, 0x400010, [⟨0x8000, 2, 4⟩, ⟨0x100, 4, 1⟩], 0, [], .fw, 0, 0,
    [⟨31, 31, .wo, 0⟩, ⟨30, 30, .wo, 0⟩, ⟨27, 24, .wo, 0⟩, ⟨23, 20, .wo, 0⟩, ⟨15, 0, .wo, 0⟩]⟩,
  ⟨.BM_XF_STAT, 0x400014, [⟨0x8000, 2, 4⟩, ⟨0x100, 4, 1⟩], 0, [], .fw, 0, 0,
    [⟨31, 30, .ro, 0⟩, ⟨29, 29, .ro, 0⟩, ⟨28, 28, .w1c, 0⟩, ⟨27, 27, .w1c, 0⟩, ⟨26, 26, .w1c, 0⟩, ⟨25, 24, .ro, 0⟩, ⟨23, 20, .ro, 0⟩, ⟨15, 0, .rc, 0⟩]⟩,
  ⟨.BM_CEVENT, 0x400018, [⟨0x8000, 2, 4⟩, ⟨0x100, 4, 1⟩], 0, [], .fw, 0, 0,
    [⟨3, 3, .w1c, 0⟩, ⟨2, 2, .w1c, 0⟩, ⟨1, 1, .w1c, 0⟩, ⟨0, 0, .w1c, 0⟩]⟩,
  ⟨.BM_CCNT, 0x40001c, [⟨0x8000, 2, 4⟩, ⟨0x100, 4, 1⟩], 0, [], .fw, 0, 0,
    [⟨31, 20, .rc, 0⟩, ⟨19, 14, .rc, 0⟩, ⟨13, 8, .rc, 0⟩, ⟨7, 0, .rc, 0⟩]⟩,
  ⟨.BM_DSTAT, 0x401000, [⟨0x8000, 2, 1⟩], 0, [], .none, 0, 0,
    [⟨31, 28, .ro, 0⟩, ⟨7, 7, .ro, 0⟩, ⟨6, 6, .ro, 0⟩, ⟨5, 5, .ro, 0x1⟩, ⟨2, 0, .ro, 0x4⟩]⟩,
  ⟨.BM_DEVENT, 0x401004, [⟨0x8000, 2, 1⟩], 0, [], .fw, 0, 0,
    [⟨7, 7, .w1c, 0⟩, ⟨6, 6, .w1c, 0⟩, ⟨5, 5, .w1c, 0⟩, ⟨4, 4, .w1c, 0⟩, ⟨3, 3, .w1c, 0⟩, ⟨2, 2, .w1c, 0⟩, ⟨1, 1, .w1c, 0⟩, ⟨0, 0, .w1c, 0⟩]⟩,
  ⟨.BM_FAULT, 0x401008, [⟨0x8000, 2, 1⟩], 0, [], .none, 0, 0,
    [⟨31, 30, .ro, 0⟩, ⟨29, 28, .ro, 0⟩, ⟨27, 22, .ro, 0⟩, ⟨21, 15, .ro, 0⟩]⟩,
  ⟨.BM_FAULT_SYM, 0x40100c, [⟨0x8000, 2, 1⟩], 0, [], .none, 0, 0,
    [⟨15, 0, .ro, 0⟩]⟩]

/-- Registers of Beam from the spec's tables, part 1. -/
def regMapBeam1 : List RegRow := [
  ⟨.BM_RETIRED, 0x401010, [⟨0x8000, 2, 1⟩], 0, [⟨0x4, 3, 1⟩], .none, 0, 0,
    [⟨31, 0, .ro, 0⟩]⟩,
  ⟨.BM_RODMAP, 0x401100, [⟨0x8000, 2, 1⟩], 0, [⟨0x4, 16, 1⟩], .none, 0, 0,
    [⟨31, 31, .ro, 0⟩, ⟨30, 24, .ro, 0⟩, ⟨23, 23, .ro, 0⟩, ⟨22, 16, .ro, 0⟩, ⟨15, 15, .ro, 0⟩, ⟨14, 8, .ro, 0⟩, ⟨7, 7, .ro, 0⟩, ⟨6, 0, .ro, 0⟩]⟩,
  ⟨.BM_ERAMP, 0x401200, [⟨0x8000, 2, 1⟩], 0, [⟨0x4, 64, 1⟩], .fw, 0, 0,
    [⟨31, 31, .wo, 0⟩, ⟨30, 30, .rw, 0x1⟩, ⟨29, 28, .ro, 0x1⟩, ⟨23, 16, .rw, 0xe⟩, ⟨12, 0, .ro, 0x1000⟩]⟩,
  ⟨.DPD_PCFG, 0x500000, [⟨0x1000, 64, 1⟩], 0, [], .fw, 0, 0,
    [⟨31, 31, .rw, 0⟩, ⟨30, 30, .rw, 0x1⟩, ⟨15, 0, .rw, 0xf880⟩]⟩,
  ⟨.DPD_XF_REQ, 0x500010, [⟨0x1000, 64, 1⟩], 0, [], .fw, 0, 0,
    [⟨31, 31, .wo, 0⟩, ⟨30, 30, .wo, 0⟩, ⟨27, 24, .wo, 0⟩, ⟨23, 20, .wo, 0⟩, ⟨15, 0, .wo, 0⟩]⟩,
  ⟨.DPD_XF_STAT, 0x500014, [⟨0x1000, 64, 1⟩], 0, [], .none, 0, 0,
    [⟨31, 30, .ro, 0⟩, ⟨29, 29, .ro, 0⟩, ⟨28, 28, .w1c, 0⟩, ⟨27, 27, .w1c, 0⟩, ⟨26, 26, .w1c, 0⟩, ⟨25, 24, .ro, 0⟩, ⟨23, 20, .ro, 0⟩, ⟨15, 0, .rc, 0⟩]⟩,
  ⟨.DPD_PSTAT, 0x500018, [⟨0x1000, 64, 1⟩], 0, [], .none, 0, 0,
    [⟨31, 30, .ro, 0⟩, ⟨29, 28, .ro, 0x1⟩, ⟨27, 26, .ro, 0x2⟩, ⟨25, 22, .ro, 0⟩]⟩,
  ⟨.DPD_TRIAL, 0x500020, [⟨0x1000, 64, 1⟩], 0, [], .fw, 0, 0,
    [⟨31, 31, .wo, 0⟩, ⟨30, 30, .wo, 0⟩, ⟨23, 16, .rw, 0x10⟩, ⟨15, 12, .rw, 0x4⟩, ⟨11, 8, .rw, 0x4⟩, ⟨7, 4, .rw, 0x2⟩]⟩,
  ⟨.DPD_TRIAL_LIM, 0x500024, [⟨0x1000, 64, 1⟩], 0, [], .fw, 0, 0,
    [⟨31, 24, .rw, 0x14⟩, ⟨23, 16, .rw, 0x20⟩, ⟨15, 8, .rw, 0xc0⟩, ⟨7, 0, .rw, 0x10⟩]⟩,
  ⟨.DPD_TRIAL_RES, 0x500028, [⟨0x1000, 64, 1⟩], 0, [], .none, 0, 0,
    [⟨31, 28, .ro, 0⟩, ⟨27, 24, .ro, 0⟩, ⟨23, 20, .ro, 0⟩, ⟨19, 16, .ro, 0⟩]⟩,
  ⟨.DPD_TRIAL_MET, 0x50002c, [⟨0x1000, 64, 1⟩], 0, [], .none, 0, 0,
    [⟨31, 16, .ro, 0⟩, ⟨15, 0, .ro, 0⟩]⟩,
  ⟨.DPD_MASK, 0x500030, [⟨0x1000, 64, 1⟩], 0, [], .fw, 0, 0,
    [⟨31, 22, .rw, 0x3df⟩, ⟨21, 12, .rw, 0x21⟩, ⟨11, 8, .rw, 0x3⟩, ⟨7, 0, .rw, 0x42⟩]⟩]

/-- Registers of Beam from the spec's tables, part 2. -/
def regMapBeam2 : List RegRow := [
  ⟨.DPD_ALIGN, 0x500034, [⟨0x1000, 64, 1⟩], 0, [], .fw, 0, 0,
    [⟨31, 16, .ro, 0⟩, ⟨15, 0, .rw, 0⟩]⟩,
  ⟨.DPD_PEVENT, 0x500038, [⟨0x1000, 64, 1⟩], 0, [], .fw, 0, 0,
    [⟨4, 4, .w1c, 0⟩, ⟨3, 3, .w1c, 0⟩, ⟨2, 2, .w1c, 0⟩, ⟨1, 1, .w1c, 0⟩, ⟨0, 0, .w1c, 0⟩]⟩,
  ⟨.DPD_PCNT, 0x50003c, [⟨0x1000, 64, 1⟩], 0, [], .fw, 0, 0,
    [⟨31, 16, .rc, 0⟩, ⟨15, 8, .rc, 0⟩, ⟨7, 0, .rc, 0⟩]⟩,
  ⟨.DPD_BANK, 0x500400, [⟨0x1000, 64, 1⟩], 0, [⟨0x200, 3, 65⟩, ⟨0x4, 65, 1⟩], .fw, 0, 0,
    [⟨31, 0, .rw, 0⟩]⟩,
  ⟨.DPD_OCFG, 0x540000, [⟨0x100, 8, 1⟩], 0, [], .fw, 0, 0,
    [⟨31, 16, .rw, 0x3e8⟩, ⟨7, 0, .rw, 0xff⟩]⟩,
  ⟨.DPD_CAPREQ, 0x540004, [⟨0x100, 8, 1⟩], 0, [], .fw, 0, 0,
    [⟨31, 31, .wo, 0⟩, ⟨8, 8, .wo, 0⟩, ⟨2, 0, .wo, 0⟩]⟩,
  ⟨.DPD_CAPSTAT, 0x540008, [⟨0x100, 8, 1⟩], 0, [], .fw, 0, 0,
    [⟨29, 29, .ro, 0⟩, ⟨28, 28, .w1c, 0⟩, ⟨27, 27, .w1c, 0⟩, ⟨23, 16, .rc, 0⟩, ⟨15, 0, .ro, 0⟩]⟩,
  ⟨.DPD_SJOB, 0x541000, [], 0, [], .fw, 0, 0,
    [⟨31, 31, .wo, 0⟩, ⟨18, 0, .wo, 0⟩]⟩,
  ⟨.DPD_SSTAT, 0x541040, [⟨0x4, 16, 1⟩], 0, [], .none, 0, 0,
    [⟨31, 29, .ro, 0⟩, ⟨28, 25, .ro, 0⟩, ⟨19, 16, .ro, 0⟩]⟩]

/-- The register map of these blocks. -/
def regMapBeam : List RegRow :=
  regMapBeam0 ++ regMapBeam1 ++ regMapBeam2

end Sys2Proof.Machine
end

