-- ==== Sys2Proof/Machine/RegMapCal.lean ====
section
/-! DEFINITION. The register map of the blocks CAL, row by row from the spec's register tables. -/
namespace Sys2Proof.Machine

/-- Registers of Cal from the spec's tables, part 0. -/
def regMapCal0 : List RegRow := [
  ⟨.CAL_RXA_XF_REQ, 0x600000, [⟨0x400, 72, 1⟩], 0, [], .fw, 0, 0,
    [⟨31, 31, .wo, 0⟩, ⟨30, 30, .wo, 0⟩, ⟨27, 24, .wo, 0⟩, ⟨23, 20, .wo, 0⟩, ⟨15, 0, .wo, 0⟩]⟩,
  ⟨.CAL_RXA_XF_STAT, 0x600004, [⟨0x400, 72, 1⟩], 0, [], .fw, 0, 0,
    [⟨31, 30, .ro, 0⟩, ⟨29, 29, .ro, 0⟩, ⟨28, 28, .w1c, 0⟩, ⟨27, 27, .w1c, 0⟩, ⟨26, 26, .w1c, 0⟩, ⟨25, 24, .ro, 0⟩, ⟨23, 20, .ro, 0⟩, ⟨15, 0, .rc, 0⟩]⟩,
  ⟨.CAL_RXA_SKT, 0x600100, [⟨0x400, 72, 1⟩], 0, [⟨0x80, 2, 9⟩, ⟨0x4, 9, 1⟩], .fw, 0, 0,
    [⟨7, 0, .rw, 0⟩]⟩,
  ⟨.CAL_RXA_BUFG, 0x600124, [⟨0x400, 72, 1⟩], 0, [⟨0x80, 2, 1⟩], .fw, 0, 0,
    [⟨5, 0, .rw, 0⟩]⟩,
  ⟨.CAL_TXA_XF_REQ, 0x620000, [⟨0x400, 64, 1⟩], 0, [], .fw, 0, 0,
    [⟨31, 31, .wo, 0⟩, ⟨30, 30, .wo, 0⟩, ⟨27, 24, .wo, 0⟩, ⟨23, 20, .wo, 0⟩, ⟨15, 0, .wo, 0⟩]⟩,
  ⟨.CAL_TXA_XF_STAT, 0x620004, [⟨0x400, 64, 1⟩], 0, [], .fw, 0, 0,
    [⟨31, 30, .ro, 0⟩, ⟨29, 29, .ro, 0⟩, ⟨28, 28, .w1c, 0⟩, ⟨27, 27, .w1c, 0⟩, ⟨26, 26, .w1c, 0⟩, ⟨25, 24, .ro, 0⟩, ⟨23, 20, .ro, 0⟩, ⟨15, 0, .rc, 0⟩]⟩,
  ⟨.CAL_TXA_DLY, 0x620100, [⟨0x400, 64, 1⟩], 0, [⟨0x80, 2, 1⟩], .fw, 0, 0,
    [⟨7, 0, .rw, 0⟩]⟩,
  ⟨.CAL_TXA_IFS, 0x620104, [⟨0x400, 64, 1⟩], 0, [⟨0x80, 2, 1⟩], .fw, 0, 0,
    [⟨5, 0, .rw, 0⟩]⟩,
  ⟨.CAL_TXSEG, 0x620200, [⟨0x400, 64, 1⟩], 0, [⟨0x4, 65, 1⟩], .none, 0, 0,
    [⟨7, 0, .ro, 0⟩]⟩,
  ⟨.CAL_LANE_XF_REQ, 0x640000, [⟨0x400, 64, 1⟩], 0, [], .fw, 0, 0,
    [⟨31, 31, .wo, 0⟩, ⟨30, 30, .wo, 0⟩, ⟨27, 24, .wo, 0⟩, ⟨23, 20, .wo, 0⟩, ⟨15, 0, .wo, 0⟩]⟩,
  ⟨.CAL_LANE_XF_STAT, 0x640004, [⟨0x400, 64, 1⟩], 0, [], .fw, 0, 0,
    [⟨31, 30, .ro, 0⟩, ⟨29, 29, .ro, 0⟩, ⟨28, 28, .w1c, 0⟩, ⟨27, 27, .w1c, 0⟩, ⟨26, 26, .w1c, 0⟩, ⟨25, 24, .ro, 0⟩, ⟨23, 20, .ro, 0⟩, ⟨15, 0, .rc, 0⟩]⟩,
  ⟨.CAL_LANE_RXG, 0x640100, [⟨0x400, 64, 1⟩], 0, [⟨0x80, 2, 1⟩], .fw, 0, 0,
    [⟨31, 16, .rw, 0⟩, ⟨15, 0, .rw, 0x4000⟩]⟩]

/-- Registers of Cal from the spec's tables, part 1. -/
def regMapCal1 : List RegRow := [
  ⟨.CAL_LANE_TXG, 0x640104, [⟨0x400, 64, 1⟩], 0, [⟨0x80, 2, 1⟩], .fw, 0, 0,
    [⟨31, 16, .rw, 0⟩, ⟨15, 0, .rw, 0x4000⟩]⟩,
  ⟨.CAL_GRID_XF_REQ, 0x660000, [⟨0x1000, 8, 1⟩], 0, [], .fw, 0, 0,
    [⟨31, 31, .wo, 0⟩, ⟨30, 30, .wo, 0⟩, ⟨27, 24, .wo, 0⟩, ⟨23, 20, .wo, 0⟩, ⟨15, 0, .wo, 0⟩]⟩,
  ⟨.CAL_GRID_XF_STAT, 0x660004, [⟨0x1000, 8, 1⟩], 0, [], .fw, 0, 0,
    [⟨31, 30, .ro, 0⟩, ⟨29, 29, .ro, 0⟩, ⟨28, 28, .w1c, 0⟩, ⟨27, 27, .w1c, 0⟩, ⟨26, 26, .w1c, 0⟩, ⟨25, 24, .ro, 0⟩, ⟨23, 20, .ro, 0⟩, ⟨15, 0, .rc, 0⟩]⟩,
  ⟨.CAL_GRID_GE, 0x660400, [⟨0x1000, 8, 1⟩], 0, [⟨0x400, 2, 64⟩, ⟨0x8, 64, 1⟩], .fw, 0, 0,
    [⟨31, 16, .rw, 0⟩, ⟨15, 0, .rw, 0x4000⟩]⟩,
  ⟨.CAL_GRID_SLOPE, 0x660404, [⟨0x1000, 8, 1⟩], 0, [⟨0x400, 2, 64⟩, ⟨0x8, 64, 1⟩], .fw, 0, 0,
    [⟨15, 0, .rw, 0⟩]⟩,
  ⟨.CAL_CFG, 0x680000, [], 0, [], .fw, 0, 0,
    [⟨31, 31, .rw, 0⟩, ⟨27, 24, .rw, 0x4⟩, ⟨23, 16, .rw, 0x64⟩, ⟨15, 8, .rw, 0x2⟩, ⟨7, 4, .rw, 0x2⟩, ⟨3, 0, .rw, 0xa⟩]⟩,
  ⟨.CAL_PRE, 0x680004, [], 0, [], .fw, 0, 0,
    [⟨31, 16, .rw, 0xf600⟩, ⟨15, 0, .rw, 0x780⟩]⟩,
  ⟨.CAL_PILOT, 0x680008, [], 0, [], .fw, 0, 0,
    [⟨31, 31, .rw, 0⟩, ⟨29, 28, .rw, 0⟩, ⟨26, 24, .rw, 0x6⟩, ⟨23, 16, .rw, 0x4⟩, ⟨7, 0, .rw, 0⟩]⟩,
  ⟨.CAL_PILOT_LO, 0x68000c, [], 0, [], .fw, 0, 2,
    [⟨31, 0, .rw, 0⟩]⟩,
  ⟨.CAL_PILOT_HI, 0x680010, [], 0, [], .fw, 1, 2,
    [⟨15, 0, .rw, 0⟩]⟩,
  ⟨.CAL_RXINJ_LO, 0x680014, [], 0, [], .fw, 0, 2,
    [⟨31, 0, .rw, 0⟩]⟩,
  ⟨.CAL_RXINJ_HI, 0x680018, [], 0, [], .fw, 1, 2,
    [⟨31, 0, .rw, 0⟩]⟩]

/-- Registers of Cal from the spec's tables, part 2. -/
def regMapCal2 : List RegRow := [
  ⟨.CAL_RUN, 0x680020, [], 0, [], .fw, 0, 0,
    [⟨31, 31, .wo, 0⟩, ⟨30, 30, .wo, 0⟩, ⟨29, 29, .wo, 0⟩, ⟨27, 24, .wo, 0⟩, ⟨19, 16, .wo, 0⟩, ⟨13, 8, .wo, 0⟩]⟩,
  ⟨.CAL_RSTAT, 0x680024, [], 0, [], .none, 0, 0,
    [⟨31, 29, .ro, 0⟩, ⟨28, 24, .ro, 0⟩, ⟨23, 20, .ro, 0⟩, ⟨19, 16, .ro, 0⟩, ⟨13, 8, .ro, 0⟩, ⟨7, 0, .ro, 0⟩]⟩,
  ⟨.CAL_RES_GP, 0x680028, [], 0, [], .none, 0, 0,
    [⟨31, 16, .ro, 0⟩, ⟨15, 0, .ro, 0⟩]⟩,
  ⟨.CAL_RES_DS, 0x68002c, [], 0, [], .none, 0, 0,
    [⟨31, 16, .ro, 0⟩, ⟨15, 0, .ro, 0⟩]⟩,
  ⟨.CAL_ALIGN, 0x680030, [], 0, [], .fw, 0, 0,
    [⟨25, 20, .rw, 0⟩, ⟨7, 0, .rw, 0x28⟩]⟩,
  ⟨.CAL_TXREF, 0x680034, [], 0, [], .fw, 0, 0,
    [⟨15, 0, .rw, 0⟩]⟩,
  ⟨.CAL_APPLY, 0x680038, [], 0, [], .fw, 0, 0,
    [⟨31, 31, .wo, 0⟩, ⟨27, 24, .wo, 0⟩, ⟨21, 16, .wo, 0⟩, ⟨13, 0, .wo, 0⟩]⟩,
  ⟨.CAL_APPLY_GRP, 0x68003c, [], 0, [], .fw, 0, 0,
    [⟨10, 3, .rw, 0⟩, ⟨2, 2, .rw, 0⟩, ⟨1, 1, .rw, 0⟩, ⟨0, 0, .rw, 0⟩]⟩,
  ⟨.CAL_EVENT, 0x680040, [], 0, [], .fw, 0, 0,
    [⟨4, 4, .w1c, 0⟩, ⟨3, 3, .w1c, 0⟩, ⟨2, 2, .w1c, 0⟩, ⟨1, 1, .w1c, 0⟩, ⟨0, 0, .w1c, 0⟩]⟩,
  ⟨.CAL_CNT, 0x680044, [], 0, [], .fw, 0, 0,
    [⟨31, 16, .rc, 0⟩, ⟨15, 8, .rc, 0⟩, ⟨7, 0, .rc, 0⟩]⟩,
  ⟨.CAL_NET, 0x681000, [⟨0x10, 64, 1⟩], 0, [], .fw, 0, 0,
    [⟨31, 16, .rw, 0⟩, ⟨15, 0, .rw, 0⟩]⟩,
  ⟨.CAL_OBSCOR, 0x681004, [⟨0x10, 64, 1⟩], 0, [], .none, 0, 0,
    [⟨31, 16, .ro, 0⟩, ⟨15, 0, .ro, 0x4000⟩]⟩]

/-- Registers of Cal from the spec's tables, part 3. -/
def regMapCal3 : List RegRow := [
  ⟨.CAL_OBSDLY, 0x681008, [⟨0x10, 64, 1⟩], 0, [], .none, 0, 0,
    [⟨15, 0, .ro, 0⟩]⟩]

/-- The register map of these blocks. -/
def regMapCal : List RegRow :=
  regMapCal0 ++ regMapCal1 ++ regMapCal2 ++ regMapCal3

end Sys2Proof.Machine
end

