-- ==== Sys2Proof/Machine/RegMapChan.lean ====
section
/-! DEFINITION. The register map of the blocks CH, WCH, OF, row by row from the spec's register tables. -/
namespace Sys2Proof.Machine

/-- Registers of Chan from the spec's tables, part 0. -/
def regMapChan0 : List RegRow := [
  ⟨.CH_CFG, 0x200000, [⟨0x1000, 64, 8⟩, ⟨0x100, 8, 1⟩], 0, [], .fw, 0, 0,
    [⟨31, 31, .rw, 0⟩, ⟨27, 26, .rw, 0x2⟩, ⟨25, 25, .rw, 0x1⟩, ⟨23, 22, .rw, 0x2⟩, ⟨21, 17, .rw, 0x4⟩, ⟨13, 8, .rw, 0x18⟩]⟩,
  ⟨.CH_NCO_LO, 0x200004, [⟨0x1000, 64, 8⟩, ⟨0x100, 8, 1⟩], 0, [], .fw, 0, 2,
    [⟨31, 0, .rw, 0⟩]⟩,
  ⟨.CH_NCO_HI, 0x200008, [⟨0x1000, 64, 8⟩, ⟨0x100, 8, 1⟩], 0, [], .fw, 1, 2,
    [⟨31, 16, .rw, 0⟩, ⟨15, 0, .rw, 0⟩]⟩,
  ⟨.CH_DELAY, 0x20000c, [⟨0x1000, 64, 8⟩, ⟨0x100, 8, 1⟩], 0, [], .fw, 0, 0,
    [⟨15, 8, .rw, 0⟩, ⟨7, 0, .rw, 0⟩]⟩,
  ⟨.CH_GAIN, 0x200010, [⟨0x1000, 64, 8⟩, ⟨0x100, 8, 1⟩], 0, [], .fw, 0, 0,
    [⟨15, 0, .rw, 0x4000⟩]⟩,
  ⟨.CH_CHG, 0x200014, [⟨0x1000, 64, 8⟩, ⟨0x100, 8, 1⟩], 0, [], .fw, 0, 0,
    [⟨31, 31, .wo, 0⟩, ⟨30, 30, .wo, 0⟩, ⟨13, 0, .wo, 0⟩]⟩,
  ⟨.CH_STAT, 0x200018, [⟨0x1000, 64, 8⟩, ⟨0x100, 8, 1⟩], 0, [], .none, 0, 0,
    [⟨31, 30, .ro, 0⟩, ⟨29, 29, .ro, 0⟩, ⟨28, 28, .ro, 0⟩, ⟨27, 24, .ro, 0⟩]⟩,
  ⟨.CH_EVENT, 0x20001c, [⟨0x1000, 64, 8⟩, ⟨0x100, 8, 1⟩], 0, [], .fw, 0, 0,
    [⟨4, 4, .w1c, 0⟩, ⟨3, 3, .w1c, 0⟩, ⟨2, 2, .w1c, 0⟩, ⟨1, 1, .w1c, 0⟩, ⟨0, 0, .w1c, 0⟩]⟩,
  ⟨.CH_INVAL, 0x200020, [⟨0x1000, 64, 8⟩, ⟨0x100, 8, 1⟩], 0, [], .none, 0, 0,
    [⟨31, 28, .ro, 0⟩, ⟨15, 0, .ro, 0⟩]⟩,
  ⟨.CH_FPWR, 0x200024, [⟨0x1000, 64, 8⟩, ⟨0x100, 4, 1⟩], 0, [], .none, 0, 0,
    [⟨15, 0, .ro, 0xe000⟩]⟩,
  ⟨.CH_FTHR, 0x200028, [⟨0x1000, 64, 8⟩, ⟨0x100, 4, 1⟩], 0, [], .fw, 0, 0,
    [⟨31, 16, .rw, 0⟩, ⟨15, 0, .rw, 0xe000⟩]⟩,
  ⟨.CH_PCFG, 0x20002c, [⟨0x1000, 64, 8⟩, ⟨0x100, 4, 1⟩], 0, [], .fw, 0, 0,
    [⟨20, 16, .rw, 0xa⟩, ⟨15, 0, .rw, 0xc0⟩]⟩,
  ⟨.NOT_ACTING, 0x200428, [⟨0x1000, 64, 8⟩, ⟨0x100, 4, 1⟩], 4, [⟨0x4, 2, 1⟩], .fw, 0, 0, []⟩]

/-- Registers of Chan from the spec's tables, part 1. -/
def regMapChan1 : List RegRow := [
  ⟨.CH_RXCTR, 0x200800, [⟨0x1000, 64, 1⟩], 0, [], .fw, 0, 0,
    [⟨31, 31, .ro, 0⟩, ⟨15, 0, .rw, 0⟩]⟩,
  ⟨.CH_CPWR, 0x200804, [⟨0x1000, 64, 1⟩], 0, [], .none, 0, 0,
    [⟨31, 31, .ro, 0⟩, ⟨15, 0, .ro, 0xe000⟩]⟩,
  ⟨.CH_CTHR, 0x200808, [⟨0x1000, 64, 1⟩], 0, [], .fw, 0, 0,
    [⟨31, 16, .rw, 0xff00⟩, ⟨15, 0, .rw, 0x40⟩]⟩,
  ⟨.CH_PEVENT, 0x20080c, [⟨0x1000, 64, 1⟩], 0, [], .fw, 0, 0,
    [⟨1, 1, .w1c, 0⟩, ⟨0, 0, .w1c, 0⟩]⟩,
  ⟨.CH_SUMCLIP, 0x200810, [⟨0x1000, 64, 1⟩], 0, [], .fw, 0, 0,
    [⟨31, 0, .rc, 0⟩]⟩,
  ⟨.WCH_CFG, 0x240000, [⟨0x1000, 16, 1⟩], 0, [], .fw, 0, 0,
    [⟨31, 31, .rw, 0⟩, ⟨30, 30, .rw, 0⟩, ⟨29, 23, .rw, 0⟩, ⟨22, 21, .rw, 0x2⟩, ⟨20, 16, .rw, 0x1⟩, ⟨15, 15, .rw, 0⟩, ⟨8, 0, .rw, 0x1⟩]⟩,
  ⟨.CH_NCO_LO, 0x240004, [⟨0x1000, 16, 8⟩], 512, [], .fw, 0, 2,
    [⟨31, 0, .rw, 0⟩]⟩,
  ⟨.CH_NCO_HI, 0x240008, [⟨0x1000, 16, 8⟩], 512, [], .fw, 1, 2,
    [⟨31, 16, .rw, 0⟩, ⟨15, 0, .rw, 0⟩]⟩,
  ⟨.CH_DELAY, 0x24000c, [⟨0x1000, 16, 8⟩], 512, [], .fw, 0, 0,
    [⟨15, 8, .rw, 0⟩, ⟨7, 0, .rw, 0⟩]⟩,
  ⟨.CH_GAIN, 0x240010, [⟨0x1000, 16, 8⟩], 512, [], .fw, 0, 0,
    [⟨15, 0, .rw, 0x4000⟩]⟩,
  ⟨.CH_CHG, 0x240014, [⟨0x1000, 16, 8⟩], 512, [], .fw, 0, 0,
    [⟨31, 31, .wo, 0⟩, ⟨30, 30, .wo, 0⟩, ⟨13, 0, .wo, 0⟩]⟩,
  ⟨.CH_STAT, 0x240018, [⟨0x1000, 16, 8⟩], 512, [], .none, 0, 0,
    [⟨31, 30, .ro, 0⟩, ⟨29, 29, .ro, 0⟩, ⟨28, 28, .ro, 0⟩, ⟨27, 24, .ro, 0⟩]⟩]

/-- Registers of Chan from the spec's tables, part 2. -/
def regMapChan2 : List RegRow := [
  ⟨.CH_EVENT, 0x24001c, [⟨0x1000, 16, 8⟩], 512, [], .fw, 0, 0,
    [⟨4, 4, .w1c, 0⟩, ⟨3, 3, .w1c, 0⟩, ⟨2, 2, .w1c, 0⟩, ⟨1, 1, .w1c, 0⟩, ⟨0, 0, .w1c, 0⟩]⟩,
  ⟨.CH_INVAL, 0x240020, [⟨0x1000, 16, 8⟩], 512, [], .none, 0, 0,
    [⟨31, 28, .ro, 0⟩, ⟨15, 0, .ro, 0⟩]⟩,
  ⟨.CH_FPWR, 0x240024, [⟨0x1000, 16, 8⟩], 512, [], .none, 0, 0,
    [⟨15, 0, .ro, 0xe000⟩]⟩,
  ⟨.CH_FTHR, 0x240028, [⟨0x1000, 16, 8⟩], 512, [], .fw, 0, 0,
    [⟨31, 16, .rw, 0⟩, ⟨15, 0, .rw, 0xe000⟩]⟩,
  ⟨.CH_PCFG, 0x24002c, [⟨0x1000, 16, 8⟩], 512, [], .fw, 0, 0,
    [⟨20, 16, .rw, 0xa⟩, ⟨15, 0, .rw, 0xc0⟩]⟩,
  ⟨.WCH_XF_REQ, 0x240040, [⟨0x1000, 16, 1⟩], 0, [], .fw, 0, 0,
    [⟨31, 31, .wo, 0⟩, ⟨30, 30, .wo, 0⟩, ⟨27, 24, .wo, 0⟩, ⟨23, 20, .wo, 0⟩, ⟨15, 0, .wo, 0⟩]⟩,
  ⟨.WCH_XF_STAT, 0x240044, [⟨0x1000, 16, 1⟩], 0, [], .fw, 0, 0,
    [⟨31, 30, .ro, 0⟩, ⟨29, 29, .ro, 0⟩, ⟨28, 28, .w1c, 0⟩, ⟨27, 27, .w1c, 0⟩, ⟨26, 26, .w1c, 0⟩, ⟨25, 24, .ro, 0⟩, ⟨23, 20, .ro, 0⟩, ⟨15, 0, .rc, 0⟩]⟩,
  ⟨.WCH_COEF, 0x280000, [⟨0x1000, 16, 1⟩], 0, [⟨0x800, 2, 384⟩, ⟨0x4, 384, 1⟩], .fw, 0, 0,
    [⟨17, 0, .rw, 0⟩]⟩,
  ⟨.OF_CFG, 0x300000, [⟨0x1000, 2, 4⟩, ⟨0x100, 4, 1⟩], 0, [], .fw, 0, 0,
    [⟨31, 31, .rw, 0⟩, ⟨30, 30, .rw, 0⟩, ⟨27, 24, .rw, 0xc⟩, ⟨23, 22, .rw, 0x1⟩, ⟨21, 21, .rw, 0⟩, ⟨19, 18, .rw, 0x1⟩, ⟨14, 12, .rw, 0⟩]⟩,
  ⟨.OF_RB, 0x300004, [⟨0x1000, 2, 4⟩, ⟨0x100, 4, 1⟩], 0, [], .fw, 0, 0,
    [⟨24, 16, .rw, 0x111⟩, ⟨15, 0, .rw, 0⟩]⟩,
  ⟨.OF_WIN, 0x300008, [⟨0x1000, 2, 4⟩, ⟨0x100, 4, 1⟩], 0, [], .fw, 0, 0,
    [⟨31, 16, .rw, 0⟩, ⟨11, 0, .rw, 0⟩]⟩,
  ⟨.OF_PC_LO, 0x30000c, [⟨0x1000, 2, 4⟩, ⟨0x100, 4, 1⟩], 0, [], .fw, 0, 2,
    [⟨31, 0, .rw, 0⟩]⟩]

/-- Registers of Chan from the spec's tables, part 3. -/
def regMapChan3 : List RegRow := [
  ⟨.OF_PC_HI, 0x300010, [⟨0x1000, 2, 4⟩, ⟨0x100, 4, 1⟩], 0, [], .fw, 1, 2,
    [⟨15, 0, .rw, 0⟩]⟩,
  ⟨.OF_MASK_LO, 0x300014, [⟨0x1000, 2, 4⟩, ⟨0x100, 4, 1⟩], 0, [], .fw, 0, 2,
    [⟨31, 0, .rw, 0⟩]⟩,
  ⟨.OF_MASK_HI, 0x300018, [⟨0x1000, 2, 4⟩, ⟨0x100, 4, 1⟩], 0, [], .fw, 1, 2,
    [⟨31, 0, .rw, 0⟩]⟩,
  ⟨.OF_CHG, 0x30001c, [⟨0x1000, 2, 4⟩, ⟨0x100, 4, 1⟩], 0, [], .fw, 0, 0,
    [⟨31, 31, .wo, 0⟩, ⟨30, 30, .wo, 0⟩, ⟨4, 0, .wo, 0⟩]⟩,
  ⟨.OF_STAT, 0x300020, [⟨0x1000, 2, 4⟩, ⟨0x100, 4, 1⟩], 0, [], .none, 0, 0,
    [⟨31, 30, .ro, 0⟩, ⟨29, 29, .ro, 0⟩, ⟨27, 24, .ro, 0⟩, ⟨23, 21, .ro, 0⟩, ⟨6, 0, .ro, 0⟩]⟩,
  ⟨.OF_EVENT, 0x300024, [⟨0x1000, 2, 4⟩, ⟨0x100, 4, 1⟩], 0, [], .fw, 0, 0,
    [⟨3, 3, .w1c, 0⟩, ⟨2, 2, .w1c, 0⟩, ⟨1, 1, .w1c, 0⟩, ⟨0, 0, .w1c, 0⟩]⟩,
  ⟨.OF_CNT, 0x300028, [⟨0x1000, 2, 4⟩, ⟨0x100, 4, 1⟩], 0, [], .fw, 0, 0,
    [⟨31, 20, .rc, 0⟩, ⟨19, 8, .rc, 0⟩, ⟨7, 0, .rc, 0⟩]⟩,
  ⟨.OF_ADM, 0x302000, [⟨0x10, 2, 1⟩], 0, [], .none, 0, 0,
    [⟨31, 28, .ro, 0⟩, ⟨27, 16, .ro, 0⟩, ⟨15, 0, .ro, 0⟩]⟩,
  ⟨.OF_ADM_CUR, 0x302004, [⟨0x10, 2, 1⟩], 0, [], .none, 0, 0,
    [⟨27, 16, .ro, 0⟩, ⟨15, 0, .ro, 0⟩]⟩]

/-- The register map of these blocks. -/
def regMapChan : List RegRow :=
  regMapChan0 ++ regMapChan1 ++ regMapChan2 ++ regMapChan3

end Sys2Proof.Machine
end

