-- ==== Sys2Proof/Machine/RegMapClk.lean ====
section
/-! DEFINITION. The register map of the blocks CLK, BOOT, DMA, MON, row by row from the spec's register tables. -/
namespace Sys2Proof.Machine

/-- Registers of Clk from the spec's tables, part 0. -/
def regMapClk0 : List RegRow := [
  ⟨.CLK_CFG, 0x50000, [], 0, [], .fw, 0, 0,
    [⟨9, 9, .w1s, 0⟩, ⟨8, 8, .w1s, 0⟩, ⟨5, 4, .rwl, 0x1⟩, ⟨1, 1, .rw, 0⟩, ⟨0, 0, .ro, 0⟩]⟩,
  ⟨.CLK_STAT, 0x50004, [], 0, [], .none, 0, 0,
    [⟨15, 15, .ro, 0⟩, ⟨14, 14, .ro, 0⟩, ⟨13, 13, .ro, 0⟩, ⟨12, 12, .ro, 0⟩, ⟨11, 11, .ro, 0x1⟩, ⟨10, 10, .ro, 0x1⟩, ⟨9, 9, .ro, 0⟩, ⟨8, 8, .ro, 0⟩, ⟨7, 7, .ro, 0⟩, ⟨6, 6, .ro, 0⟩, ⟨5, 5, .ro, 0⟩, ⟨4, 4, .ro, 0⟩, ⟨3, 0, .ro, 0⟩]⟩,
  ⟨.CLK_EVENT, 0x50008, [], 0, [], .fw, 0, 0,
    [⟨15, 15, .w1c, 0⟩, ⟨14, 14, .w1c, 0⟩, ⟨13, 13, .w1c, 0⟩, ⟨12, 12, .w1c, 0⟩, ⟨11, 11, .w1c, 0⟩, ⟨10, 10, .w1c, 0⟩, ⟨9, 9, .w1c, 0⟩, ⟨8, 8, .w1c, 0⟩, ⟨7, 7, .w1c, 0⟩, ⟨6, 6, .w1c, 0⟩, ⟨5, 5, .w1c, 0⟩, ⟨4, 4, .w1c, 0⟩, ⟨3, 3, .w1c, 0⟩, ⟨2, 2, .w1c, 0⟩, ⟨1, 1, .w1c, 0⟩, ⟨0, 0, .w1c, 0⟩]⟩,
  ⟨.CLK_COUNT, 0x5000c, [], 0, [], .fw, 0, 0,
    [⟨31, 31, .wo, 0⟩, ⟨30, 16, .ro, 0⟩, ⟨15, 0, .ro, 0⟩]⟩,
  ⟨.CLK_MDLL, 0x50010, [], 0, [], .none, 0, 0,
    [⟨21, 16, .ro, 0⟩, ⟨9, 0, .ro, 0x200⟩]⟩,
  ⟨.CLK_JUMP, 0x50014, [], 0, [], .none, 0, 0,
    [⟨31, 16, .ro, 0⟩, ⟨15, 0, .ro, 0⟩]⟩,
  ⟨.CLK_REFMON, 0x50018, [], 0, [], .none, 0, 0,
    [⟨31, 31, .ro, 0⟩, ⟨15, 0, .ro, 0⟩]⟩,
  ⟨.CLK_ALIGN, 0x5001c, [], 0, [], .fw, 0, 0,
    [⟨31, 16, .rw, 0x146⟩, ⟨15, 0, .ro, 0⟩]⟩,
  ⟨.CLK_AUX_OFFSET, 0x50020, [], 0, [], .fw, 0, 0,
    [⟨31, 0, .rw, 0⟩]⟩,
  ⟨.CLK_AUX_APPLIED, 0x50024, [], 0, [], .none, 0, 0,
    [⟨31, 0, .ro, 0⟩]⟩,
  ⟨.CLK_AUXDIV, 0x50040, [⟨0x4, 8, 1⟩], 0, [], .fw, 0, 0,
    [⟨25, 16, .rw, 0⟩, ⟨7, 0, .rw, 0⟩]⟩,
  ⟨.CLK_OUT, 0x50080, [⟨0x4, 4, 1⟩], 0, [], .host, 0, 0,
    [⟨25, 16, .rw, 0x40⟩, ⟨7, 4, .rw, 0x3⟩, ⟨3, 2, .rwl, 0⟩, ⟨1, 1, .rw, 0⟩, ⟨0, 0, .rw, 0⟩]⟩]

/-- Registers of Clk from the spec's tables, part 1. -/
def regMapClk1 : List RegRow := [
  ⟨.CLK_LOCK, 0x500fc, [], 0, [], .fw, 0, 0,
    [⟨0, 0, .w1s, 0⟩]⟩,
  ⟨.BOOT_STAT, 0x60000, [], 0, [], .none, 0, 0,
    [⟨31, 30, .ro, 0⟩, ⟨29, 29, .ro, 0⟩, ⟨28, 28, .ro, 0⟩, ⟨27, 27, .ro, 0⟩, ⟨26, 26, .ro, 0⟩, ⟨25, 24, .ro, 0⟩, ⟨23, 22, .ro, 0⟩, ⟨21, 20, .ro, 0⟩, ⟨19, 19, .ro, 0⟩]⟩,
  ⟨.BOOT_RCAUSE, 0x60004, [], 0, [], .none, 0, 0,
    [⟨3, 0, .ro, 0⟩]⟩,
  ⟨.BOOT_OPT, 0x60008, [], 0, [], .none, 0, 0,
    [⟨31, 0, .ro, 0⟩]⟩,
  ⟨.BOOT_TRIM, 0x6000c, [], 0, [], .none, 0, 0,
    [⟨31, 0, .ro, 0⟩]⟩,
  ⟨.BOOT_GEN, 0x60010, [], 0, [], .none, 0, 0,
    [⟨7, 4, .ro, 0⟩, ⟨3, 0, .ro, 0⟩]⟩,
  ⟨.BOOT_KEY, 0x60014, [], 0, [], .none, 0, 0,
    [⟨7, 4, .ro, 0⟩, ⟨3, 0, .ro, 0⟩]⟩,
  ⟨.BOOT_CTL, 0x60018, [], 0, [], .fw, 0, 0,
    [⟨31, 31, .w1s, 0⟩, ⟨30, 30, .w1s, 0⟩]⟩,
  ⟨.BOOT_EVENT, 0x6001c, [], 0, [], .fw, 0, 0,
    [⟨6, 6, .w1c, 0⟩, ⟨5, 5, .w1c, 0⟩, ⟨4, 4, .w1c, 0⟩, ⟨3, 3, .w1c, 0⟩, ⟨2, 2, .w1c, 0⟩, ⟨1, 1, .w1c, 0⟩, ⟨0, 0, .w1c, 0⟩]⟩,
  ⟨.BOOT_DBG, 0x60020, [], 0, [], .host, 0, 0,
    [⟨31, 31, .wo, 0⟩, ⟨30, 30, .ro, 0⟩, ⟨18, 0, .rw, 0⟩]⟩,
  ⟨.BOOT_DBG_NONCE, 0x60024, [], 0, [], .none, 0, 0,
    [⟨31, 0, .ro, 0⟩]⟩,
  ⟨.BOOT_OTP_WIN, 0x68000, [⟨0x4, 2048, 1⟩], 0, [], .none, 0, 0,
    [⟨31, 0, .ro, 0⟩]⟩]

/-- Registers of Clk from the spec's tables, part 2. -/
def regMapClk2 : List RegRow := [
  ⟨.DMA_CFG, 0x70000, [], 0, [], .fw, 0, 0,
    [⟨31, 31, .rw, 0x1⟩, ⟨15, 8, .rwl, 0x40⟩]⟩,
  ⟨.DMA_STAT, 0x70004, [], 0, [], .none, 0, 0,
    [⟨3, 0, .ro, 0⟩]⟩,
  ⟨.DMA_EVENT, 0x70008, [], 0, [], .fw, 0, 0,
    [⟨15, 8, .w1c, 0⟩, ⟨7, 0, .w1c, 0⟩]⟩,
  ⟨.DMA_LOCK, 0x700fc, [], 0, [], .fw, 0, 0,
    [⟨0, 0, .w1s, 0⟩]⟩,
  ⟨.DMA_QCFG, 0x70100, [⟨0x10, 8, 1⟩], 0, [], .fwBelow 6, 0, 0,
    [⟨31, 31, .rw, 0⟩, ⟨30, 30, .rw, 0⟩, ⟨19, 0, .rw, 0x8⟩]⟩,
  ⟨.DMA_QLO, 0x70104, [⟨0x10, 8, 1⟩], 0, [], .fwBelow 6, 0, 0,
    [⟨19, 0, .rw, 0x2⟩]⟩,
  ⟨.DMA_QLVL, 0x70108, [⟨0x10, 8, 1⟩], 0, [], .fwBelow 6, 0, 0,
    [⟨31, 31, .ro, 0⟩, ⟨19, 0, .rw, 0⟩]⟩,
  ⟨.DMA_QADJ, 0x7010c, [⟨0x10, 8, 1⟩], 0, [], .fwBelow 6, 0, 0,
    [⟨20, 0, .wo, 0⟩]⟩,
  ⟨.DMA_CCFG, 0x71000, [⟨0x40, 64, 1⟩], 0, [], .fwBelow 48, 0, 0,
    [⟨31, 31, .rw, 0⟩, ⟨30, 30, .rw, 0⟩, ⟨29, 27, .rw, 0⟩, ⟨26, 25, .rw, 0⟩, ⟨23, 16, .rw, 0x10⟩, ⟨15, 0, .rw, 0⟩]⟩,
  ⟨.DMA_CCTL, 0x71004, [⟨0x40, 64, 1⟩], 0, [], .fwBelow 48, 0, 0,
    [⟨31, 31, .wo, 0⟩, ⟨30, 30, .wo, 0⟩]⟩,
  ⟨.DMA_CDESC, 0x71008, [⟨0x40, 64, 1⟩], 0, [], .fwBelow 48, 0, 0,
    [⟨31, 0, .rw, 0x10000000⟩]⟩,
  ⟨.DMA_CSTAT, 0x7100c, [⟨0x40, 64, 1⟩], 0, [], .none, 0, 0,
    [⟨31, 29, .ro, 0⟩, ⟨28, 28, .ro, 0⟩, ⟨27, 24, .ro, 0⟩]⟩]

/-- Registers of Clk from the spec's tables, part 3. -/
def regMapClk3 : List RegRow := [
  ⟨.DMA_CPOS_SRC, 0x71010, [⟨0x40, 64, 1⟩], 0, [], .none, 0, 0,
    [⟨31, 0, .ro, 0⟩]⟩,
  ⟨.DMA_CPOS_DST, 0x71014, [⟨0x40, 64, 1⟩], 0, [], .none, 0, 0,
    [⟨31, 0, .ro, 0⟩]⟩,
  ⟨.DMA_CIDX, 0x71018, [⟨0x40, 64, 1⟩], 0, [], .none, 0, 0,
    [⟨31, 16, .ro, 0⟩, ⟨15, 0, .ro, 0⟩]⟩,
  ⟨.DMA_CIDX2, 0x7101c, [⟨0x40, 64, 1⟩], 0, [], .none, 0, 0,
    [⟨15, 0, .ro, 0⟩]⟩,
  ⟨.DMA_CCRC, 0x71020, [⟨0x40, 64, 1⟩], 0, [], .none, 0, 0,
    [⟨31, 0, .ro, 0⟩]⟩,
  ⟨.DMA_CEVENT, 0x71024, [⟨0x40, 64, 1⟩], 0, [], .fwBelow 48, 0, 0,
    [⟨5, 5, .w1c, 0⟩, ⟨4, 4, .w1c, 0⟩, ⟨3, 3, .w1c, 0⟩, ⟨2, 2, .w1c, 0⟩, ⟨1, 1, .w1c, 0⟩, ⟨0, 0, .w1c, 0⟩]⟩,
  ⟨.DMA_CCNT, 0x71028, [⟨0x40, 64, 1⟩], 0, [], .fwBelow 48, 0, 0,
    [⟨31, 16, .rc, 0⟩, ⟨15, 0, .rc, 0⟩]⟩,
  ⟨.DMA_CNOTE, 0x7102c, [⟨0x40, 64, 1⟩], 0, [], .fwBelow 48, 0, 0,
    [⟨31, 31, .rw, 0⟩, ⟨21, 16, .rw, 0x3e⟩, ⟨3, 0, .rw, 0⟩]⟩,
  ⟨.MON_CTL, 0x80000, [], 0, [], .fw, 0, 0,
    [⟨31, 31, .rw, 0⟩, ⟨30, 30, .rw, 0⟩]⟩,
  ⟨.MON_STAT, 0x80004, [], 0, [], .none, 0, 0,
    [⟨31, 31, .ro, 0⟩, ⟨27, 24, .ro, 0⟩, ⟨23, 20, .ro, 0⟩, ⟨5, 0, .ro, 0⟩]⟩,
  ⟨.MON_PTR, 0x80008, [], 0, [], .none, 0, 0,
    [⟨29, 24, .ro, 0⟩, ⟨21, 16, .ro, 0⟩, ⟨13, 8, .ro, 0⟩, ⟨5, 0, .ro, 0⟩]⟩,
  ⟨.MON_TRIG, 0x8000c, [], 0, [], .fw, 0, 0,
    [⟨31, 30, .rw, 0⟩, ⟨29, 29, .rw, 0⟩, ⟨28, 16, .rw, 0⟩, ⟨15, 0, .rw, 0⟩]⟩]

/-- Registers of Clk from the spec's tables, part 4. -/
def regMapClk4 : List RegRow := [
  ⟨.MON_MAINS_CFG, 0x80010, [], 0, [], .fw, 0, 0,
    [⟨31, 31, .rw, 0⟩, ⟨30, 30, .rw, 0⟩]⟩,
  ⟨.MON_MAINS_STAT, 0x80014, [], 0, [], .none, 0, 0,
    [⟨31, 31, .ro, 0⟩, ⟨30, 30, .ro, 0x1⟩, ⟨19, 0, .ro, 0x4b000⟩]⟩,
  ⟨.MON_HYST, 0x80018, [], 0, [], .fw, 0, 0,
    [⟨23, 0, .rw, 0x1000⟩]⟩,
  ⟨.MON_EVENT, 0x80020, [], 0, [], .fw, 0, 0,
    [⟨4, 4, .w1c, 0⟩, ⟨3, 3, .w1c, 0⟩, ⟨2, 2, .w1c, 0⟩, ⟨1, 1, .w1c, 0⟩, ⟨0, 0, .w1c, 0⟩]⟩,
  ⟨.MON_THI_LO, 0x80024, [], 0, [], .fw, 0, 0,
    [⟨31, 0, .w1c, 0⟩]⟩,
  ⟨.MON_THI_HI, 0x80028, [], 0, [], .fw, 0, 0,
    [⟨31, 0, .w1c, 0⟩]⟩,
  ⟨.MON_TLO_LO, 0x8002c, [], 0, [], .fw, 0, 0,
    [⟨31, 0, .w1c, 0⟩]⟩,
  ⟨.MON_TLO_HI, 0x80030, [], 0, [], .fw, 0, 0,
    [⟨31, 0, .w1c, 0⟩]⟩,
  ⟨.MON_CNT, 0x80034, [], 0, [], .fw, 0, 0,
    [⟨31, 16, .rc, 0⟩, ⟨15, 0, .rc, 0⟩]⟩,
  ⟨.MON_ENTRY, 0x80100, [⟨0x10, 64, 1⟩], 0, [⟨0x4, 4, 1⟩], .fw, 0, 0,
    [⟨31, 0, .rw, 0⟩]⟩,
  ⟨.MON_RES_W0, 0x80800, [⟨0x10, 64, 1⟩], 0, [], .none, 0, 4,
    [⟨31, 0, .ro, 0⟩]⟩,
  ⟨.MON_RES_W1, 0x80804, [⟨0x10, 64, 1⟩], 0, [], .none, 1, 4,
    [⟨31, 0, .ro, 0⟩]⟩]

/-- Registers of Clk from the spec's tables, part 5. -/
def regMapClk5 : List RegRow := [
  ⟨.MON_RES_W2, 0x80808, [⟨0x10, 64, 1⟩], 0, [], .none, 2, 4,
    [⟨31, 0, .ro, 0⟩]⟩,
  ⟨.MON_RES_W3, 0x8080c, [⟨0x10, 64, 1⟩], 0, [], .none, 3, 4,
    [⟨31, 0, .ro, 0⟩]⟩,
  ⟨.MON_PWM_CFG, 0x81000, [⟨0x10, 4, 1⟩], 0, [], .fw, 0, 0,
    [⟨31, 31, .rws, 0⟩, ⟨23, 0, .rws, 0x266⟩]⟩,
  ⟨.MON_PWM_DUTY, 0x81004, [⟨0x10, 4, 1⟩], 0, [], .fw, 0, 0,
    [⟨16, 0, .rws, 0⟩]⟩]

/-- The register map of these blocks. -/
def regMapClk : List RegRow :=
  regMapClk0 ++ regMapClk1 ++ regMapClk2 ++ regMapClk3 ++ regMapClk4 ++ regMapClk5

end Sys2Proof.Machine
end

