-- ==== Sys2Proof/Machine/RegMapDmp.lean ====
section
/-! DEFINITION. The register map of the blocks DMP, AIR, COEX, TUN, FH, GST, row by row from the spec's register tables. -/
namespace Sys2Proof.Machine

/-- Registers of Dmp from the spec's tables, part 0. -/
def regMapDmp0 : List RegRow := [
  ⟨.DMP_CEIL0, 0x90000, [], 0, [], .none, 0, 0,
    [⟨31, 16, .ro, 0xe000⟩, ⟨15, 0, .ro, 0xe000⟩]⟩,
  ⟨.DMP_CEIL1, 0x90004, [], 0, [], .none, 0, 0,
    [⟨31, 16, .ro, 0xe000⟩, ⟨15, 8, .ro, 0xff⟩, ⟨7, 4, .ro, 0⟩, ⟨3, 0, .ro, 0⟩]⟩,
  ⟨.DMP_CEIL2, 0x90008, [], 0, [], .none, 0, 0,
    [⟨31, 24, .ro, 0xff⟩, ⟨8, 0, .ro, 0⟩]⟩,
  ⟨.DMP_CEIL_TMAP, 0x90010, [⟨0x4, 2, 1⟩], 0, [], .none, 0, 0,
    [⟨31, 0, .ro, 0xffffffff⟩]⟩,
  ⟨.DMP_OBAND_LO, 0x90020, [⟨0x8, 8, 1⟩], 0, [], .none, 0, 0,
    [⟨31, 31, .ro, 0⟩, ⟨23, 0, .ro, 0⟩]⟩,
  ⟨.DMP_OBAND_HI, 0x90024, [⟨0x8, 8, 1⟩], 0, [], .none, 0, 0,
    [⟨23, 0, .ro, 0⟩]⟩,
  ⟨.DMP_LIM0, 0x90100, [], 0, [], .fw, 0, 0,
    [⟨31, 16, .rwl, 0x7fff⟩, ⟨15, 0, .rwl, 0x7fff⟩]⟩,
  ⟨.DMP_LIM1, 0x90104, [], 0, [], .fw, 0, 0,
    [⟨31, 16, .rwl, 0x7fff⟩, ⟨15, 8, .rwl, 0⟩]⟩,
  ⟨.DMP_LIM2, 0x90108, [], 0, [], .fw, 0, 0,
    [⟨31, 24, .rwl, 0⟩, ⟨23, 16, .rwl, 0xff⟩, ⟨8, 0, .rwl, 0x100⟩]⟩,
  ⟨.DMP_LIM_TMAP, 0x90110, [⟨0x4, 2, 1⟩], 0, [], .fw, 0, 0,
    [⟨31, 0, .rwl, 0⟩]⟩,
  ⟨.DMP_FBAND_LO, 0x90120, [⟨0x8, 8, 1⟩], 0, [], .fw, 0, 0,
    [⟨23, 0, .rwl, 0⟩]⟩,
  ⟨.DMP_FBAND_HI, 0x90124, [⟨0x8, 8, 1⟩], 0, [], .fw, 0, 0,
    [⟨23, 0, .rwl, 0xffffff⟩]⟩]

/-- Registers of Dmp from the spec's tables, part 1. -/
def regMapDmp1 : List RegRow := [
  ⟨.DMP_STAT, 0x90200, [], 0, [], .none, 0, 0,
    [⟨31, 16, .ro, 0xe000⟩, ⟨15, 15, .ro, 0x1⟩, ⟨14, 14, .ro, 0⟩, ⟨7, 0, .ro, 0⟩]⟩,
  ⟨.DMP_EVENT, 0x90204, [], 0, [], .fw, 0, 0,
    [⟨7, 7, .w1c, 0⟩, ⟨6, 6, .w1c, 0⟩, ⟨5, 5, .w1c, 0⟩, ⟨4, 4, .w1c, 0⟩, ⟨3, 3, .w1c, 0⟩, ⟨2, 2, .w1c, 0⟩, ⟨1, 1, .w1c, 0⟩, ⟨0, 0, .w1c, 0⟩]⟩,
  ⟨.DMP_REARM, 0x90208, [], 0, [], .fw, 0, 0,
    [⟨31, 31, .wo, 0⟩, ⟨30, 30, .wo, 0⟩, ⟨5, 0, .wo, 0⟩]⟩,
  ⟨.DMP_CNT, 0x9020c, [], 0, [], .fw, 0, 0,
    [⟨31, 16, .rc, 0⟩, ⟨15, 0, .rc, 0⟩]⟩,
  ⟨.DMP_LOCK, 0x902fc, [], 0, [], .fw, 0, 0,
    [⟨0, 0, .w1s, 0⟩]⟩,
  ⟨.DMP_PSTAT, 0x91000, [⟨0x40, 64, 1⟩], 0, [], .none, 0, 0,
    [⟨31, 30, .ro, 0x1⟩, ⟨29, 29, .ro, 0x1⟩, ⟨28, 21, .ro, 0⟩, ⟨15, 12, .ro, 0⟩, ⟨7, 0, .ro, 0⟩]⟩,
  ⟨.DMP_PGATE, 0x91004, [⟨0x40, 64, 1⟩], 0, [], .fw, 0, 0,
    [⟨3, 0, .rwl, 0⟩]⟩,
  ⟨.DMP_PPWR, 0x91008, [⟨0x40, 64, 1⟩], 0, [], .none, 0, 0,
    [⟨31, 16, .ro, 0xe000⟩, ⟨15, 0, .ro, 0xe000⟩]⟩,
  ⟨.DMP_PDUTY, 0x9100c, [⟨0x40, 64, 1⟩], 0, [], .none, 0, 0,
    [⟨13, 0, .ro, 0⟩]⟩,
  ⟨.AIR_CFG, 0xa0000, [], 0, [], .fw, 0, 0,
    [⟨31, 31, .wo, 0⟩, ⟨30, 30, .rw, 0⟩, ⟨27, 26, .rw, 0x1⟩, ⟨23, 20, .rw, 0x5⟩, ⟨15, 0, .rw, 0x600⟩]⟩,
  ⟨.AIR_STAT, 0xa0004, [], 0, [], .fw, 0, 0,
    [⟨31, 31, .ro, 0⟩, ⟨30, 30, .w1c, 0⟩, ⟨29, 20, .ro, 0x118⟩]⟩,
  ⟨.AIR_PAT, 0xa0040, [⟨0x4, 35, 1⟩], 0, [], .fw, 0, 0,
    [⟨31, 0, .rw, 0⟩]⟩]

/-- Registers of Dmp from the spec's tables, part 2. -/
def regMapDmp2 : List RegRow := [
  ⟨.COEX_CFG, 0xa1000, [⟨0x100, 4, 1⟩], 0, [], .fw, 0, 0,
    [⟨31, 30, .rw, 0⟩, ⟨29, 29, .rw, 0x1⟩, ⟨28, 28, .rw, 0⟩, ⟨27, 27, .rw, 0⟩, ⟨15, 0, .rw, 0x14⟩]⟩,
  ⟨.COEX_TIME, 0xa1004, [⟨0x100, 4, 1⟩], 0, [], .fw, 0, 0,
    [⟨31, 24, .rw, 0x14⟩, ⟨23, 16, .rw, 0x32⟩, ⟨15, 8, .rw, 0xa⟩]⟩,
  ⟨.COEX_STAT, 0xa1008, [⟨0x100, 4, 1⟩], 0, [], .none, 0, 0,
    [⟨31, 28, .ro, 0⟩, ⟨27, 24, .ro, 0⟩]⟩,
  ⟨.COEX_EVENT, 0xa100c, [⟨0x100, 4, 1⟩], 0, [], .fw, 0, 0,
    [⟨3, 3, .w1c, 0⟩, ⟨2, 2, .w1c, 0⟩, ⟨1, 1, .w1c, 0⟩, ⟨0, 0, .w1c, 0⟩]⟩,
  ⟨.COEX_CNT, 0xa1010, [⟨0x100, 4, 1⟩], 0, [], .fw, 0, 0,
    [⟨31, 16, .rc, 0⟩, ⟨15, 0, .rc, 0⟩]⟩,
  ⟨.TUN_CFG, 0xa2000, [⟨0x100, 8, 1⟩], 0, [], .fw, 0, 0,
    [⟨31, 31, .rw, 0⟩, ⟨25, 16, .rw, 0x1f⟩, ⟨15, 14, .rw, 0x1⟩, ⟨13, 8, .rw, 0x18⟩, ⟨7, 0, .rw, 0x2⟩]⟩,
  ⟨.TUN_DATA, 0xa2004, [⟨0x100, 8, 1⟩], 0, [], .fw, 0, 0,
    [⟨31, 0, .rw, 0⟩]⟩,
  ⟨.TUN_PUSH, 0xa2008, [⟨0x100, 8, 1⟩], 0, [], .fw, 0, 0,
    [⟨31, 31, .wo, 0⟩, ⟨30, 29, .wo, 0⟩, ⟨2, 0, .wo, 0⟩]⟩,
  ⟨.TUN_STAT, 0xa200c, [⟨0x100, 8, 1⟩], 0, [], .fw, 0, 0,
    [⟨31, 31, .ro, 0⟩, ⟨30, 30, .w1c, 0⟩, ⟨29, 29, .w1c, 0⟩, ⟨4, 0, .ro, 0⟩]⟩,
  ⟨.FH_CFG, 0xb0000, [], 0, [], .fw, 0, 0,
    [⟨7, 7, .w1c, 0⟩, ⟨6, 6, .rwl, 0⟩, ⟨5, 5, .rwl, 0x1⟩, ⟨4, 4, .rwl, 0⟩, ⟨3, 0, .rwl, 0⟩]⟩,
  ⟨.FH_UNIT, 0xb0004, [], 0, [], .none, 0, 0,
    [⟨15, 0, .ro, 0⟩]⟩,
  ⟨.FH_CASC, 0xb0008, [], 0, [], .fw, 0, 0,
    [⟨31, 16, .rwl, 0⟩, ⟨15, 0, .rwl, 0xffff⟩]⟩]

/-- Registers of Dmp from the spec's tables, part 3. -/
def regMapDmp3 : List RegRow := [
  ⟨.FH_MAC_LO, 0xb0010, [], 0, [], .fw, 0, 2,
    [⟨31, 0, .rwl, 0⟩]⟩,
  ⟨.FH_MAC_HI, 0xb0014, [], 0, [], .fw, 1, 2,
    [⟨15, 0, .rwl, 0⟩]⟩,
  ⟨.FH_MACGRP_LO, 0xb0018, [], 0, [], .fw, 0, 2,
    [⟨31, 0, .rwl, 0xf00⟩]⟩,
  ⟨.FH_MACGRP_HI, 0xb001c, [], 0, [], .fw, 1, 2,
    [⟨15, 0, .rwl, 0x300⟩]⟩,
  ⟨.FH_VLAN, 0xb0020, [], 0, [], .fw, 0, 0,
    [⟨26, 24, .rwl, 0x2⟩, ⟨22, 20, .rwl, 0x6⟩, ⟨18, 16, .rwl, 0x7⟩, ⟨12, 12, .rwl, 0⟩, ⟨11, 0, .rwl, 0x1⟩]⟩,
  ⟨.FH_ULRES, 0xb0024, [], 0, [], .fw, 0, 0,
    [⟨15, 0, .rw, 0⟩]⟩,
  ⟨.FH_PTP, 0xb0028, [], 0, [], .fw, 0, 0,
    [⟨8, 8, .rwl, 0x1⟩, ⟨7, 0, .rwl, 0x18⟩]⟩,
  ⟨.FH_LOCK, 0xb00fc, [], 0, [], .fw, 0, 0,
    [⟨0, 0, .w1s, 0⟩]⟩,
  ⟨.FH_PSTAT, 0xb1000, [⟨0x100, 2, 1⟩], 0, [], .none, 0, 0,
    [⟨31, 30, .ro, 0⟩, ⟨29, 29, .ro, 0⟩, ⟨28, 28, .ro, 0⟩, ⟨7, 0, .ro, 0⟩]⟩,
  ⟨.FH_PEVENT, 0xb1004, [⟨0x100, 2, 1⟩], 0, [], .fw, 0, 0,
    [⟨5, 5, .w1c, 0⟩, ⟨4, 4, .w1c, 0⟩, ⟨3, 3, .w1c, 0⟩, ⟨2, 2, .w1c, 0⟩, ⟨1, 1, .w1c, 0⟩, ⟨0, 0, .w1c, 0⟩]⟩,
  ⟨.FH_TSCORR, 0xb1008, [⟨0x100, 2, 1⟩], 0, [], .fw, 0, 0,
    [⟨31, 16, .rw, 0⟩, ⟨15, 0, .rw, 0⟩]⟩,
  ⟨.FH_FECTHR, 0xb100c, [⟨0x100, 2, 1⟩], 0, [], .fw, 0, 0,
    [⟨23, 0, .rw, 0x2710⟩]⟩]

/-- Registers of Dmp from the spec's tables, part 4. -/
def regMapDmp4 : List RegRow := [
  ⟨.FH_CNT, 0xb1040, [⟨0x100, 2, 1⟩], 0, [⟨0x4, 16, 1⟩], .fw, 0, 0,
    [⟨31, 0, .rc, 0⟩]⟩,
  ⟨.GST_CFG, 0xc0000, [], 0, [], .fw, 0, 0,
    [⟨31, 24, .rwl, 0⟩, ⟨15, 0, .rwl, 0⟩]⟩,
  ⟨.GST_UCFG, 0xc0004, [], 0, [], .fw, 0, 0,
    [⟨31, 20, .rw, 0⟩, ⟨13, 0, .rw, 0x2328⟩]⟩,
  ⟨.GST_TDCFG, 0xc0008, [], 0, [], .fw, 0, 0,
    [⟨19, 16, .rw, 0xf⟩, ⟨11, 0, .rw, 0x40⟩]⟩,
  ⟨.GST_BUFSTAT, 0xc000c, [], 0, [], .none, 0, 0,
    [⟨30, 16, .ro, 0⟩, ⟨13, 0, .ro, 0⟩]⟩,
  ⟨.GST_MRING, 0xc0010, [], 0, [], .fw, 0, 0,
    [⟨31, 24, .rwl, 0⟩, ⟨18, 0, .rwl, 0⟩]⟩,
  ⟨.GST_MPTR, 0xc0014, [], 0, [], .fw, 0, 0,
    [⟨31, 24, .ro, 0⟩, ⟨7, 0, .rw, 0⟩]⟩,
  ⟨.GST_MTX_ADDR, 0xc0018, [], 0, [], .fw, 0, 0,
    [⟨18, 0, .rw, 0⟩]⟩,
  ⟨.GST_MTX, 0xc001c, [], 0, [], .fw, 0, 0,
    [⟨31, 31, .wo, 0⟩, ⟨30, 30, .ro, 0⟩, ⟨29, 16, .rw, 0⟩, ⟨15, 0, .rw, 0⟩]⟩,
  ⟨.GST_EVENT, 0xc0020, [], 0, [], .fw, 0, 0,
    [⟨8, 8, .w1c, 0⟩, ⟨7, 7, .w1c, 0⟩, ⟨6, 6, .w1c, 0⟩, ⟨5, 5, .w1c, 0⟩, ⟨4, 4, .w1c, 0⟩, ⟨3, 3, .w1c, 0⟩, ⟨2, 2, .w1c, 0⟩, ⟨1, 1, .w1c, 0⟩, ⟨0, 0, .w1c, 0⟩]⟩,
  ⟨.GST_CNT, 0xc0040, [⟨0x4, 18, 1⟩], 0, [], .fw, 0, 0,
    [⟨31, 0, .rc, 0⟩]⟩,
  ⟨.GST_LOCK, 0xc00fc, [], 0, [], .fw, 0, 0,
    [⟨0, 0, .w1s, 0⟩]⟩]

/-- Registers of Dmp from the spec's tables, part 5. -/
def regMapDmp5 : List RegRow := [
  ⟨.GST_CCFG, 0xc0100, [⟨0x10, 4, 1⟩], 0, [], .fw, 0, 0,
    [⟨31, 20, .rw, 0x3e8⟩, ⟨11, 8, .rw, 0x8⟩]⟩,
  ⟨.GST_CCNT, 0xc0104, [⟨0x10, 4, 1⟩], 0, [], .fw, 0, 0,
    [⟨31, 16, .rc, 0⟩, ⟨15, 0, .rc, 0⟩]⟩]

/-- The register map of these blocks. -/
def regMapDmp : List RegRow :=
  regMapDmp0 ++ regMapDmp1 ++ regMapDmp2 ++ regMapDmp3 ++ regMapDmp4 ++ regMapDmp5

end Sys2Proof.Machine
end

