-- ==== Sys2Proof/Machine/RegMapPath.lean ====
section
/-! DEFINITION. The register map of the blocks PATH, RXADC, TXDAC, row by row from the spec's register tables. -/
namespace Sys2Proof.Machine

/-- Registers of Path from the spec's tables, part 0. -/
def regMapPath0 : List RegRow := [
  ⟨.PATH_CFG, 0x100000, [⟨0x1000, 64, 1⟩], 0, [], .fw, 0, 0,
    [⟨31, 31, .rw, 0⟩, ⟨27, 24, .rw, 0⟩, ⟨22, 21, .rw, 0x1⟩, ⟨20, 20, .rw, 0⟩, ⟨19, 19, .rw, 0x1⟩, ⟨18, 18, .rw, 0x1⟩, ⟨17, 16, .rw, 0x2⟩, ⟨15, 0, .rw, 0x64⟩]⟩,
  ⟨.PATH_FE_PA, 0x100004, [⟨0x1000, 64, 1⟩], 0, [], .fw, 0, 0,
    [⟨31, 16, .rw, 0xfe80⟩, ⟨15, 0, .rw, 0x4d⟩]⟩,
  ⟨.PATH_FE_TR, 0x100008, [⟨0x1000, 64, 1⟩], 0, [], .fw, 0, 0,
    [⟨31, 16, .rw, 0xfd00⟩, ⟨15, 0, .rw, 0x180⟩]⟩,
  ⟨.PATH_FE_LNA, 0x10000c, [⟨0x1000, 64, 1⟩], 0, [], .fw, 0, 0,
    [⟨31, 16, .rw, 0xfc66⟩, ⟨15, 0, .rw, 0x21a⟩]⟩,
  ⟨.PATH_CTL, 0x100010, [⟨0x1000, 64, 1⟩], 0, [], .fw, 0, 0,
    [⟨31, 31, .wo, 0⟩, ⟨30, 30, .wo, 0⟩, ⟨29, 29, .wo, 0⟩, ⟨23, 16, .rw, 0x32⟩, ⟨7, 0, .rw, 0xe⟩]⟩,
  ⟨.PATH_STAT, 0x100014, [⟨0x1000, 64, 1⟩], 0, [], .none, 0, 0,
    [⟨31, 29, .ro, 0⟩, ⟨28, 26, .ro, 0⟩, ⟨25, 25, .ro, 0⟩, ⟨24, 24, .ro, 0⟩, ⟨23, 23, .ro, 0⟩, ⟨22, 22, .ro, 0⟩, ⟨21, 21, .ro, 0⟩, ⟨20, 20, .ro, 0⟩, ⟨19, 19, .ro, 0⟩, ⟨18, 16, .ro, 0⟩, ⟨15, 0, .ro, 0⟩]⟩,
  ⟨.PATH_EVENT, 0x100018, [⟨0x1000, 64, 1⟩], 0, [], .fw, 0, 0,
    [⟨10, 10, .w1c, 0⟩, ⟨9, 9, .w1c, 0⟩, ⟨8, 8, .w1c, 0⟩, ⟨7, 7, .w1c, 0⟩, ⟨6, 6, .w1c, 0⟩, ⟨5, 5, .w1c, 0⟩, ⟨4, 4, .w1c, 0⟩, ⟨3, 3, .w1c, 0⟩, ⟨2, 2, .w1c, 0⟩, ⟨1, 1, .w1c, 0⟩, ⟨0, 0, .w1c, 0⟩]⟩,
  ⟨.PATH_WHY, 0x10001c, [⟨0x1000, 64, 1⟩], 0, [], .fw, 0, 0,
    [⟨31, 29, .ro, 0⟩, ⟨28, 24, .ro, 0⟩, ⟨23, 16, .rc, 0⟩, ⟨15, 0, .rc, 0⟩]⟩,
  ⟨.PATH_MM, 0x100020, [⟨0x1000, 64, 1⟩], 0, [], .fw, 0, 0,
    [⟨31, 31, .rw, 0⟩, ⟨30, 16, .rw, 0x3e8⟩, ⟨15, 0, .rw, 0x280⟩]⟩,
  ⟨.PATH_MMRES, 0x100024, [⟨0x1000, 64, 1⟩], 0, [], .none, 0, 0,
    [⟨31, 16, .ro, 0⟩, ⟨15, 0, .ro, 0⟩]⟩,
  ⟨.PATH_SRCH, 0x100028, [⟨0x1000, 64, 1⟩], 0, [], .fw, 0, 0,
    [⟨31, 31, .wo, 0⟩, ⟨29, 28, .ro, 0⟩, ⟨23, 20, .rw, 0⟩, ⟨19, 16, .rw, 0⟩, ⟨15, 12, .ro, 0⟩, ⟨7, 0, .rw, 0x5⟩]⟩,
  ⟨.PATH_TUNTAB, 0x100100, [⟨0x1000, 64, 1⟩], 0, [⟨0x4, 16, 1⟩], .fw, 0, 0,
    [⟨31, 0, .rw, 0⟩]⟩]

/-- Registers of Path from the spec's tables, part 1. -/
def regMapPath1 : List RegRow := [
  ⟨.RXADC_CFG, 0x140000, [⟨0x400, 72, 1⟩], 0, [], .fw, 0, 0,
    [⟨11, 8, .rw, 0x2⟩, ⟨7, 7, .rw, 0⟩, ⟨6, 6, .rw, 0x1⟩, ⟨5, 4, .rw, 0x1⟩, ⟨0, 0, .rw, 0⟩]⟩,
  ⟨.RXADC_DSA, 0x140004, [⟨0x400, 72, 1⟩], 0, [], .fw, 0, 0,
    [⟨31, 31, .ro, 0⟩, ⟨30, 30, .rw, 0⟩, ⟨29, 16, .rw, 0⟩, ⟨12, 8, .ro, 0⟩, ⟨4, 0, .rw, 0⟩]⟩,
  ⟨.RXADC_STAT, 0x140008, [⟨0x400, 72, 1⟩], 0, [], .none, 0, 0,
    [⟨23, 15, .ro, 0⟩, ⟨14, 14, .ro, 0x1⟩, ⟨13, 13, .ro, 0⟩, ⟨12, 12, .ro, 0⟩, ⟨11, 8, .ro, 0x8⟩, ⟨7, 5, .ro, 0⟩, ⟨2, 0, .ro, 0⟩]⟩,
  ⟨.RXADC_MAP, 0x14000c, [⟨0x400, 72, 1⟩], 0, [], .none, 0, 0,
    [⟨31, 28, .ro, 0x7⟩, ⟨27, 24, .ro, 0x6⟩, ⟨23, 20, .ro, 0x5⟩, ⟨19, 16, .ro, 0x4⟩, ⟨15, 12, .ro, 0x3⟩, ⟨11, 8, .ro, 0x2⟩, ⟨7, 4, .ro, 0x1⟩, ⟨3, 0, .ro, 0⟩]⟩,
  ⟨.RXADC_EVENT, 0x140010, [⟨0x400, 72, 1⟩], 0, [], .fw, 0, 0,
    [⟨9, 9, .w1c, 0⟩, ⟨8, 8, .w1c, 0⟩, ⟨7, 7, .w1c, 0⟩, ⟨6, 6, .w1c, 0⟩, ⟨5, 5, .w1c, 0⟩, ⟨4, 4, .w1c, 0⟩, ⟨3, 3, .w1c, 0⟩, ⟨2, 2, .w1c, 0⟩, ⟨1, 1, .w1c, 0⟩, ⟨0, 0, .w1c, 0⟩]⟩,
  ⟨.RXADC_FAULT, 0x140014, [⟨0x400, 72, 1⟩], 0, [], .none, 0, 0,
    [⟨31, 28, .ro, 0⟩, ⟨27, 25, .ro, 0⟩, ⟨24, 22, .ro, 0⟩, ⟨15, 0, .ro, 0⟩]⟩,
  ⟨.RXADC_OVR_CNT, 0x140018, [⟨0x400, 72, 1⟩], 0, [], .fw, 0, 0,
    [⟨31, 0, .rc, 0⟩]⟩,
  ⟨.RXADC_SOFS, 0x140100, [⟨0x400, 72, 1⟩], 0, [⟨0x10, 9, 1⟩], .none, 0, 0,
    [⟨11, 0, .ro, 0⟩]⟩,
  ⟨.RXADC_SGAIN, 0x140104, [⟨0x400, 72, 1⟩], 0, [⟨0x10, 9, 1⟩], .none, 0, 0,
    [⟨15, 0, .ro, 0⟩]⟩,
  ⟨.RXADC_SSKEW, 0x140108, [⟨0x400, 72, 1⟩], 0, [⟨0x10, 9, 1⟩], .none, 0, 0,
    [⟨11, 0, .ro, 0⟩]⟩,
  ⟨.RXADC_SBW, 0x14010c, [⟨0x400, 72, 1⟩], 0, [⟨0x10, 9, 1⟩], .none, 0, 0,
    [⟨9, 0, .ro, 0⟩]⟩,
  ⟨.RXADC_OBS_SEL, 0x15001c, [⟨0x400, 8, 1⟩], 0, [], .fw, 0, 0,
    [⟨31, 31, .ro, 0⟩, ⟨28, 24, .ro, 0x10⟩, ⟨4, 0, .rw, 0x10⟩]⟩,
  ⟨.NOT_ACTING, 0x14001c, [⟨0x400, 64, 1⟩], 0, [], .fw, 0, 0, []⟩]

/-- Registers of Path from the spec's tables, part 2. -/
def regMapPath2 : List RegRow := [
  ⟨.TXDAC_CFG, 0x180000, [⟨0x400, 64, 1⟩], 0, [], .fw, 0, 0,
    [⟨8, 8, .rw, 0x1⟩, ⟨7, 4, .rw, 0x4⟩, ⟨1, 1, .rw, 0x1⟩, ⟨0, 0, .rw, 0⟩]⟩,
  ⟨.TXDAC_NCO_LO, 0x180004, [⟨0x400, 64, 1⟩], 0, [], .fw, 0, 2,
    [⟨31, 0, .rw, 0⟩]⟩,
  ⟨.TXDAC_NCO_HI, 0x180008, [⟨0x400, 64, 1⟩], 0, [], .fw, 1, 2,
    [⟨31, 16, .rw, 0⟩, ⟨15, 0, .rw, 0⟩]⟩,
  ⟨.TXDAC_MUTE, 0x18000c, [⟨0x400, 64, 1⟩], 0, [], .fw, 0, 0,
    [⟨0, 0, .rw, 0x1⟩]⟩,
  ⟨.TXDAC_STAT, 0x180010, [⟨0x400, 64, 1⟩], 0, [], .none, 0, 0,
    [⟨22, 16, .ro, 0⟩, ⟨12, 12, .ro, 0⟩, ⟨11, 10, .ro, 0x2⟩, ⟨9, 9, .ro, 0x1⟩, ⟨8, 8, .ro, 0⟩, ⟨7, 7, .ro, 0⟩, ⟨6, 6, .ro, 0⟩, ⟨5, 5, .ro, 0x1⟩, ⟨4, 3, .ro, 0⟩, ⟨2, 0, .ro, 0⟩]⟩,
  ⟨.TXDAC_EVENT, 0x180014, [⟨0x400, 64, 1⟩], 0, [], .fw, 0, 0,
    [⟨5, 5, .w1c, 0⟩, ⟨4, 4, .w1c, 0⟩, ⟨3, 3, .w1c, 0⟩, ⟨2, 2, .w1c, 0⟩, ⟨1, 1, .w1c, 0⟩, ⟨0, 0, .w1c, 0⟩]⟩,
  ⟨.TXDAC_FAULT, 0x18001c, [⟨0x400, 64, 1⟩], 0, [], .none, 0, 0,
    [⟨22, 16, .ro, 0x7f⟩, ⟨10, 8, .ro, 0⟩, ⟨6, 0, .ro, 0⟩]⟩,
  ⟨.TXDAC_SEGFAIL, 0x180020, [⟨0x400, 64, 1⟩], 0, [⟨0x4, 3, 1⟩], .none, 0, 0,
    [⟨31, 0, .ro, 0⟩]⟩,
  ⟨.TXDAC_CLIP_CNT, 0x18002c, [⟨0x400, 64, 1⟩], 0, [], .fw, 0, 0,
    [⟨31, 0, .rc, 0⟩]⟩]

/-- The register map of these blocks. -/
def regMapPath : List RegRow :=
  regMapPath0 ++ regMapPath1 ++ regMapPath2

end Sys2Proof.Machine
end

