-- ==== Sys2Proof/Machine/RegMapSys.lean ====
section
/-! DEFINITION. The register map of the blocks SYS, MBX, TLY, row by row from the spec's register tables. -/
namespace Sys2Proof.Machine

/-- Registers of Sys from the spec's tables, part 0. -/
def regMapSys0 : List RegRow := [
  ⟨.SYS_ID, 0x0, [], 0, [], .none, 0, 0,
    [⟨31, 16, .ro, 0x6490⟩, ⟨15, 12, .ro, 0x2⟩, ⟨11, 8, .ro, 0⟩]⟩,
  ⟨.SYS_WHOAMI, 0x4, [], 0, [], .none, 0, 0,
    [⟨4, 0, .ro, 0⟩]⟩,
  ⟨.SYS_HOSTVIOL, 0x10, [], 0, [], .host, 0, 0,
    [⟨31, 31, .wo, 0⟩, ⟨20, 16, .ro, 0⟩, ⟨15, 0, .ro, 0⟩]⟩,
  ⟨.SYS_HOSTVIOL_ADDR, 0x14, [], 0, [], .none, 0, 0,
    [⟨31, 0, .ro, 0⟩]⟩,
  ⟨.SYS_FW_PRIV, 0x20, [], 0, [], .fw, 0, 0,
    [⟨25, 12, .rwl, 0x100⟩]⟩,
  ⟨.SYS_LOCK, 0x24, [], 0, [], .fw, 0, 0,
    [⟨0, 0, .w1s, 0⟩]⟩,
  ⟨.MBX_BIND, 0x10000, [⟨0x4, 64, 1⟩], 0, [], .fw, 0, 0,
    [⟨31, 31, .rwl, 0⟩, ⟨12, 8, .rwl, 0⟩, ⟨4, 0, .rwl, 0⟩]⟩,
  ⟨.MBX_HOST, 0x10100, [], 0, [], .host, 0, 0,
    [⟨31, 31, .rw, 0⟩, ⟨30, 30, .rw, 0⟩, ⟨21, 16, .rw, 0x3f⟩]⟩,
  ⟨.MBX_FW, 0x10104, [], 0, [], .fw, 0, 0,
    [⟨15, 0, .rw, 0x1⟩]⟩,
  ⟨.MBX_RRES, 0x10108, [], 0, [], .none, 0, 0,
    [⟨10, 8, .ro, 0⟩, ⟨5, 0, .ro, 0⟩]⟩,
  ⟨.MBX_RRES_CODE, 0x1010c, [], 0, [], .none, 0, 0,
    [⟨2, 0, .ro, 0⟩]⟩,
  ⟨.MBX_SMB, 0x10110, [], 0, [], .none, 0, 0,
    [⟨6, 0, .ro, 0⟩]⟩]

/-- Registers of Sys from the spec's tables, part 1. -/
def regMapSys1 : List RegRow := [
  ⟨.MBX_HOSTPEND_LO, 0x10118, [], 0, [], .none, 0, 2,
    [⟨31, 0, .ro, 0⟩]⟩,
  ⟨.MBX_HOSTPEND_HI, 0x1011c, [], 0, [], .none, 1, 2,
    [⟨31, 0, .ro, 0⟩]⟩,
  ⟨.MBX_LOCK, 0x101fc, [], 0, [], .fw, 0, 0,
    [⟨0, 0, .w1s, 0⟩]⟩,
  ⟨.MBX_WDOG, 0x10200, [⟨0x10, 16, 1⟩], 0, [], .fw, 0, 0,
    [⟨31, 31, .wo, 0⟩, ⟨30, 30, .w1s, 0⟩, ⟨7, 0, .rw, 0x14⟩]⟩,
  ⟨.MBX_BSTAT, 0x10204, [⟨0x10, 16, 1⟩], 0, [], .none, 0, 0,
    [⟨31, 30, .ro, 0⟩, ⟨15, 8, .ro, 0⟩]⟩,
  ⟨.MBX_BENTRY, 0x10208, [⟨0x10, 16, 1⟩], 0, [], .fw, 0, 0,
    [⟨24, 0, .rwl, 0⟩]⟩,
  ⟨.MBX_EVENT, 0x10400, [⟨0x4, 32, 1⟩], 0, [], .fw, 0, 0,
    [⟨6, 6, .w1c, 0⟩, ⟨5, 5, .w1c, 0⟩, ⟨4, 4, .w1c, 0⟩, ⟨3, 3, .w1c, 0⟩, ⟨2, 2, .w1c, 0⟩, ⟨1, 1, .w1c, 0⟩, ⟨0, 0, .w1c, 0⟩]⟩,
  ⟨.MBX_RING_W0, 0x11000, [⟨0x10, 64, 1⟩], 0, [], .none, 0, 2,
    [⟨31, 0, .wo, 0⟩]⟩,
  ⟨.MBX_RING_W1, 0x11004, [⟨0x10, 64, 1⟩], 0, [], .none, 1, 2,
    [⟨7, 0, .wo, 0⟩]⟩,
  ⟨.MBX_POP_W0, 0x11008, [⟨0x10, 64, 1⟩], 0, [], .none, 0, 2,
    [⟨31, 0, .ro, 0⟩]⟩,
  ⟨.MBX_POP_W1, 0x1100c, [⟨0x10, 64, 1⟩], 0, [], .none, 1, 2,
    [⟨31, 31, .ro, 0⟩, ⟨20, 16, .ro, 0⟩, ⟨7, 0, .ro, 0⟩]⟩,
  ⟨.MBX_CHSTAT, 0x12000, [⟨0x4, 64, 1⟩], 0, [], .none, 0, 0,
    [⟨31, 31, .ro, 0⟩, ⟨20, 16, .ro, 0⟩, ⟨15, 8, .ro, 0⟩, ⟨7, 0, .ro, 0⟩]⟩]

/-- Registers of Sys from the spec's tables, part 2. -/
def regMapSys2 : List RegRow := [
  ⟨.MBX_CHIRQ, 0x12100, [⟨0x4, 64, 1⟩], 0, [], .host, 0, 0,
    [⟨31, 31, .rw, 0⟩, ⟨5, 0, .rw, 0⟩]⟩,
  ⟨.TLY_CFG, 0x20000, [], 0, [], .fw, 0, 0,
    [⟨31, 31, .rw, 0⟩, ⟨30, 30, .rwl, 0⟩, ⟨26, 24, .rwl, 0x5⟩, ⟨22, 20, .rw, 0x5⟩, ⟨18, 16, .rwl, 0x4⟩, ⟨15, 8, .rw, 0x8⟩]⟩,
  ⟨.TLY_RING, 0x20004, [], 0, [], .fw, 0, 0,
    [⟨31, 27, .rwl, 0xc⟩, ⟨12, 0, .rwl, 0⟩]⟩,
  ⟨.TLY_WR, 0x20008, [], 0, [], .none, 0, 0,
    [⟨19, 0, .ro, 0⟩]⟩,
  ⟨.TLY_RD, 0x2000c, [], 0, [], .fw, 0, 0,
    [⟨19, 0, .rw, 0⟩]⟩,
  ⟨.TLY_STAT, 0x20010, [], 0, [], .fw, 0, 0,
    [⟨31, 29, .rc, 0⟩, ⟨28, 28, .ro, 0⟩, ⟨19, 0, .ro, 0⟩]⟩,
  ⟨.TLY_CNT, 0x20014, [], 0, [], .fw, 0, 0,
    [⟨31, 16, .rc, 0⟩, ⟨15, 0, .rc, 0⟩]⟩,
  ⟨.TLY_LATE, 0x20018, [], 0, [], .fw, 0, 0,
    [⟨31, 16, .rc, 0⟩, ⟨15, 0, .rc, 0⟩]⟩,
  ⟨.TLY_LVL_THR, 0x2001c, [], 0, [], .fw, 0, 0,
    [⟨19, 0, .rw, 0x400⟩]⟩,
  ⟨.TLY_SEVCNT, 0x20020, [⟨0x4, 8, 1⟩], 0, [], .fw, 0, 0,
    [⟨31, 0, .rc, 0⟩]⟩,
  ⟨.TLY_EVENT, 0x20040, [], 0, [], .fw, 0, 0,
    [⟨2, 2, .w1c, 0⟩, ⟨1, 1, .w1c, 0⟩, ⟨0, 0, .w1c, 0⟩]⟩,
  ⟨.TLY_FAULT, 0x20044, [], 0, [], .fw, 0, 0,
    [⟨31, 31, .w1c, 0⟩, ⟨30, 30, .ro, 0⟩, ⟨29, 29, .ro, 0⟩]⟩]

/-- Registers of Sys from the spec's tables, part 3. -/
def regMapSys3 : List RegRow := [
  ⟨.TLY_FAULT_REC, 0x20050, [⟨0x4, 4, 1⟩], 0, [], .none, 0, 0,
    [⟨31, 0, .ro, 0⟩]⟩,
  ⟨.TLY_KEEP_WR, 0x20060, [], 0, [], .fw, 0, 0,
    [⟨31, 31, .wo, 0⟩, ⟨7, 0, .ro, 0⟩]⟩,
  ⟨.TLY_ISL, 0x20080, [⟨0x4, 9, 1⟩], 0, [], .fw, 0, 0,
    [⟨31, 16, .rc, 0⟩, ⟨6, 0, .ro, 0⟩]⟩,
  ⟨.TLY_ECC, 0x200c0, [⟨0x8, 6, 1⟩], 0, [], .fw, 0, 0,
    [⟨31, 16, .rc, 0⟩, ⟨15, 0, .rc, 0⟩]⟩,
  ⟨.TLY_ECC_ADDR, 0x200c4, [⟨0x8, 6, 1⟩], 0, [], .none, 0, 0,
    [⟨31, 0, .ro, 0⟩]⟩,
  ⟨.TLY_LOCK, 0x200fc, [], 0, [], .fw, 0, 0,
    [⟨0, 0, .w1s, 0⟩]⟩,
  ⟨.TLY_SWREC_W0, 0x20100, [], 0, [], .fw, 0, 2,
    [⟨31, 0, .rw, 0⟩]⟩,
  ⟨.TLY_SWREC_W1, 0x20104, [], 0, [], .fw, 1, 2,
    [⟨26, 24, .rw, 0x1⟩, ⟨11, 0, .rw, 0⟩]⟩,
  ⟨.TLY_KEEP, 0x28000, [⟨0x10, 256, 1⟩], 0, [⟨0x4, 4, 1⟩], .none, 0, 0,
    [⟨31, 0, .ro, 0⟩]⟩]

/-- The register map of these blocks. -/
def regMapSys : List RegRow :=
  regMapSys0 ++ regMapSys1 ++ regMapSys2 ++ regMapSys3

end Sys2Proof.Machine
end

