-- ==== Sys2Proof/Machine/RegMapTime.lean ====
section
/-! DEFINITION. The register map of the blocks TIME, TCAP, TP, EMB, PWR, row by row from the spec's register tables. -/
namespace Sys2Proof.Machine

/-- Registers of Time from the spec's tables, part 0. -/
def regMapTime0 : List RegRow := [
  ⟨.TIME_NOW_W0, 0x30000, [], 0, [], .none, 0, 4,
    [⟨31, 0, .ro, 0⟩]⟩,
  ⟨.TIME_NOW_W1, 0x30004, [], 0, [], .none, 1, 4,
    [⟨31, 0, .ro, 0⟩]⟩,
  ⟨.TIME_NOW_W2, 0x30008, [], 0, [], .none, 2, 4,
    [⟨31, 0, .ro, 0⟩]⟩,
  ⟨.TIME_NOW_W3, 0x3000c, [], 0, [], .none, 3, 4,
    [⟨15, 0, .ro, 0⟩]⟩,
  ⟨.TIME_SET_W0, 0x30010, [], 0, [], .fw, 0, 3,
    [⟨31, 0, .rw, 0⟩]⟩,
  ⟨.TIME_SET_W1, 0x30014, [], 0, [], .fw, 1, 3,
    [⟨31, 0, .rw, 0⟩]⟩,
  ⟨.TIME_SET_W2, 0x30018, [], 0, [], .fw, 2, 3,
    [⟨15, 0, .rw, 0⟩]⟩,
  ⟨.TIME_ADJ_W0, 0x30020, [], 0, [], .fw, 0, 2,
    [⟨31, 0, .rw, 0⟩]⟩,
  ⟨.TIME_ADJ_W1, 0x30024, [], 0, [], .fw, 1, 2,
    [⟨31, 0, .rw, 0⟩]⟩,
  ⟨.TIME_INC_W0, 0x30028, [], 0, [], .fw, 0, 2,
    [⟨31, 0, .rws, 0x11aaaaab⟩]⟩,
  ⟨.TIME_INC_W1, 0x3002c, [], 0, [], .fw, 1, 2,
    [⟨31, 0, .rws, 0x4⟩]⟩,
  ⟨.TIME_FRAME, 0x30030, [], 0, [], .fw, 0, 0,
    [⟨23, 0, .rws, 0⟩]⟩]

/-- Registers of Time from the spec's tables, part 1. -/
def regMapTime1 : List RegRow := [
  ⟨.TIME_CFG, 0x30034, [], 0, [], .fw, 0, 0,
    [⟨31, 22, .rws, 0⟩, ⟨20, 20, .rw, 0⟩, ⟨15, 0, .rw, 0x7d0⟩]⟩,
  ⟨.TIME_STAT, 0x30038, [], 0, [], .none, 0, 0,
    [⟨31, 29, .ro, 0⟩, ⟨28, 28, .ro, 0⟩, ⟨27, 27, .ro, 0⟩, ⟨26, 26, .ro, 0⟩, ⟨25, 16, .ro, 0⟩, ⟨15, 11, .ro, 0⟩]⟩,
  ⟨.TIME_CTL, 0x3003c, [], 0, [], .fw, 0, 0,
    [⟨31, 31, .wo, 0⟩, ⟨30, 30, .wo, 0⟩, ⟨2, 0, .wo, 0⟩]⟩,
  ⟨.TIME_UNC, 0x30040, [], 0, [], .fw, 0, 0,
    [⟨31, 0, .rws, 0xffffffff⟩]⟩,
  ⟨.TIME_UNCRATE, 0x30044, [], 0, [], .fw, 0, 0,
    [⟨31, 16, .rw, 0x32⟩, ⟨15, 0, .rw, 0x4e20⟩]⟩,
  ⟨.TIME_EVENT, 0x30048, [], 0, [], .fw, 0, 0,
    [⟨14, 14, .w1c, 0⟩, ⟨13, 13, .w1c, 0⟩, ⟨12, 12, .w1c, 0⟩, ⟨11, 11, .w1c, 0⟩, ⟨10, 10, .w1c, 0⟩, ⟨9, 9, .w1c, 0⟩, ⟨8, 8, .w1c, 0⟩, ⟨7, 7, .w1c, 0⟩, ⟨6, 6, .w1c, 0⟩, ⟨5, 5, .w1c, 0⟩, ⟨4, 4, .w1c, 0⟩, ⟨3, 3, .w1c, 0⟩, ⟨2, 2, .w1c, 0⟩, ⟨1, 1, .w1c, 0⟩, ⟨0, 0, .w1c, 0⟩]⟩,
  ⟨.TIME_SLEEP_W0, 0x30050, [], 0, [], .none, 0, 2,
    [⟨31, 0, .ro, 0⟩]⟩,
  ⟨.TIME_SLEEP_W1, 0x30054, [], 0, [], .none, 1, 2,
    [⟨31, 31, .ro, 0⟩, ⟨15, 0, .ro, 0⟩]⟩,
  ⟨.EMB_PERIOD_W0, 0x30058, [], 0, [], .fw, 0, 2,
    [⟨31, 0, .rw, 0x94000000⟩]⟩,
  ⟨.EMB_PERIOD_W1, 0x3005c, [], 0, [], .fw, 1, 2,
    [⟨31, 0, .rw, 0x7735⟩]⟩,
  ⟨.EMB_CAL, 0x30060, [], 0, [], .fw, 0, 0,
    [⟨31, 31, .wo, 0⟩, ⟨30, 30, .ro, 0⟩, ⟨4, 0, .rw, 0xf⟩]⟩,
  ⟨.TCAP_CFG, 0x30100, [⟨0x40, 2, 1⟩], 0, [], .fw, 0, 0,
    [⟨31, 31, .rw, 0⟩, ⟨1, 0, .rw, 0⟩]⟩]

/-- Registers of Time from the spec's tables, part 2. -/
def regMapTime2 : List RegRow := [
  ⟨.TCAP_ENTRY_W0, 0x30104, [⟨0x40, 2, 1⟩], 0, [], .fw, 0, 3,
    [⟨31, 0, .ro, 0⟩]⟩,
  ⟨.TCAP_ENTRY_W1, 0x30108, [⟨0x40, 2, 1⟩], 0, [], .fw, 1, 3,
    [⟨31, 0, .ro, 0⟩]⟩,
  ⟨.TCAP_ENTRY_W2, 0x3010c, [⟨0x40, 2, 1⟩], 0, [], .fw, 2, 3,
    [⟨31, 0, .ro, 0⟩]⟩,
  ⟨.TCAP_STAT, 0x30110, [⟨0x40, 2, 1⟩], 0, [], .fw, 0, 0,
    [⟨19, 16, .ro, 0⟩, ⟨15, 0, .rc, 0⟩]⟩,
  ⟨.TP_CFG, 0x30200, [⟨0x40, 8, 1⟩], 0, [], .fw, 0, 0,
    [⟨31, 31, .rw, 0⟩, ⟨30, 30, .rw, 0⟩, ⟨29, 29, .rw, 0x1⟩]⟩,
  ⟨.TP_START_W0, 0x30204, [⟨0x40, 8, 1⟩], 0, [], .fw, 0, 3,
    [⟨31, 0, .rw, 0⟩]⟩,
  ⟨.TP_START_W1, 0x30208, [⟨0x40, 8, 1⟩], 0, [], .fw, 1, 3,
    [⟨31, 0, .rw, 0⟩]⟩,
  ⟨.TP_START_W2, 0x3020c, [⟨0x40, 8, 1⟩], 0, [], .fw, 2, 3,
    [⟨15, 0, .rw, 0⟩]⟩,
  ⟨.TP_PERIOD, 0x30210, [⟨0x40, 8, 1⟩], 0, [], .fw, 0, 0,
    [⟨31, 0, .rw, 0x3b9aca00⟩]⟩,
  ⟨.TP_WIDTH, 0x30214, [⟨0x40, 8, 1⟩], 0, [], .fw, 0, 0,
    [⟨31, 0, .rw, 0x2710⟩]⟩,
  ⟨.TP_STAT, 0x30218, [⟨0x40, 8, 1⟩], 0, [], .fw, 0, 0,
    [⟨31, 31, .ro, 0⟩, ⟨30, 30, .ro, 0⟩, ⟨15, 0, .rc, 0⟩]⟩,
  ⟨.TIME_PTX_ADDR, 0x30400, [], 0, [], .fw, 0, 0,
    [⟨18, 0, .rw, 0⟩]⟩]

/-- Registers of Time from the spec's tables, part 3. -/
def regMapTime3 : List RegRow := [
  ⟨.TIME_PTX, 0x30404, [], 0, [], .fw, 0, 0,
    [⟨31, 31, .wo, 0⟩, ⟨30, 30, .ro, 0⟩, ⟨29, 28, .rw, 0⟩, ⟨27, 26, .rw, 0⟩, ⟨10, 0, .rw, 0⟩]⟩,
  ⟨.TIME_PTX_T2_W0, 0x30408, [], 0, [], .fw, 0, 2,
    [⟨31, 0, .rw, 0⟩]⟩,
  ⟨.TIME_PTX_T2_W1, 0x3040c, [], 0, [], .fw, 1, 2,
    [⟨31, 0, .rw, 0⟩]⟩,
  ⟨.TIME_ETS_W0, 0x30410, [], 0, [], .fw, 0, 4,
    [⟨31, 0, .ro, 0⟩]⟩,
  ⟨.TIME_ETS_W1, 0x30414, [], 0, [], .fw, 1, 4,
    [⟨31, 0, .ro, 0⟩]⟩,
  ⟨.TIME_ETS_W2, 0x30418, [], 0, [], .fw, 2, 4,
    [⟨31, 0, .ro, 0⟩]⟩,
  ⟨.TIME_ETS_W3, 0x3041c, [], 0, [], .fw, 3, 4,
    [⟨31, 0, .ro, 0⟩]⟩,
  ⟨.TIME_PSTAT, 0x30420, [], 0, [], .fw, 0, 0,
    [⟨31, 25, .ro, 0⟩, ⟨24, 18, .ro, 0⟩, ⟨15, 8, .rc, 0⟩, ⟨7, 0, .rc, 0⟩]⟩,
  ⟨.TIME_PRX_RD, 0x30424, [], 0, [], .fw, 0, 0,
    [⟨31, 31, .wo, 0⟩, ⟨5, 0, .ro, 0⟩]⟩,
  ⟨.TIME_PRX_BUF, 0x38000, [⟨0x200, 64, 1⟩], 0, [⟨0x4, 128, 1⟩], .none, 0, 0,
    [⟨31, 0, .ro, 0⟩]⟩,
  ⟨.PWR_LSTAT, 0x40000, [], 0, [], .none, 0, 0,
    [⟨31, 29, .ro, 0⟩, ⟨28, 26, .ro, 0⟩, ⟨25, 25, .ro, 0⟩, ⟨24, 24, .ro, 0⟩, ⟨23, 23, .ro, 0⟩, ⟨22, 20, .ro, 0⟩, ⟨11, 0, .ro, 0x30c⟩]⟩,
  ⟨.PWR_LCTL, 0x40004, [], 0, [], .fw, 0, 0,
    [⟨31, 31, .wo, 0⟩, ⟨2, 0, .wo, 0⟩]⟩]

/-- Registers of Time from the spec's tables, part 4. -/
def regMapTime4 : List RegRow := [
  ⟨.PWR_LRES, 0x40008, [], 0, [], .none, 0, 0,
    [⟨31, 28, .ro, 0⟩, ⟨27, 27, .ro, 0⟩, ⟨7, 0, .ro, 0⟩]⟩,
  ⟨.PWR_SCTL, 0x40010, [], 0, [], .fw, 0, 0,
    [⟨31, 31, .wo, 0⟩, ⟨1, 0, .wo, 0⟩]⟩,
  ⟨.PWR_SSTAT, 0x40014, [], 0, [], .none, 0, 0,
    [⟨31, 30, .ro, 0⟩, ⟨29, 27, .ro, 0⟩, ⟨26, 24, .ro, 0⟩, ⟨15, 0, .rc, 0⟩]⟩,
  ⟨.PWR_WAKE_EN, 0x40018, [], 0, [], .fw, 0, 0,
    [⟨6, 1, .rw, 0x3⟩, ⟨0, 0, .ro, 0x1⟩]⟩,
  ⟨.PWR_WAKE_SRC, 0x4001c, [], 0, [], .fw, 0, 0,
    [⟨7, 7, .w1c, 0⟩, ⟨6, 0, .w1c, 0⟩]⟩,
  ⟨.PWR_WAKE_AT_LO, 0x40020, [], 0, [], .fw, 0, 2,
    [⟨31, 0, .rw, 0⟩]⟩,
  ⟨.PWR_WAKE_AT_HI, 0x40024, [], 0, [], .fw, 1, 2,
    [⟨15, 0, .rw, 0⟩]⟩,
  ⟨.PWR_GPIO_WAKE, 0x40028, [], 0, [], .fw, 0, 0,
    [⟨31, 0, .rw, 0⟩]⟩,
  ⟨.PWR_STALL, 0x40030, [], 0, [], .fw, 0, 0,
    [⟨7, 0, .rw, 0x28⟩]⟩,
  ⟨.PWR_SYN, 0x40034, [], 0, [], .none, 0, 0,
    [⟨31, 29, .ro, 0⟩, ⟨28, 24, .ro, 0⟩, ⟨22, 16, .ro, 0⟩]⟩,
  ⟨.PWR_SYN_ADDR, 0x40038, [], 0, [], .none, 0, 0,
    [⟨31, 0, .ro, 0⟩]⟩,
  ⟨.PWR_EVENT, 0x40040, [], 0, [], .fw, 0, 0,
    [⟨7, 7, .w1c, 0⟩, ⟨6, 6, .w1c, 0⟩, ⟨5, 5, .w1c, 0⟩, ⟨4, 4, .w1c, 0⟩, ⟨3, 3, .w1c, 0⟩, ⟨2, 2, .w1c, 0⟩, ⟨1, 1, .w1c, 0⟩, ⟨0, 0, .w1c, 0⟩]⟩]

/-- Registers of Time from the spec's tables, part 5. -/
def regMapTime5 : List RegRow := [
  ⟨.PWR_DCFG, 0x41000, [⟨0x10, 96, 1⟩], 0, [], .fw, 0, 0,
    [⟨15, 0, .rw, 0x64⟩]⟩,
  ⟨.PWR_DSTAT, 0x41004, [⟨0x10, 96, 1⟩], 0, [], .none, 0, 0,
    [⟨31, 29, .ro, 0⟩, ⟨22, 0, .ro, 0⟩]⟩,
  ⟨.PWR_VSET, 0x41008, [⟨0x10, 96, 1⟩], 0, [], .host, 0, 0,
    [⟨22, 0, .wo, 0⟩]⟩,
  ⟨.PWR_VCLR, 0x4100c, [⟨0x10, 96, 1⟩], 0, [], .host, 0, 0,
    [⟨22, 0, .wo, 0⟩]⟩]

/-- The register map of these blocks. -/
def regMapTime : List RegRow :=
  regMapTime0 ++ regMapTime1 ++ regMapTime2 ++ regMapTime3 ++ regMapTime4 ++ regMapTime5

end Sys2Proof.Machine
end

