-- ==== Sys2Proof/Machine/State.lean ====
section
/-! DEFINITION. The state of the block as plain data, the machine right after reset, and the reasons a command can stop.
Registers live in one file keyed by fabric address; every other piece of state the spec names has a field here. -/
namespace Sys2Proof.Machine

/-- The network-time counter (R361). -/
structure NetTime where
  sec : Nat
  ns : Nat
  frac : Nat
deriving DecidableEq, Repr

/-- A Tally record (R386); `stamp` is TAI ns modulo 2^64. -/
structure LogRec where
  stamp : Nat
  island : Nat
  late : Bool
  sev : Nat
  cls : Nat
  src : Nat
  code : Nat
  payload : Word
  /-- How many steps of network time came before it (R391). -/
  epoch : Nat
deriving DecidableEq, Repr

/-- A read shadow: the lowest address of the wide value last read low word first, and its higher words (R59). -/
structure ReadShadow where
  base : Nat
  words : List Word
deriving DecidableEq, Repr

/-- What the last access answered its master (R19, R47, R492). -/
structure BusReply where
  master : Nat
  addr : Nat
  data : Nat
  error : Bool
deriving DecidableEq, Repr

/-- An access that waits for a power domain (R491): `write` or read of `width` bytes. -/
structure StalledAccess where
  master : Nat
  addr : Nat
  width : Nat
  write : Bool
  data : Nat
  domain : Nat
deriving DecidableEq, Repr

/-- A bank-change request (R52): `at?` none is the next boundary. -/
structure XfReq where
  target : Nat
  fade : Nat
  at? : Option Nat
deriving DecidableEq, Repr

/-- A cross-fade in progress: its target, F, start boundary and step (R54). -/
structure XfFade where
  target : Nat
  fade : Nat
  start : Nat
  step : Nat
deriving DecidableEq, Repr

/-- The requests and the fade of one bankable object (R55); the active bank is in its XF_STAT. -/
structure XfCtl where
  armed : Option XfReq
  pend : Option XfReq
  fade : Option XfFade
deriving DecidableEq, Repr

/-- The Tally log beside its registers (R390–R405). -/
structure TallyState where
  /-- Records waiting in each island's buffer, oldest first, at most 64 (R395). -/
  bufs : List (Nat × List LogRec)
  /-- Records lost in an island's buffer and not yet announced (R395). -/
  lost : List (Nat × Nat)
  /-- Records the merger holds, in emission order (R393). -/
  held : List LogRec
  /-- Records emitted while ring writing is off, at most 256 (R394). -/
  backlog : List LogRec
  /-- Records discarded from a full ring and not yet announced (R394). -/
  dropped : Nat
  /-- The kept ring in Ember retention (R396). -/
  kept : List (Nat × LogRec)
  /-- The interrupt request (R400). -/
  irq : Bool
  /-- The severity of the record TLY_FAULT_REC holds since FN_LATCH last cleared (R399). -/
  faultSev : Option Nat
  /-- Emission ticks of records with SEV 3 or 4 by 128 CLASS + SOURCE, within 1 s (R405). -/
  window : List (Nat × List Nat)
  /-- Tick of the last ESCALATE record by 128 CLASS + SOURCE (R405). -/
  escalated : List (Nat × Nat)
  /-- Each island's local counter: its value in ns at the last broadcast and the tick of that broadcast (R390). -/
  clocks : List (Nat × (Nat × Nat))
  /-- Tick of the last record of each rate-limited event (R395). -/
  limiter : List (Nat × Nat)
  /-- Steps of network time broadcast so far, and the last whose STEP record the merger has emitted (R391). -/
  epoch : Nat
  merged : Nat
deriving DecidableEq, Repr

/-- The clock conditions beside the CLK registers (R98, R105, R107, R111, R112). -/
structure ClkState where
  /-- A sampler outage is in progress. -/
  outage : Bool
  /-- A transmit-only outage is in progress. -/
  txOutage : Bool
  /-- Start ticks of the coasts of the last second, newest first (R111). -/
  coasts : List Nat
  /-- Tick of the missing edge of the last coast. -/
  coastFrom : Nat
  /-- The auxiliary PLL lost lock with its reference present and holds until a reset (R105). -/
  auxHeld : Bool
  /-- CLKOUTs that run, by bit (R107). -/
  outs : Nat
  /-- LANE samples counted up to `laneTick`, the tick of the last LANE block boundary or change of the LANE clock (log 113). -/
  laneBase : Nat
  laneTick : Nat
  /-- The LANE sample at which the block in progress began. -/
  blockFrom : Nat
  /-- The LANE sample at which the last block to end did. -/
  blockTo : Nat
  /-- The LANE sample of the last strobe of R99, and of the last that the TXCONV clock took (R98, R148, R165). -/
  strobeAt : Nat
  txStrobeAt : Nat
  /-- The LANE sample at which the sampler outage in progress began (R183). -/
  outageFrom : Nat
  /-- The LANE sample of the last change of the LANE clock's rate, and the divider before it, in 1/768 (R90). -/
  rateAt : Nat
  rateWas : Nat
  /-- The LANE sample at which the transmit-only outage in progress began (R98). -/
  txOutageFrom : Nat
deriving DecidableEq, Repr

/-- The slice map and the coefficients of the nine slices that a receive converter had up to a LANE sample (R122, R123, R126): OFS,
GAIN, SKEW and BW by slice. -/
structure RxEra where
  upTo : Nat
  map : Nat
  coefs : List (Int × Int × Int × Int)
deriving DecidableEq, Repr

/-- A receive converter beside its registers (R117–R133). -/
structure RxCtl where
  /-- The zone armed for the next LANE block. -/
  zoneArmed : Option Nat
  /-- The zone in force. -/
  zone : Nat
  /-- The armed attenuation and, under AT_MODE 1, its LANE block. -/
  dsa : Option (Nat × Option Nat)
  /-- 0 no dwell, 1 RETARGET, 2 shadowing, 3 check window. -/
  phase : Nat
  /-- In the check window: the outgoing slice. -/
  outgoing : Nat
  /-- How often each slice has been the spare since CONVERGE was entered (R127). -/
  spared : List (Nat × Nat)
  /-- The state held before GATED. -/
  before : Nat
  /-- The position whose slice reached 75 % of a range: the next target (R127). -/
  nextTarget : Option Nat
  /-- A position the leaving spare retargets to after a fault (R129). -/
  takeover : Option Nat
  /-- Positions concealed permanently (R131). -/
  concealed : List Nat
  /-- BIAS has been entered during an outage or its settling has ended in one: CONVERGE waits. -/
  waiting : Bool
  /-- LANE samples at which the settling runs in progress end, oldest first, each of a zone change (0) or of a switch change (1)
  (R117, R135). -/
  settles : List (Nat × Nat)
  /-- The last position taken over at a hand-over (R127). -/
  taken : Option Nat
  /-- Maps and coefficients that have been replaced within the LANE block in progress, oldest first (R126, R129). -/
  eras : List RxEra
  /-- Concealed positions, each from a LANE sample on and, once over, up to one (R129–R131). -/
  hides : List (Nat × Nat × Option Nat)
deriving DecidableEq, Repr

/-- A mute ramp in progress (R150, R151): towards g = 1 or g = 0, the LANE sample it started at, the position 0 to `len` it
started from (g = 1 at `len`), and its length in samples. -/
structure MuteRamp where
  up : Bool
  start : Nat
  pos : Nat
  len : Nat
deriving DecidableEq, Repr

/-- A failed active segment that waits for its exclusion (R155): segment, cause, tick of the fault, and its TXCONV cycle in the tick,
counted over the cycles that hold a fault. -/
structure SegFail where
  seg : Nat
  cause : Nat
  tick : Nat
  cycle : Nat
deriving DecidableEq, Repr

/-- A transmit converter beside its registers (R145–R158). -/
structure TxCtl where
  /-- FTW and PHASE in force. -/
  ftw : Nat
  phase : Nat
  /-- The armed FTW and PHASE, and the LANE sample of their commit (R147). -/
  armed : Option (Nat × Nat × Nat)
  /-- The running ramp (R150). -/
  ramp : Option MuteRamp
  /-- Ramps of the LANE block in progress that have ended or been reversed in it, oldest first. -/
  was : List MuteRamp
  /-- The path machine's mute request (R257). -/
  pathMute : Bool
  /-- The state held before GATED. -/
  before : Nat
  /-- Failed active segments found and not yet excluded, oldest first (R155). -/
  failing : List SegFail
  /-- Excluded segments whose slots await a spare, in the order spares go to them (R155, R157, R158). -/
  excluded : List Nat
  /-- Spares mapped in (R157). -/
  mapped : List Nat
  /-- The spare being swapped in (R157). -/
  swap : Option Nat
  /-- Exclusions with no spare to follow (R158). -/
  unspared : Nat
  /-- The next segment of the sweep (R154). -/
  sweep : Nat
  /-- GW_WAIT has been raised for the exclusion that waits (R156). -/
  gwRaised : Bool
  /-- The state BIAS or CAL waits for the end of an outage. -/
  waiting : Bool
  /-- The LANE sample from which g has been 0, while it is (R156). -/
  zeroFrom : Option Nat
  /-- Tick of the last GAP window (R156). -/
  lastGap : Option Nat
deriving DecidableEq, Repr

/-- Why a capture was requested: the orders of R49 and what its results serve.  `lapsed` is one that
nothing waits for any more: its trial has ended or rolls back, or its measurement has been given up (R251, R252, R281). -/
inductive CapKind where
  | cal | judge | routine | requested | mismatch | bgCal | lapsed
deriving DecidableEq, Repr

/-- A capture request (R241, R248, R279, R291). -/
structure CapReq where
  /-- The path it observes. -/
  path : Nat
  /-- 0 CPF, 1 CPR. -/
  input : Nat
  /-- What asked for it. -/
  kind : CapKind
deriving DecidableEq, Repr

/-- The streams of a capture (R243). -/
structure CapTake where
  /-- The LANE sample of the grant. -/
  asked : Nat
  /-- The first LANE sample of the capture, once the OBS has delivered a valid one (R242). -/
  n0 : Option Nat
  /-- The LANE sample at which it ended, once it has. -/
  stop : Option Nat
  /-- TAI ns and LANE block of sample `n0` (R246). -/
  time : Nat
  block : Nat
  /-- U and V from `n0` on; the output of WCHk from `n0` on, which reaches further by the loop delay; N0–N3. -/
  u : List (Int × Int)
  v : List (Int × Int)
  y : List (Int × Int)
  n : List (List (Int × Int))
  /-- A sample of Y was invalid (R245). -/
  bad : Bool
  /-- The Damper forced a sample of V to zero (R245). -/
  forced : Bool
  /-- Saturated samples of V. -/
  clips : Nat
deriving DecidableEq, Repr

/-- A capture that has ended: its status so far, bank, map and samples (R245, R246). -/
structure CapDone where
  req : CapReq
  status : Nat
  bank : Nat
  map : Nat
  take : CapTake
deriving DecidableEq, Repr

/-- One observation receiver's captures (R48, R49, R247). -/
structure CapCtl where
  /-- Waiting requests in arrival order. -/
  queue : List CapReq
  /-- The capture in progress and its start tick. -/
  running : Option CapReq
  /-- Whether the Damper forced the path to zero while it ran (R245). -/
  damped : Bool
  /-- Captures whose samples have ended and whose results are still to come, oldest first (R245). -/
  done : List CapDone
  /-- The path after which the routine rota continues. -/
  rota : Nat
  /-- The last grant was a calibration step (R49). -/
  afterCal : Bool
  /-- Judgement captures that go before the next calibration step (R49). -/
  due : Nat
  /-- The bank in force at the capture's first sample, 3 for a fade during it, and the neighbour map then (R243, R246). -/
  bank : Nat
  map : Nat
  /-- The samples taken so far. -/
  take : CapTake
deriving DecidableEq, Repr

/-- One element's ramp on one carrier (R226): where it started and which symbol it is in. -/
structure RampLeg where
  /-- The carrier of the direction. -/
  carrier : Nat
  /-- The first symbol of the ramp, once its commit point has been seen. -/
  start : Option Nat
  /-- The gain it started from in 1/4,096, and the symbols of the ramp so far. -/
  g0 : Nat
  i : Nat
deriving DecidableEq, Repr

/-- An element ramp in progress (R226). -/
structure ElemRamp where
  target : Nat
  len : Nat
  legs : List RampLeg
deriving DecidableEq, Repr

/-- A tuner search (R281). -/
structure Search where
  /-- The entry in hand. -/
  entry : Nat
  /-- Bursts waited without a measurement. -/
  bursts : Nat
  /-- Entry and RL of the best so far. -/
  best : Option (Nat × Nat)
  /-- A measurement of the entry has been requested. -/
  asked : Bool
  /-- The entry is still to be written: a trial pauses the search. -/
  unwritten : Bool
  /-- The entry was written during a burst, which is none of its own. -/
  midBurst : Bool
deriving DecidableEq, Repr

/-- One path machine beside its registers (R257–R281).  A burst's key is 1,024 × its frame number + its number. -/
structure PathCtl where
  /-- FE programs in force: words of PATH_FE_PA, PATH_FE_TR, PATH_FE_LNA. -/
  pa : Nat
  tr : Nat
  lna : Nat
  /-- A committed program that awaits its burst (R265). -/
  next : Option (Nat × Nat × Nat)
  /-- The admitted burst, and one admitted while it runs (R268, R261). -/
  cur : Option Nat
  nxt : Option Nat
  /-- The last burst checked, and the last withheld (R269). -/
  last : Option Nat
  wh : Option Nat
  /-- The mute request is withdrawn for the admitted burst, and already for the next (R266). -/
  sending : Bool
  sendNxt : Bool
  /-- Lines whose OFF instant is still to come: PA 1, TR 2, LNA 4. -/
  offRun : Nat
  /-- The burst began in RETURN at step RAMP. -/
  fromReturn : Bool
  /-- HOLD was entered from RETURN. -/
  heldReturn : Bool
  /-- OUT_GO waits for the ramps. -/
  outWait : Bool
  /-- EN = 0 waits for the OFF program. -/
  offWait : Bool
  /-- RET_TMO runs. -/
  returning : Bool
  /-- The outage found the path in RETURN; it restarts at CONV at the strobe (R271). -/
  outageReturn : Bool
  /-- Consecutive measurements below RL_MIN. -/
  lowRl : Nat
  /-- Of the pair of R279, once measured: Σ Y V* over CPF, and over CPR. -/
  cpf : Option (Int × Int)
  cpr : Option (Int × Int)
  /-- A capture of the pair that failed, by its input: it is taken again in the next burst. -/
  again : Option Nat
  /-- The LANE sample at which its last burst ended, and the bursts whose last OFF edge has passed (R278, R279). -/
  endedAt : Nat
  offs : Nat
  /-- The tuner search in progress (R281). -/
  search : Option Search
deriving DecidableEq, Repr

/-- A tuner word that waits (R278): WHEN and M; with WHEN = 1 the burst it is for, with WHEN = 2 the count of its path's bursts
that are over when it starts. -/
structure TunEntry where
  word : Nat
  when : Nat
  m : Nat
  due : Option Nat
deriving DecidableEq, Repr

/-- The word last sent on a tuner bus (R277): its bits, first bit first, FE ticks in a CLK period, and the tick of 245.76 MHz at
which it started. -/
structure TunWord where
  bits : List Bool
  div : Nat
  start : Nat
deriving DecidableEq, Repr

/-- A coexistence port beside its registers (R273–R276). -/
structure CoexCtl where
  /-- Deglitched input levels, in the order of COEX_STAT.IN. -/
  dg : Nat
  /-- Tick of the last accepted rising edge of the rate-limited pin, and an edge held back. -/
  rise : Option Nat
  delayed : Bool
  /-- Bursts for which REQ stands (R274). -/
  reqs : List Nat
  /-- The last burst whose check failed on this port. -/
  noGrant : Option Nat
deriving DecidableEq, Repr

/-- An air pattern (R260): the words of AIR_CFG and AIR_PAT. -/
structure AirPat where
  cfg : Nat
  syms : List Nat
deriving DecidableEq, Repr

/-- A calibration run (R290, R291): `origin` 0 GO, 1 RETURN, 2 background, 3 RETURN's that has been withdrawn while it ran. -/
structure CalRun where
  kind : Nat
  path : Nat
  apply : Bool
  fade : Nat
  origin : Nat
deriving DecidableEq, Repr

/-- The calibration sequencer (R289–R297). -/
structure CalState where
  /-- Queued runs, oldest first (R291). -/
  queue : List CalRun
  /-- RETURN requests that found the queue full. -/
  wanted : List CalRun
  /-- The run in progress, its precondition retries and its repeats after invalid segments (R293, R294). -/
  running : Option CalRun
  retries : Nat
  repeats : Nat
  /-- ALIGN_TX has measured the reference and measures its path (R299). -/
  second : Bool
  /-- LANE sample from which the measurement segments in progress count (R294). -/
  segFrom : Nat
  /-- Background runs of the last interval that have not entered the queue (R296). -/
  bg : List CalRun
deriving DecidableEq, Repr

/-- A narrow chain or wide channel beside its registers (R163–R185). -/
structure ChanCtl where
  /-- Words in force of CH_CFG or WCH_CFG, CH_DELAY and CH_GAIN; FTW and PHASE in force. -/
  cfg : Nat
  delay : Nat
  gain : Nat
  ftw : Nat
  phase : Nat
  /-- An armed commit: at the next LANE block, or at a block number (R171). -/
  commit : Option (Option Nat)
  /-- LANE sample at which the invalid run in progress began, and its length in output samples; for a DUC its settling in
  LANE samples (R184, R185). -/
  runFrom : Nat
  runLen : Nat
  /-- FP_HI or FP_LO is raised and not yet re-armed (R181). -/
  hiOn : Bool
  loOn : Bool
  /-- Where the next fine power window begins: frame and output sample (R180). -/
  fine : Option (Nat × Int)
deriving DecidableEq, Repr

/-- Output samples of a receive chain (R168): from sample `start` of frame `fn` on, with the cause of each invalid mark, 0 for
none; no causes listed are all 0. -/
structure ChanOut where
  fn : Nat
  start : Int
  vals : List (Int × Int)
  marks : List Nat
deriving DecidableEq, Repr

/-- The samples a chain holds at a LANE block boundary, oldest first, those missing being zero (R163, R172). -/
structure ChanSig where
  /-- Of a DUC, its input after the gain; of a receive chain, its LANE samples after the mixer. -/
  ins : List (Int × Int)
  /-- Of a DUC, its mixed samples ahead of the integer delay. -/
  line : List (Int × Int)
  /-- Of a receive chain, its output. -/
  outs : List ChanOut
  /-- Invalid runs that another has replaced and whose samples are still to come: LANE sample of the start, length, cause. -/
  runs : List (Nat × Nat × Nat)
  /-- Of a DUC, the inputs of its last block that carry VALID = 0, by their place among the block's inputs (R202, R203, R349). -/
  void : List Nat
deriving DecidableEq, Repr

/-- The samples a transmit path holds at a LANE block boundary, oldest first (R144, R149, R182, R234). -/
structure TxSig where
  /-- The carrier sum. -/
  sum : List (Int × Int)
  /-- The output of the mute ramp, and of the sinc corrector. -/
  ramp : List (Int × Int)
  sinc : List (Int × Int)
  /-- The core codes of the last block, in half-codes; none while the output is zero (R143). -/
  codes : List Nat
deriving DecidableEq, Repr

/-- The samples a receive converter's front holds at a LANE block boundary, oldest first (R121, R123, R160). -/
structure RxSig where
  /-- Quantiser codes by sample with the coefficients of the slice that took each: code, OFS, GAIN, SKEW and BW, concealed. -/
  codes : List (Int × (Int × Int × Int × Int) × Bool)
  /-- Samples of the output words. -/
  words : List Int
  /-- Output of the ÷4 stage after RXG. -/
  front : List (Int × Int)
  /-- Runs of LANE samples whose words carry VALID = 0 after a zone or switch change: the first, and the first after (R117,
  R135). -/
  gaps : List (Nat × Nat)
  /-- LANE samples whose words carry CHG (R120). -/
  chg : List Nat
deriving DecidableEq, Repr

/-- A downlink symbol on its way to the DUCs (R192, R193): symbol `n` of frame `fn`, from sample `start` of the frame on `len`
samples at `fs` × 1.92 MS/s, through `m` adapter stages, the samples of each path that has any, and the paths on which its samples
carry VALID = 0 (R202, R206). -/
structure TxWave where
  fn : Nat
  n : Nat
  start : Int
  len : Nat
  fs : Nat
  m : Nat
  rows : List (Nat × List (Int × Int))
  void : List Nat
deriving DecidableEq, Repr

/-- The OFDM settings of a carrier and direction: the words of OF_CFG, OF_RB and OF_WIN, f0 and the path mask (R204). -/
structure OfSet where
  cfg : Nat
  rb : Nat
  win : Nat
  f0 : Nat
  mask : Nat
deriving DecidableEq, Repr

/-- An admitted change that waits for its half-subframe (R204): settings, adapter stages, half-subframe asked, tick of GO, and the
paths whose rate has been changed since admission so that it does not match, with the tick (R206). -/
structure OfChange where
  set : OfSet
  m : Nat
  at? : Option Nat
  tick : Nat
  mm : List (Nat × Nat)
deriving DecidableEq, Repr

/-- An admission result not yet shown (R204): carrier, ERRC, LATE, and the figures of OF_ADM. -/
structure OfResult where
  carrier : Nat
  errc : Nat
  late : Bool
  util : Nat
  worst : Nat
deriving DecidableEq, Repr

/-- A beam commit that waits for its half-subframe (R228): words of BM_CCFG and BM_CTIME. -/
structure BmChange where
  ccfg : Nat
  ctime : Nat
  at? : Option Nat
  tick : Nat
deriving DecidableEq, Repr

/-- An accepted downlink FD section (R343, R350); `body` is its payload. -/
structure DlSection where
  id : Nat
  flow : Nat
  seq : Nat
  layer : Nat
  rb0 : Nat
  nrbs : Nat
  mw : Nat
  inv : Bool
  body : List Byte
deriving DecidableEq, Repr

/-- A downlink symbol that something is known about (R215–R217, R352, R353). -/
structure SymCtl where
  /-- Frame number and index in the frame (R340). -/
  fn : Nat
  n : Nat
  /-- The count a SCHED named, if any. -/
  expect : Option Nat
  /-- Accepted sections, oldest first (R350). -/
  secs : List DlSection
  /-- Retracted section IDs. -/
  gone : List Nat
  /-- IDs of accepted sections discarded for their layer and counted (R218). -/
  dropped : List Nat
  /-- It has been computed (R215). -/
  computed : Bool
  /-- Its commit point has passed. -/
  fixed : Bool
  /-- Delivered flagged invalid (R223, R229, R349). -/
  invalid : Bool
  /-- Withheld whole by a refused burst (R269). -/
  withheld : Bool
  /-- The first entry of its place in the output area of the run-ahead bank, while its element outputs lie there (R211, R216). -/
  slot : Option Nat
  /-- Its element outputs as the IFFT has taken them, by element, those all zero left out (R208). -/
  outs : List (Nat × List (Int × Int))
  /-- Source and target bank of its weights, and the weight of the target in 1/4,096 (R54, R222). -/
  mix : Nat × Nat × Nat
  /-- What was computed of it has been discarded: it is computed again (R216, R217). -/
  again : Bool
  /-- It has gone through the IFFT to the DUCs (R202, R216). -/
  sent : Bool
  /-- Sections it holds whose space is free, since it has been computed for the last time (R269, R350). -/
  used : Nat
deriving DecidableEq, Repr

/-- An uplink symbol from its start to its departure (R193–R208, R348). -/
structure UlSym where
  /-- Frame number and index in the frame (R340). -/
  fn : Nat
  n : Nat
  /-- Its OFDM settings and adapter stages, which a change in its course leaves alone (R204). -/
  set : OfSet
  m : Nat
  /-- Banks and weight of the beam weights and of the GRID trims at it (R54, R283). -/
  mix : Nat × Nat × Nat
  trim : Nat × Nat × Nat
  /-- Ramp gains other than 4,096, by element (R226). -/
  gains : List (Nat × Nat)
  /-- Phase compensation by path, in 2^-32 turn (R194). -/
  rot : List (Nat × Nat)
  /-- It has been computed: its layer outputs, its INV samples under R348, whether each allows SET, and whether it arrived
  invalid (R201). -/
  done : Bool
  layers : List (List (Int × Int))
  invc : Nat
  setRun : Bool
  inv : Bool
  /-- Its place in the area of layer outputs (R211). -/
  slot : Nat
  /-- A path of its mask has not matched the schedule within it (R206). -/
  mm : Bool
  /-- BM_CCFG in force at it (R208, R228). -/
  ccfg : Nat
deriving DecidableEq, Repr

/-- A carrier of a direction beside its registers (R187–R231). -/
structure GridCtl where
  /-- OFDM settings in force, and the adapter stages. -/
  of : OfSet
  m : Nat
  /-- An admitted change that waits (R204). -/
  chg : Option OfChange
  /-- BM_CCFG and BM_CTIME in force. -/
  ccfg : Nat
  ctime : Nat
  /-- A commit that waits (R228). -/
  bchg : Option BmChange
  /-- Paths whose rate does not match the schedule, with the tick of the channel commit that brought the rate (R206). -/
  mm : List (Nat × Nat)
  /-- Downlink symbols that have gone through the IFFT, oldest first. -/
  waves : List TxWave
  /-- Downlink symbols by SYM. -/
  syms : List (Nat × SymCtl)
  /-- Uplink symbols that have started and not departed, by SYM. -/
  uls : List (Nat × UlSym)
  /-- Uplink symbols flagged invalid by GRID, and those a step has marked, by SYM (R223, R229, R365). -/
  bad : List Nat
deriving DecidableEq, Repr

/-- A carrier-symbol under replay (R222, R223). -/
structure Replay where
  carrier : Nat
  sym : Nat
  /-- How often it has been replayed. -/
  times : Nat
  /-- An UNLOCATED result is being replayed. -/
  unloc : Bool
deriving DecidableEq, Repr

/-- A direction of the beamformer (R220–R224). -/
structure DirCtl where
  replay : List Replay
  /-- For each carrier, its last symbol with an UNLOCATED result and how many consecutive ones that makes (R224). -/
  unloc : List (Nat × Nat × Nat)
  /-- The place of the output area that is allocated next (R211). -/
  next : Nat
  /-- The working rod each spare shadows (R221). -/
  shadow : List (Nat × Nat)
deriving DecidableEq, Repr

/-- A running trial beside its registers (R250–R253). -/
structure TrialCtl where
  /-- ACT and CAND when it started. -/
  orig : Nat
  cand : Nat
  /-- OK metrics and gains of the current phase. -/
  metrics : List Int
  gains : List Int
  /-- Sum of the J baseline gains, and J. -/
  baseGain : Int
  baseN : Nat
  /-- HOLDOFF blocks that remain. -/
  hold : Nat
  /-- Cause of a rollback under way. -/
  cause : Nat
deriving DecidableEq, Repr

/-- A solver job (R255): its master and descriptor offset, in 64-byte units. -/
structure SolverJob where
  master : Nat
  desc : Nat
deriving DecidableEq, Repr

/-- The Damper on one path beside its registers (R302–R315). -/
structure DmpCtl where
  /-- Causes that stand now, by bit (R302). -/
  stand : Nat
  /-- Ticks of the entries to HELD or LOCKOUT from ARMED within 1 s (R314). -/
  strikes : List Nat
  /-- The cooldown in progress: its start tick and length in ms (R313). -/
  coolFrom : Nat
  coolMs : Nat
  /-- Block serials of the radiating blocks within the DUTY window (R302). -/
  duty : List Nat
  /-- Sums of |v|² of the blocks within the AVG window by serial, raised by the margin of R303, in 2^-64; zeros left out. -/
  sums : List (Nat × Nat)
  /-- The last 63 samples it measured, for the sliding window of PK (R302). -/
  tail : List (Int × Int)
  /-- Enforced ports without their grant, and the LANE sample from which (R309). -/
  missing : List (Nat × Nat)
  /-- The LANE sample from which the output has been forced to zero, while it is; and the earlier spans of zeros that reach into
  the block in progress or the 64 samples before it (R311, R312). -/
  since : Nat
  spans : List (Nat × Nat)
deriving DecidableEq, Repr

/-- A frame in an egress queue (R324): class 0 PTP, 1 GST, 2 MGT; the port it came from, if forwarded; its bytes without
FCS; what is inserted at departure: 0 PLAIN, 1 SYNC1, 2 PDRESP1 (R374), 3 the TS of a Gastad header (R375), 4 the residence
time of a forwarded frame (R333); T2; its ingress timestamp; an FCS to invert (R326). -/
structure EgFrame where
  cls : Nat
  src : Option Nat
  bytes : List Byte
  op : Nat
  t2 : Nat
  stamp : Nat
  bad : Bool
deriving DecidableEq, Repr

/-- A frame as it left a port: its bytes without FCS, an inverted FCS, its departure in 2^-32 ns of TAI. -/
structure WireFrame where
  bytes : List Byte
  inverted : Bool
  stamp : Nat
deriving DecidableEq, Repr

/-- A consumed Gastad frame in the deframer: bytes from the destination address, ingress timestamp. -/
structure GstFrame where
  bytes : List Byte
  stamp : Nat
deriving DecidableEq, Repr

/-- The sequence numbers accepted of a downlink flow in dual-homed mode (R327): the highest, and those within 4,096 of it. -/
structure DupFlow where
  high : Nat
  seen : List Nat
deriving DecidableEq, Repr

/-- An accepted downlink time-domain section (R344). -/
structure TdSection where
  path : Nat
  carrier : Nat
  fn : Nat
  start : Nat
  nblk : Nat
  id : Nat
  flow : Nat
  seq : Nat
  inv : Bool
  mw : Nat
  body : List Byte
deriving DecidableEq, Repr

/-- A management message that waits for the ones before it (R358). -/
structure MgtMsg where
  seq : Nat
  tag : Nat
  body : List Byte
deriving DecidableEq, Repr

/-- A bank change that a WEIGHT message asks for after its last entry (R355): carrier 4 d + c, bank, FADE, APPLY_AT. -/
structure WeightApply where
  carrier : Nat
  bank : Nat
  fade : Nat
  at' : Nat
deriving DecidableEq, Repr

/-- What PORT has in hand beside its queues. -/
structure PortCtl where
  /-- The MGT_UL message that GST_MTX is copying, tag and body (R359). -/
  mtx : Option (Nat × List Byte)
  /-- The PTP frame that TIME_PTX is copying, with the ports named (R373). -/
  ptx : Option (Nat × EgFrame)
  /-- Neighbour-discovery frames delivered to Beads 12 and 13 and not yet looked at, with their ports, oldest first (R321). -/
  nd : List (Nat × List Byte)
  /-- Bank changes that wait for the entries of their messages (R355). -/
  applies : List WeightApply
deriving DecidableEq, Repr

/-- A downlink flow (R358): the highest SEQ accepted, and MGT_DL messages held in ascending order. -/
structure GstFlow where
  high : Option Nat
  held : List MgtMsg
deriving DecidableEq, Repr

/-- An echo that waits for its response (R360). -/
structure Echo where
  dest : Nat
  ts : List Byte
  t2 : Nat
  id : Nat
  body : List Byte
deriving DecidableEq, Repr

/-- A pulse schedule (R378): times in ns, the next pulse's number, once or periodic. -/
structure PulseSched where
  start : Nat
  period : Nat
  width : Nat
  periodic : Bool
  k : Nat
deriving DecidableEq, Repr

/-- A pulse output: its schedule, and a commit that waits for the pulse in progress to end (R378). -/
structure PulseCtl where
  sched : Option PulseSched
  next : Option PulseSched
deriving DecidableEq, Repr

/-- What Ember keeps across S2 and S3 (R381): the counter in 2^-32 ns, the crystal count, VSTATE, UNC and INC; the count at
which the crystal stopped, if it did (R383); EMB_UNC in force, and the tick of the crystal count (R382, R392). -/
structure SleepTime where
  te : Nat
  e0 : Nat
  vstate : Nat
  unc : Nat
  inc : Nat
  stop : Option Nat
  embUnc : Nat
  tick : Nat
deriving DecidableEq, Repr

/-- The TIME block beside its registers (R361–R384). -/
structure TimeCtl where
  /-- INC in force in 2^-32 ns, and FOFF in force. -/
  inc : Nat
  foff : Nat
  /-- Commits that wait for the next tick: SET in ns, ADJ in 2^-32 ns, INC, FOFF. -/
  setPend : Option Nat
  adjPend : Option Int
  incPend : Option Nat
  foffPend : Option Nat
  /-- Fraction of the uncertainty growth, in 2^-32 ns × 10^-9 (R370). -/
  uncFrac : Nat
  /-- Tick from which HOLD_TMO runs. -/
  kickFrom : Nat
  /-- Network time in ns that backward steps repeat: from the earliest landing, up to this (R365). -/
  repeatFrom : Nat
  repeatTo : Nat
  /-- Capture FIFOs, oldest first, three words an entry (R377). -/
  tcap : List (Nat × List (List Nat))
  /-- Pulse outputs. -/
  pulses : List (Nat × PulseCtl)
  /-- Window exponent of the crystal measurement in progress (R384). -/
  calN : Nat
  /-- Values saved at sleep entry. -/
  saved : Option SleepTime
deriving DecidableEq, Repr

/-- A doorbell (R414). -/
structure Doorbell where
  offset : Nat
  tag : Nat
deriving DecidableEq, Repr

/-- A command taken from its channel (R424, R426): channel, front Bead, sender, doorbell offset and tag, offset of the block,
SEQ, opcode and LEN. -/
structure Cmd where
  chan : Nat
  front : Nat
  sender : Nat
  slot : Nat
  tag : Nat
  off : Nat
  seq : Nat
  op : Nat
  len : Nat
deriving DecidableEq, Repr

/-- A command that waits for the device before its final status (R425, R430): what it waits for, the Beads that carry it out,
and the status and result it will have. -/
structure CmdWait where
  cmd : Cmd
  kind : Nat
  owners : List Nat
  args : List Nat
  status : Nat
  detail : Nat
  words : List Nat
deriving DecidableEq, Repr

/-- The last completed command of a channel (R429). -/
structure CmdRec where
  seq : Nat
  off : Nat
  status : Nat
  detail : Nat
  rlen : Nat
deriving DecidableEq, Repr

/-- What firmware does once a tick has come: 0 a warm reset with a cause, 1 a sleep entry, 2 the staged
bundle starts (R433, R443, R446). -/
structure Later where
  due : Nat
  kind : Nat
  arg : Nat
deriving DecidableEq, Repr

/-- A DMA channel beside its registers (R448–R465). -/
structure DmaCtl where
  /-- The 16 words of the descriptor in hand; empty while there is none. -/
  desc : List Nat
  /-- The state held before a pause. -/
  before : Nat
  /-- Elements of the burst in flight that are still to move. -/
  burst : Option Nat
  /-- Elements of an interrupted burst, which start without a pacing decision (R460). -/
  left : Nat
  /-- Grants to other channels it has waited through (R465). -/
  waited : Nat
  /-- The next byte is the high byte of a SUM16 pair (R455). -/
  half : Bool
deriving DecidableEq, Repr

/-- A result that its conversion has computed and not yet stored (R474, R479): entry, OVR, HELDP, CODE, TIME, MPER. -/
structure MonResult where
  entry : Nat
  ovr : Bool
  held : Bool
  code : Int
  time : Nat
  mper : Nat
deriving DecidableEq, Repr

/-- A monitor converter (R474–R481). -/
structure MonConv where
  /-- 0 idle, 1 waiting for its trigger, 2 setup, 3 integration, 4 delay. -/
  phase : Nat
  /-- The entry in hand. -/
  entry : Nat
  /-- Conversions of the visit that remain, the one in progress included. -/
  left : Nat
  /-- Of the visit so far: sum of CODEs, any overrange, any held period, stamp of the first integration start. -/
  sum : Int
  ovr : Bool
  held : Bool
  first : Nat
  /-- Start stamp and mains period of the integration in progress. -/
  start : Nat
  pm : Nat
  /-- Results computed and not yet stored, oldest first (R474). -/
  done : List MonResult
deriving DecidableEq, Repr

/-- The mains tracker (R472, R473): an edge has been accepted; the last period; the last in-range periods that matched, newest
first; VALID has set since reset. -/
structure MainsTracker where
  seen : Bool
  prev : Option Nat
  good : List Nat
  ever : Bool
deriving DecidableEq, Repr

/-- A sleep entry, a sleep state or a wake beside PWR_SSTAT (R498–R503). -/
structure SleepCtl where
  /-- The state an entry aims at. -/
  target : Nat
  /-- DMA channels that the entry has paused (R501, R502). -/
  paused : List Nat
  /-- A wake accepted while step 6 runs: its bits of PWR_WAKE_SRC (R502). -/
  held : Nat
  /-- A wake is in progress. -/
  waking : Bool
  /-- Stamp of step 6, for the ENTER record (PWR_EVENT). -/
  stamp : Nat
deriving DecidableEq, Repr

/-- A verified bundle (R446, R513): its offset in shared SRAM, VERSION, ENTRY, BODY_LEN, the key slot that verified it, or the
Wortil key. -/
structure Staged where
  off : Nat
  version : Nat
  entry : Nat
  bodyLen : Nat
  slot : Nat
  wkey : Bool
deriving DecidableEq, Repr

/-- Resets, boot, OTP and PCIe beside their registers (R504–R523). -/
structure BootCtl where
  /-- PORST_N is low; the G1 rails are valid; another rail, or the temperature, holds the cold reset (R76–R79, R89). -/
  porstLow : Bool
  g1 : Bool
  railHold : Bool
  thermHold : Bool
  /-- The ROM has started: FABRIC answers (R511, R519). -/
  fabricReady : Bool
  /-- The ROM has started since the last cold reset: FAULT_N is released, CLKREQ_N low, the PCIe link may train (R82, R86,
  R519). -/
  romRun : Bool
  /-- The PCIe link is up; PERST_N is low; the MSI-X function mask is set (R505, R519). -/
  pcieUp : Bool
  perstLow : Bool
  funcMask : Bool
  /-- The unit-maker array by word (R506); an unlisted word is unburnt. -/
  otp : List (Nat × Nat)
  /-- The die identifier, the hash of the Wortil provisioning key and the injection-branch data of the Wortil array (R506). -/
  dieId : Nat
  wortilKey : Nat
  branch : List Nat
  /-- The boot flash by offset, an unlisted byte erased; it has a valid SFDP header (R512). -/
  flash : List (Nat × Byte)
  flashOk : Bool
  /-- Flash slots that wait for their body, in order (R515). -/
  cands : List Nat
  /-- The staged bundle, and that the next boot starts it (R446). -/
  staged : Option Staged
  bootStaged : Bool
  /-- Version of the running firmware, 0 in the ROM stage. -/
  version : Nat
deriving DecidableEq, Repr


/-- Everything the device holds but its addressed memories and the commands waiting. -/
structure Device where
  /-- Register words that differ from what reset left, by fabric address (R19, R64). -/
  regs : List (Nat × Word)
  /-- The network-time counter (R361). -/
  time : NetTime
  /-- Network-time ticks since power-up (R362); measures the 1 ms, 1 s and 10 s of the rules. -/
  ticks : Nat
  /-- A tick source runs (R90, R391). -/
  tickRuns : Bool
  /-- How many free values the model has drawn (the model's own field, log 7). -/
  drawn : Nat
  /-- Each master's read shadow (R59). -/
  readShadow : List (Nat × ReadShadow)
  /-- Each master's write shadow, by address (R59). -/
  writeShadow : List (Nat × List (Nat × Word))
  /-- What the last access answered. -/
  reply : Option BusReply
  /-- Accesses that wait for a domain, oldest first (R491). -/
  stalled : List StalledAccess
  /-- What PORT has in hand. -/
  port : PortCtl
  /-- Bank-change state by the address of the object's XF_STAT (R55). -/
  xf : List (Nat × XfCtl)
  /-- The Tally log. -/
  tally : TallyState
  /-- Memory words with an uncorrectable error: fabric addresses of shared SRAM, weight and capture memory (R401). -/
  eccBad : List Nat
  /-- Outages and coasts. -/
  clk : ClkState
  /-- Receive converters. -/
  rx : List (Nat × RxCtl)
  /-- Transmit converters. -/
  tx : List (Nat × TxCtl)
  /-- Captures of each observation receiver. -/
  cap : List (Nat × CapCtl)
  /-- Element ramps by 64 d + e (R226). -/
  ramps : List (Nat × ElemRamp)
  /-- Ramp gain in force in 1/4,096 by (64 d + e) 4 + c (R226); unlisted is 4,096. -/
  gains : List (Nat × Nat)
  /-- Path machines. -/
  paths : List (Nat × PathCtl)
  /-- Tuner buses' waiting words, oldest first (R278). -/
  tuners : List (Nat × List TunEntry)
  /-- The tuner word on each bus, or the last sent (R277). -/
  tunWire : List (Nat × TunWord)
  /-- Coexistence ports. -/
  coex : List (Nat × CoexCtl)
  /-- The air pattern in force, and a commit that waits with the tick of its GO (R260). -/
  air : AirPat
  airNext : Option (AirPat × Nat)
  /-- The calibration sequencer. -/
  cal : CalState
  /-- Chains and wide channels, numbered as in Locs. -/
  chan : List (Nat × ChanCtl)
  /-- Samples held by the chains, the transmit paths and the receive fronts. -/
  chanSig : List (Nat × ChanSig)
  txSig : List (Nat × TxSig)
  rxSig : List (Nat × RxSig)
  /-- The receive centre in force of each path (R161). -/
  centre : List (Nat × Nat)
  /-- The armed centre of a path and the LANE sample of its write (R161). -/
  centreArmed : List (Nat × (Nat × Nat))
  /-- The LANE block counter (R51). -/
  block : Nat
  /-- Carriers 4 d + c of the transform engine and the beamformer. -/
  grid : List (Nat × GridCtl)
  /-- Admission results in GO order (R204). -/
  ofCheck : List OfResult
  /-- The two directions of the beamformer. -/
  dirs : List (Nat × DirCtl)
  /-- FN_ADD in force (R367). -/
  fnAdd : Nat
  /-- DPD_PCFG.EN in force (R236). -/
  dpdOn : List (Nat × Bool)
  /-- Running trials by path. -/
  trial : List (Nat × TrialCtl)
  /-- Solver jobs, the running one first (R255). -/
  solver : List SolverJob
  /-- The first solver job runs. -/
  solving : Bool
  /-- Capture slots in use whose release waits for a job (R255). -/
  slotHeld : List Nat
  /-- The Damper by path. -/
  dmp : List (Nat × DmpCtl)
  /-- The ceilings have been loaded (R305). -/
  dmpLoaded : Bool
  /-- Blocks the Damper has evaluated. -/
  dmpSerial : Nat
  /-- The ARRAY measure stands above its limit (R302, R304). -/
  dmpArray : Bool
  /-- Egress queue of each port in order of readiness (R324). -/
  egress : List (Nat × List EgFrame)
  /-- The last frame each port sent. -/
  wire : List (Nat × WireFrame)
  /-- Duplicate windows by flow (R327). -/
  dups : List (Nat × DupFlow)
  /-- Consumed Gastad frames, oldest first. -/
  deframer : List GstFrame
  /-- Egress entries of TIME_ETS, oldest first, as four words (R373). -/
  ets : List (List Nat)
  /-- Downlink flows (R358). -/
  flows : List (Nat × GstFlow)
  /-- Time-domain sections in the section buffer (R350). -/
  tdSecs : List TdSection
  /-- Next SEQ of each flow the device sends (R336). -/
  ulSeq : List (Nat × Nat)
  /-- Frame and next SECID of each time-domain uplink source: path × 4 + carrier, or 256 + w (R342). -/
  tdCount : List (Nat × (Nat × Nat))
  /-- Echo requests accepted and not yet answered (R360). -/
  echoes : List Echo
  /-- The TIME block. -/
  tctl : TimeCtl
  /-- Doorbells queued in each channel, oldest first (R415). -/
  mbx : List (Nat × List Doorbell)
  /-- Each master's last ring: result and channel (R415). -/
  ringRes : List (Nat × (Nat × Nat))
  /-- Messages delivered so far (R419, R420): MSI-X by vector, events of Bead n at 64 + n. -/
  delivered : List (Nat × Nat)
  /-- Pending bits of MSI-X vectors (R419, R420). -/
  msixPend : List Nat
  /-- SMB_ALERT_N is driven low (R422). -/
  smbAlert : Bool
  /-- Fabric address of the SMBus slave (R421). -/
  smbAddr : Nat
  /-- An address match found FABRIC not ready and SCL is held low (R423). -/
  smbStretch : Bool
  /-- Ticks each Bead's watchdog has run since it was armed, kicked or restarted its Bead (R410). -/
  wdogRan : List (Nat × Nat)
  /-- Tick of each Bead's last watchdog expiry (R406). -/
  wdogLast : List (Nat × Nat)
  /-- Commands that wait for the device, in the order they were taken (R428). -/
  cmdWaits : List CmdWait
  /-- The record of each channel's last completed command (R429). -/
  cmdRecs : List (Nat × CmdRec)
  /-- Actions firmware has announced. -/
  laters : List Later
  /-- Paths under predistortion adaptation: cycle period in ms and LAMBDA (R439). -/
  adapt : List (Nat × (Nat × Nat))
  /-- Word 1 of the TIME_PTP in force: the message intervals (R441). -/
  ptpIntervals : Option Nat
  /-- The transport TIME_PTP has chosen (R441). -/
  ptpAnnexE : Bool
  /-- DETAIL of the last refused PWR_LEVEL (R443). -/
  levelDetail : Nat
  /-- Physical: OTP words burn as written, and the flash takes what is written (R445, R446). -/
  otpBurns : Bool
  flashTakes : Bool
  /-- DMA channels. -/
  dma : List (Nat × DmaCtl)
  /-- The low watermark in force of each pacing queue (R462). -/
  dmaLo : List (Nat × Nat)
  /-- The last channel granted at each priority (R465). -/
  dmaLast : List (Nat × Nat)
  /-- The channel whose access waits for a domain, and whether it is a write (R491). -/
  dmaStall : Option (Nat × Bool)
  /-- Monitor converters. -/
  mon : List (Nat × MonConv)
  /-- The mains tracker. -/
  mains : MainsTracker
  /-- PWM settings of the period in progress: words of MON_PWM_CFG and MON_PWM_DUTY (R483). -/
  pwm : List (Nat × (Nat × Nat))
  /-- Domains that failed to power up (R490). -/
  dfail : List Nat
  /-- The regulator report awaited: 0 none, 1 raising, 2 lowering, 3 lowering to the interim voltage, 4 to the target (R495). -/
  avs : Nat
  /-- The fixed-voltage mode and the per-part offset in mV of R75, from OTP (log 5). -/
  fixedVoltage : Bool
  voltOffset : Nat
  /-- Sleep. -/
  sleep : SleepCtl
  /-- Resets, boot, OTP and PCIe. -/
  boot : BootCtl
  /-- Memory bytes the command at hand has written; empty between commands (log 8). -/
  memOut : List Host.Cell
deriving DecidableEq, Repr

/-- The state of the block: waiting commands, the addressed memories, the device. -/
structure State where
  /-- The commands that wait, first in, first out. -/
  pending : List Instr
  /-- Shared SRAM, weight memory and capture memory by fabric byte address, in canonical form (R64, log 2). -/
  mem : List Host.Cell
  /-- The rest of the machine. -/
  dev : Device
deriving DecidableEq, Repr

/-- The device right after power-up: every register at its reset word, nothing armed, queued or running. -/
def Device.reset : Device where
  regs := []
  time := ⟨0, 0, 0⟩
  ticks := 0
  tickRuns := false
  drawn := 0
  readShadow := []
  writeShadow := []
  reply := none
  stalled := []
  port := ⟨none, none, [], []⟩
  xf := []
  tally := ⟨[], [], [], [], 0, [], false, none, [], [], [], [], 0, 0⟩
  eccBad := []
  clk := ⟨false, false, [], 0, false, 0, 0, 0, 0, 0, 0, 0, 0, 0, 0, 0⟩
  rx := []
  tx := []
  cap := []
  ramps := []
  gains := []
  paths := []
  tuners := []
  tunWire := []
  coex := []
  air := ⟨0x04500600, []⟩
  airNext := none
  cal := ⟨[], [], none, 0, 0, false, 0, []⟩
  chan := []
  chanSig := []
  txSig := []
  rxSig := []
  centre := []
  centreArmed := []
  block := 0
  grid := []
  ofCheck := []
  dirs := []
  fnAdd := 0
  dpdOn := []
  trial := []
  solver := []
  solving := false
  slotHeld := []
  dmp := []
  dmpLoaded := false
  dmpSerial := 0
  dmpArray := false
  egress := []
  wire := []
  dups := []
  deframer := []
  ets := []
  flows := []
  tdSecs := []
  ulSeq := []
  tdCount := []
  echoes := []
  tctl := ⟨4 * 2 ^ 32 + 0x11AAAAAB, 0, none, none, none, none, 0, 0, 0, 0, [], [], 0, none⟩
  mbx := []
  ringRes := []
  delivered := []
  msixPend := []
  smbAlert := false
  smbAddr := 0
  smbStretch := false
  wdogRan := []
  wdogLast := []
  cmdWaits := []
  cmdRecs := []
  laters := []
  adapt := []
  ptpIntervals := none
  ptpAnnexE := false
  levelDetail := 0
  otpBurns := true
  flashTakes := true
  dma := []
  dmaLo := []
  dmaLast := []
  dmaStall := none
  mon := []
  mains := ⟨false, none, [], false⟩
  pwm := []
  dfail := []
  avs := 0
  fixedVoltage := false
  voltOffset := 0
  sleep := ⟨0, [], 0, false, 0⟩
  boot := ⟨true, false, false, false, false, false, false, true, false, [], 0, 0, [], [], true, [], none, false, 0⟩
  memOut := []

/-- The machine right after reset (R505, R511; PORST_N still low, log 3). -/
def State.reset : State := { pending := [], mem := [], dev := Device.reset }

/-- Why a command faults.  No rule of the spec stops the block: every error it names is a record, a flag or a
response.  The one reason is kept for a state no run reaches. -/
inductive Fault where
  /-- Raised by no command; safe. -/
  | unreachable
deriving DecidableEq, Repr

/-- Why a command is refused. -/
inductive Refusal where
  /-- The command has no meaning yet; raised by the dispatch; safe. -/
  | notModelled (mnemonic : String)
  /-- The command names an instance, master or value that does not exist or that its field cannot carry
  (Sys2Proof.Instr.wf is false), so no agent can send it; raised by every meaning; safe. -/
  | illFormed
deriving DecidableEq, Repr

end Sys2Proof.Machine
end

