-- ==== Sys2Proof/Machine/Table.lean ====
section
/-! DEFINITION. Sparse data by number: sorted association lists, and the byte memory of the windows. -/
namespace Sys2Proof.Machine

/-- The entry at `k`. -/
def tabGet? {α : Type} : List (Nat × α) → Nat → Option α
  | [], _ => none
  | (j, x) :: t, k => if j = k then some x else tabGet? t k

/-- The entry at `k`, or `x` where there is none. -/
def tabGet {α : Type} (t : List (Nat × α)) (x : α) (k : Nat) : α := (tabGet? t k).getD x

/-- `t` with the entry at `k` made `v`; addresses stay rising. -/
def tabPut {α : Type} : List (Nat × α) → Nat → α → List (Nat × α)
  | [], k, v => [(k, v)]
  | (j, x) :: t, k, v =>
    if k < j then (k, v) :: (j, x) :: t
    else if k = j then (k, v) :: t
    else (j, x) :: tabPut t k v

/-- `t` without an entry at `k`. -/
def tabDel {α : Type} : List (Nat × α) → Nat → List (Nat × α)
  | [], _ => []
  | (j, x) :: t, k => if j = k then tabDel t k else (j, x) :: tabDel t k

/-- What a byte of a memory window that nothing has written reads as (log 2; DESIGN CHOICE, unsafe). -/
def memReset : Byte := 0

/-- One byte of memory. -/
def memGet (m : List (Nat × Byte)) (a : Nat) : Byte := tabGet m memReset a

/-- Memory with one byte written; a byte at its reset contents is not listed. -/
def memPut (m : List (Nat × Byte)) (a : Nat) (b : Byte) : List (Nat × Byte) :=
  if b = memReset then tabDel m a else tabPut m a b

/-- Memory with a list of bytes written in order. -/
def memPutAll (m : List (Nat × Byte)) : List (Nat × Byte) → List (Nat × Byte)
  | [] => m
  | (a, b) :: l => memPutAll (memPut m a b) l

/-- The canonical form: addresses strictly rising, none at its reset contents. -/
def memWf : List (Nat × Byte) → Bool
  | [] => true
  | [(_, b)] => b != memReset
  | (a, b) :: (a', b') :: t => decide (a < a') && b != memReset && memWf ((a', b') :: t)

/-- The little-endian word at a byte address (R11). -/
def memWord (m : List (Nat × Byte)) (a : Nat) : Word :=
  word ((memGet m a).toNat + (memGet m (a + 1)).toNat * 2 ^ 8
    + (memGet m (a + 2)).toNat * 2 ^ 16 + (memGet m (a + 3)).toNat * 2 ^ 24)

/-- The bytes of a value, least significant first (R11). -/
def bytesOf : Nat → Nat → List Byte
  | 0, _ => []
  | n + 1, v => BitVec.ofNat 8 v :: bytesOf n (v / 2 ^ 8)

/-- Consecutive cells from an address. -/
def cellsFrom : Nat → List Byte → List (Nat × Byte)
  | _, [] => []
  | a, b :: l => (a, b) :: cellsFrom (a + 1) l

end Sys2Proof.Machine
end

