-- ==== Sys2Proof/WellFormed.lean ====
section
/-! DEFINITION. The operand values an agent can send: instances that exist, values that fit their field (R16, R27, R44). -/
namespace Sys2Proof

/-- Every operand names something that exists and fits its field. -/
def Instr.wf : Instr → Bool
  | .registerWrite m addr width v => isMaster m && fits 32 addr && isWidth width && fits (8 * width) v
  | .wideReadLowWord m addr => isMaster m && fits 32 addr
  | .wideWriteHeld m addr v => isMaster m && fits 32 addr && fits 32 v
  | .memoryWindowWrite m addr width v => isMaster m && 0x10000000 ≤ addr && addr < 0x16800000 && isWidth width && fits (8 * width) v
  | .lockBitSet m block => isMaster m && block < 8
  | .hostviolClr m => isMaster m
  | .laneBlockBoundary rxs => rxs.all fun b => b.ok
  | .gridSymbolBoundary i fn n => isCarrier i && fn < 1024 && n < 560
  | .frameBoundary alignOff => -32768 ≤ alignOff && alignOff ≤ 32767
  | .halfSubframeBoundary half => half < 20
  | .xfRequest m o mode fade target start => isMaster m && o.ok && fits 1 mode && fits 4 fade && fits 4 target && target != 15 && fits 16 start
  | .xfCancel m o => isMaster m && o.ok
  | .warmReset cause => 4 ≤ cause && cause ≤ 6
  | .mdllBandChosen band => fits 6 band
  | .bandEdge ctrl => fits 10 ctrl
  | .clkRelockWrite m => isMaster m
  | .clkRealignWrite m => isMaster m
  | .convLpWrite m v => isMaster m && fits 1 v
  | .jumpMeasured jump => -2034 ≤ jump && jump ≤ 2035
  | .clkAuxdivWrite m i k n => isMaster m && i < 8 && fits 10 k && fits 8 n
  | .auxOffsetWrite m target => isMaster m && fits 32 target
  | .clkOutWrite m i v => isMaster m && i < 4 && fits 32 v
  | .clkCountClr m => isMaster m
  | .rxadcEnSet m n => isMaster m && n < 72
  | .rxadcEnClear m n => isMaster m && n < 72
  | .rxadcBiasDone n => n < 72
  | .rxadcZoneWrite m n z => isMaster m && n < 72 && fits 2 z
  | .zoneSettlingEnd n => n < 72
  | .rxadcRotEnWrite m n v => isMaster m && n < 72 && fits 1 v
  | .rxadcDsaWrite m n att mode block => isMaster m && n < 72 && fits 5 att && fits 1 mode && fits 14 block
  | .dsaApply n => n < 72
  | .sampleOverrange n => n < 72
  | .spareRetargetDone n => n < 72
  | .sliceHandover n _ _ _ _ moved => n < 72 && moved < 3
  | .dwellStart n => n < 72
  | .sliceCheckFail n slice => n < 72 && slice < 9
  | .sliceStuck n slice => n < 72 && slice < 9
  | .handoverCheckFail n => n < 72
  | .sliceTakeover n count => n < 72 && count ≤ 15
  | .obsSelWrite m k sel => isMaster m && k < 8 && fits 5 sel
  | .obsSettlingEnd k => k < 8
  | .txdacEnSet m p => isMaster m && p < 64
  | .txdacEnClear m p => isMaster m && p < 64
  | .txdacBiasDone p => p < 64
  | .txdacCalDone p => p < 64
  | .txdacNcoCommit m p phase ftwHi => isMaster m && p < 64 && fits 16 phase && fits 16 ftwHi
  | .txdacMuteWrite m p v => isMaster m && p < 64 && fits 1 v
  | .muteRampDone p => p < 64
  | .segmentFault p seg cause => p < 64 && seg < 65 && 1 ≤ cause && cause ≤ 3
  | .segmentSweepStep p trim _ => p < 64 && fits 8 trim
  | .segmentExclude p => p < 64
  | .guardWindow p _ => p < 64
  | .segmentSwapDone p => p < 64
  | .gwWaitTimeout p => p < 64
  | .txCodeClip p code => p < 64 && fits 15 code
  | .chRxctrWrite m p ctr => isMaster m && p < 64 && fits 16 ctr
  | .chChgGo m k mode block => isMaster m && isChain k && fits 1 mode && fits 14 block
  | .invalidRunEnd k => isChain k && !(k < 512 && 4 ≤ k % 8)
  | .ducSettlingEnd p c => p < 64 && c < 4
  | .coarsePowerWindow p j => p < 64 && j < 16
  | .finePowerWindow k => isChain k && !(k < 512 && 4 ≤ k % 8)
  | .ofChgGo m i mode half => isMaster m && i < 8 && fits 1 mode && fits 5 half
  | .bmChgGo m i mode half => isMaster m && i < 8 && fits 1 mode && fits 5 half
  | .symbolCommitPoint i fn n => isCarrier i && fn < 1024 && n < 560
  | .dlSymbolCompute i fn n => i < 4 && fn < 1024 && n < 560
  | .rodLocatedFault dir c sym errs => dir < 2 && c < 4 && fits 16 sym && errs.all RodErr.ok
  | .beamReplayDone dir c sym => dir < 2 && c < 4 && fits 16 sym
  | .checkUnlocated dir c sym errs => dir < 2 && c < 4 && fits 16 sym && errs.all RodErr.ok
  | .spareRodMismatch dir rod c sym own errs =>
    dir < 2 && 64 ≤ rod && rod < 68 && c < 4 && fits 16 sym && own.ok && errs.all RodErr.ok
  | .bmErampGo m dir e target len => isMaster m && dir < 2 && e < 64 && fits 1 target && fits 8 len
  | .dpdEnWrite m p v => isMaster m && p < 64 && fits 1 v
  | .dpdCapreqGo m k input path => isMaster m && k < 8 && fits 1 input && fits 3 path
  | .routineCaptureTick k => k < 8
  | .obsCaptureGrant k => k < 8
  | .captureEnd k => k < 8
  | .captureResultsReady k => k < 8
  | .captureSlotRelease m k slot => isMaster m && k < 8 && slot < 2
  | .dpdTrialGo m p holdoff j fade rbFade => isMaster m && p < 64 && fits 8 holdoff && fits 4 j && fits 4 fade && fits 4 rbFade
  | .dpdTrialAbort m p => isMaster m && p < 64
  | .trialHoldoffEnd p => p < 64
  | .trialTimeout p => p < 64
  | .dpdSjobGo m desc => isMaster m && fits 19 desc
  | .solverJobDone => true
  | .pathEnSet m p => isMaster m && p < 64
  | .pathEnClear m p => isMaster m && p < 64
  | .pathOutGo m p tmo len => isMaster m && p < 64 && fits 8 tmo && fits 8 len
  | .pathRetGo m p tmo len => isMaster m && p < 64 && fits 8 tmo && fits 8 len
  | .pathFeGo m p tmo len => isMaster m && p < 64 && fits 8 tmo && fits 8 len
  | .airCfgGo m mode scs period lead => isMaster m && fits 1 mode && fits 2 scs && fits 4 period && fits 16 lead
  | .burstCheck p b => p < 64 && b < 560
  | .burstMuteWithdraw p => p < 64
  | .feProgramEdge p line _ => p < 64 && line < 3
  | .burstEnd p => p < 64
  | .returnTimeout p => p < 64
  | .lnaBypassEnd p => p < 64
  | .coexInputAccepted k pin level => k < 4 && pin < 4 && fits 1 level
  | .coexStuck k pin => k < 4 && pin < 4
  | .coexDelayedEdge k => k < 4
  | .coexReqRise k b => k < 4 && b < 560
  | .tunPushGo m k when m' => isMaster m && k < 8 && fits 2 when && fits 3 m'
  | .tunerWordStart k => k < 8
  | .tunerWordDone k => k < 8
  | .mismatchInterval p => p < 64
  | .mismatchMeasured p => p < 64
  | .pathSrchGo m p n cur settle => isMaster m && p < 64 && fits 4 n && fits 4 cur && fits 8 settle
  | .searchSettleEnd p => p < 64
  | .calRunGo m apply fade kind path => isMaster m && fits 1 apply && fits 4 fade && fits 4 kind && fits 6 path
  | .calRunAbort m => isMaster m
  | .calWindowStart => true
  | .calPreconditionDone => true
  | .calMeasurementDone => true
  | .calRunEnd c => c.ok
  | .calApplyGo m fade path at' => isMaster m && fits 4 fade && fits 6 path && fits 14 at'
  | .pilotWrite m reg value => isMaster m && reg < 3 && fits 32 value
  | .damperPkBreak p v => p < 64 && isPkWindow v
  | .damperGrantBreak p k => p < 64 && k < 4
  | .damperCauseClear p v => p < 64 && isPkWindow v
  | .damperCooldownEnd p => p < 64
  | .dmpRearmGo m all path => isMaster m && fits 1 all && fits 6 path
  | .tripAcceptedHigh k => k < 8
  | .tripAcceptedLow k => k < 8
  | .damperLimitWrite m addr value => isMaster m && isDmpLimit addr && fits 32 value
  | .fhModeWrite m fwd fec25 dual mode => isMaster m && fits 1 fwd && fits 1 fec25 && fits 1 dual && fits 4 mode
  | .linkSignalDetect q => q < 2
  | .linkAligned q => q < 2
  | .linkUp q => q < 2
  | .linkDown q sig => q < 2 && fits 8 sig
  | .linkRemoteFault q => q < 2
  | .fecWindow q symbols words => q < 2 && fits 32 symbols && fits 32 words
  | .frameReceived q f => q < 2 && f.ok
  | .frameTransmit q => q < 2
  | .fdUlDepart c fn n => c < 4 && fn < 1024 && n < 560
  | .tdUlDepart t => t.ok
  | .mgtReorderTimeout flow => fits 8 flow
  | .mgtUlSend m len tag => isMaster m && fits 14 len && fits 16 tag
  | .timeSetWrite m ns sec => isMaster m && fits 32 ns && fits 48 sec
  | .timeAdjWrite m adj => isMaster m && fits 64 adj
  | .timeIncWrite m inc => isMaster m && fits 64 inc
  | .timeFoffWrite m foff => isMaster m && fits 24 foff
  | .timeVgo m state => isMaster m && fits 3 state
  | .timeKick m => isMaster m
  | .timePtxGo m port op len => isMaster m && fits 2 port && fits 2 op && fits 11 len
  | .ptpRxPop m => isMaster m
  | .tcapEdge i _ => i < 2
  | .tcapEntryRead m i => isMaster m && i < 2
  | .timeEtsRead m => isMaster m
  | .tpStartArm m k ns sec => isMaster m && k < 8 && fits 32 ns && fits 48 sec
  | .pulseDue k => k < 8
  | .pulseWidthEnd k => k < 8
  | .embCalGo m n => isMaster m && fits 5 n
  | .embCalDone span => fits 84 span
  | .stampBroadcast i => i < 9
  | .tallyRecordArrive i => i < 9
  | .tallyEnWrite m en => isMaster m && fits 1 en
  | .tallySwrecCommit m payload sev code => isMaster m && fits 32 payload && fits 3 sev && fits 12 code
  | .fnLatchClear m => isMaster m
  | .tlyStatBeadRead m => isMaster m
  | .keptRingClear m => isMaster m
  | .scrubCheck w result => w.ok && result < 3
  | .watchdogExpiry n pc => n < 16 && fits 32 pc
  | .mbxWdogArm m n period => isMaster m && n < 16 && fits 8 period
  | .mbxWdogKick m n => isMaster m && n < 16
  | .mbxBindWrite m c en sender recv => isMaster m && c < 64 && fits 1 en && fits 5 sender && fits 5 recv
  | .mbxRingCommit m c offset tag => isMaster m && c < 64 && fits 32 offset && fits 8 tag
  | .mbxPopRead m c width => isMaster m && c < 64 && (width == 4 || width == 8)
  | .smbAddr a => fits 32 a
  | .smbWrite v => fits 32 v
  | .smbRing c tag offset => fits 8 c && fits 8 tag && fits 32 offset
  | .smbPop _ => true
  | .dmaGo m ch => isMaster m && ch < 64
  | .dmaStop m ch => isMaster m && ch < 64
  | .dmaDescriptorFetched ch => ch < 64
  | .dmaBurstDone ch issued => ch < 64 && issued ≤ 256
  | .dmaQlvlWrite m q level => isMaster m && q < 8 && fits 20 level
  | .dmaQadjWrite m q delta => isMaster m && q < 8 && fits 21 delta
  | .dmaQcfgCommit m q v => isMaster m && q < 8 && fits 32 v
  | .dmaCcfgWrite m ch v => isMaster m && ch < 64 && fits 32 v
  | .dmaCdescWrite m ch addr => isMaster m && ch < 64 && fits 32 addr
  | .monRunSet m => isMaster m
  | .monRunClear m => isMaster m
  | .monLpWrite m lp => isMaster m && fits 1 lp
  | .monTrigWrite m v => isMaster m && fits 32 v
  | .monSetupEnd k => k < 4
  | .monIntegrationEnd k _ => k < 4
  | .monResultStored k => k < 4
  | .monDelayEnd k => k < 4
  | .monTriggerTimeout k => k < 4
  | .mainsEdge _ => true
  | .pwmPeriodStart j => j < 4
  | .pwrVsetWrite m n bits => isMaster m && n < 96 && fits 23 bits
  | .pwrVclrWrite m n bits => isMaster m && n < 96 && fits 23 bits
  | .domainPowerGood n => n < 96
  | .domainPowerupFail n => n < 96
  | .domainHystExpiry n => n < 96
  | .domainDownDone n => n < 96
  | .accessStallTimeout m => isMaster m
  | .pwrLctlGo m level => isMaster m && fits 3 level
  | .pwrSctlGo m st => isMaster m && fits 2 st
  | .sleepSaveDone e => fits 48 e
  | .sleepEnterDone e => fits 48 e
  | .wakeEvent src pin edge => src < 7 && pin < 16 && (edge == 1 || edge == 2)
  | .timeBridgeLoad e => fits 48 e
  | .bootReadyWrite m => isMaster m
  | .bootFwWrite m => isMaster m
  | .bootDbgGo m offset => isMaster m && fits 19 offset
  | .registerRead m addr width => isMaster m && fits 32 addr && isWidth width
  | .remoteFaultEnd q => q < 2
  | .pcieConfigurationRequest op => op < 3
  | .xinStop e => fits 48 e
  | .refFreqMeasurement err => -32768 ≤ err && err ≤ 32767
  | .jtagHalt n => n < 16
  | .jtagResume n => n < 16
  | .railG1Valid => true
  | .porstNAssert => true
  | .porstNRelease => true
  | .perstNRelease => true
  | .railUndervoltage => true
  | .emberRailLoss => true
  | .railResetRelease => true
  | .thermalTrip => true
  | .thermalTripClear => true
  | .thermalReset => true
  | .thermalResetRelease => true
  | .mdllLockSet => true
  | .mdllUnlock => true
  | .mdllLockFail => true
  | .dblLockSet => true
  | .dblUnlock => true
  | .alignmentStrobe => true
  | .refMissingEdge => true
  | .refQualifiedReturn => true
  | .coastExpired => true
  | .slewComplete => true
  | .fhrefclkQualified => true
  | .fhrefclkMissing => true
  | .auxOffsetStep => true
  | .auxLockSet => true
  | .auxUnlock => true
  | .ofdmAdmissionResult => true
  | .solverJobStart => true
  | .calRunStart => true
  | .calNoWindow => true
  | .bgCalInterval => true
  | .txInhibitLow => true
  | .txInhibitHigh => true
  | .fdDlMessage => true
  | .tdDlMessage => true
  | .schedMessage => true
  | .weightMessage => true
  | .retractMessage => true
  | .mgtDlMessage => true
  | .echoReqMessage => true
  | .echoRspReady => true
  | .timeStepApply => true
  | .holdTimeout => true
  | .tallyRecordEmit => true
  | .smbAddressMatch => true
  | .smbStretchTimeout => true
  | .smbRead => true
  | .smbStatus => true
  | .smbAlertResponse => true
  | .sysInfo => true
  | .sysStatus => true
  | .sysReset => true
  | .pathEnable => true
  | .pathReturn => true
  | .pathOut => true
  | .pathFe => true
  | .pathPolicy => true
  | .pathTune => true
  | .pathAir => true
  | .pathCoex => true
  | .pathTuner => true
  | .pathQuery => true
  | .carrierSet => true
  | .carrierStop => true
  | .carrierQuery => true
  | .beamLoad => true
  | .beamSwitch => true
  | .beamRamp => true
  | .beamQuery => true
  | .dpdEnable => true
  | .dpdBank => true
  | .dpdSwitch => true
  | .dpdTrial => true
  | .dpdAdapt => true
  | .dpdCfg => true
  | .dpdQuery => true
  | .calRun => true
  | .calApply => true
  | .calCfg => true
  | .calNet => true
  | .calQuery => true
  | .timeGet => true
  | .timePtp => true
  | .timeSet => true
  | .timeFrame => true
  | .timePulse => true
  | .timeCapture => true
  | .timeEmbcal => true
  | .monTable => true
  | .monRun => true
  | .monRead => true
  | .monPwm => true
  | .pwrLevel => true
  | .pwrSleep => true
  | .pwrVote => true
  | .pwrQuery => true
  | .logCfg => true
  | .logRead => true
  | .logKeep => true
  | .logAck => true
  | .logNote => true
  | .otpRead => true
  | .otpBurn => true
  | .otpRevoke => true
  | .fwStatus => true
  | .fwLoad => true
  | .fwFlash => true
  | .fwActivate => true
  | .dmaBurstStart => true
  | .monTimerTick => true
  | .monPwmTrigger => true
  | .mainsTimeout => true
  | .avsReport => true
  | .avsTimeout => true
  | .sleepDmaPaused => true
  | .sleepBeadsIdle => true
  | .sleepFlushDone => true
  | .sleepStepTimeout => true
  | .wakeComplete => true
  | .otpSettingsLoaded => true
  | .bootRomStart => true
  | .bundleLoadDone => true
  | .configImageApply => true
  | .perstNAssert => true
  | .pcieLinkUp => true

end Sys2Proof
end

