-- ==== Sys2Proof/Machine/Ops.lean ====
section
/-! DEFINITION. The shared operations: finding a register, reading and writing its fields, writing Tally records and
event bits, running a command. -/
namespace Sys2Proof.Machine

/-! ## The register map -/

/-- The registers of the block an address lies in (R64). -/
def regMapOf (a : Nat) : List RegRow :=
  if a < 0x30000 then regMapSys
  else if a < 0x50000 then regMapTime
  else if a < 0x90000 then regMapClk
  else if a < 0x100000 then regMapDmp
  else if a < 0x200000 then regMapPath
  else if a < 0x400000 then regMapChan
  else if a < 0x600000 then regMapBeam
  else regMapCal

/-- The instance number an offset selects, and the offset left. -/
def Dim.walk : List Dim → Nat → Nat → Option (Nat × Nat)
  | [], off, n => some (n, off)
  | d :: ds, off, n =>
    if off / d.stride < d.count then Dim.walk ds (off % d.stride) (n + off / d.stride * d.mult) else none

/-- The instance and the word inside it, where `a` is an address of the register. -/
def RegRow.hit (r : RegRow) (a : Nat) : Option (Nat × Nat) :=
  if a < r.base then none
  else match Dim.walk r.dims (a - r.base) r.first with
    | none => none
    | some (i, off) =>
      match Dim.walk r.subs off 0 with
      | some (j, 0) => some (i, j)
      | _ => none

/-- The register, instance and inner word in a list of rows. -/
def findIn (a : Nat) : List RegRow → Option (RegRow × Nat × Nat)
  | [] => none
  | r :: rs =>
    match r.hit a with
    | some (i, j) => some (r, i, j)
    | none => findIn a rs

/-- The register at a fabric address (R20), if any. -/
def regAt (a : Nat) : Option (RegRow × Nat × Nat) := findIn a (regMapOf a)

/-- The reset word of a list of fields (R27). -/
def resetOf : List FieldRow → Nat
  | [] => 0
  | f :: fs => f.reset * 2 ^ f.lo + resetOf fs

/-- Reset words that differ by instance (R103, R161, R176, R222, R412, R413, R447, R488).  Values the spec loads from
OTP read as an unprogrammed array does, zero, until OTP_SETTINGS_LOADED (log 5). -/
def instanceReset : RegName → Nat → Nat → Option Nat
  | .CLK_AUXDIV, i, _ =>
    some (match i with
      | 0 => 24 | 1 => 24 | 2 => 31 + 192 * 2 ^ 16 | 3 => 6 + 192 * 2 ^ 16 | _ => 96)
  | .WCH_CFG, w, _ => some (0x00410001 + if w < 8 then (64 + w) * 2 ^ 23 else 0)
  | .WCH_COEF, _, j => some (if j % 384 = 0 then 0x10000 else 0)
  | .BM_RODMAP, _, w => some ((4 * w + 3) * 2 ^ 24 + (4 * w + 2) * 2 ^ 16 + (4 * w + 1) * 2 ^ 8 + 4 * w)
  | .MBX_CHIRQ, c, _ => some c
  | .MBX_BIND, c, _ =>
    match c with
    | 0 => some (2 ^ 31 + 16 * 2 ^ 8)
    | 1 => some (2 ^ 31 + 16)
    | 2 => some (2 ^ 31 + 17 * 2 ^ 8)
    | 3 => some (2 ^ 31 + 17)
    | _ => some 0
  | .PWR_DSTAT, n, _ => some (if n = 4 || n = 6 || n = 7 || (9 ≤ n && n ≤ 23) then 2 ^ 22 else 0)
  | .DMA_CNOTE, c, _ => some (0x3E0000 + if c < 48 then 0 else 2 ^ 31)
  | _, _, _ => none

/-- What a register reads after reset. -/
def resetWord (a : Nat) : Nat :=
  match regAt a with
  | none => 0
  | some (r, i, j) =>
    match instanceReset r.name i j with
    | some v => v
    | none => resetOf r.fields

/-! ## Fields -/

/-- The word a register holds. -/
def Device.rd (d : Device) (a : Nat) : Nat :=
  match tabGet? d.regs a with
  | some w => w.toNat
  | none => resetWord a

/-- The device with a register word written. -/
def Device.wr (d : Device) (a v : Nat) : Device := { d with regs := tabPut d.regs a (word v) }

/-- The unsigned value of a field. -/
def Device.get (d : Device) (l : Loc) : Nat := bitsOf (d.rd l.addr) l.lo l.w

/-- The device with one field written; the word's other bits stay. -/
def Device.set (d : Device) (l : Loc) (v : Nat) : Device :=
  d.wr l.addr (putBits (d.rd l.addr) l.lo l.w v)

/-- A one-bit field reads 1. -/
def Device.on (d : Device) (l : Loc) : Bool := d.get l == 1

/-- The signed value of a field (R10). -/
def Device.getS (d : Device) (l : Loc) : Int := signedOf l.w (d.get l)

/-- A counter field advanced by `n`, staying at its top value. -/
def Device.addSat (d : Device) (l : Loc) (n : Nat) : Device := d.set l (satAdd (2 ^ l.w - 1) (d.get l) n)

/-- A counter field advanced by one. -/
def Device.inc (d : Device) (l : Loc) : Device := d.addSat l 1

/-- A Bool as a field value. -/
def bit (b : Bool) : Nat := if b then 1 else 0

/-- A register instance back at its reset word. -/
def Device.clearReg (d : Device) (a : Nat) : Device := { d with regs := tabDel d.regs a }

/-! ## Time -/

/-- Network-time ticks in 1 ms, 1 s and 10 s of the 245.76 MHz tick (R362). -/
def ticksPerMs : Nat := 245760

/-- The counter in TAI ns (R367). -/
def Device.tai (d : Device) : Nat := d.time.sec * 10 ^ 9 + d.time.ns

/-- The counter in 2^-32 ns (R361). -/
def Device.counter (d : Device) : Nat := d.tai * 2 ^ 32 + d.time.frac

/-- The nominal increment of R362 in 2^-32 ns. -/
def nominalInc : Nat := 4 * 2 ^ 32 + 0x11AAAAAB

/-- Cycles of an island's nominal clock in a number of network-time ticks, as a fraction (R102, R390): EMBER 16 MHz, BEAD, FABRIC and
GRID by their dividers of 9.6 GHz, PORT 781.25 MHz, LANE 1,536 MHz, the converters 768 MHz, MONITOR 15.36 MHz. -/
def Device.isleClock (d : Device) (island : Nat) : Nat × Nat :=
  let aux := fun (k : Nat) => (30000, 768 * d.get (L.CLK_AUXDIV_N k) + d.get (L.CLK_AUXDIV_K k))
  let half := if d.on L.CLK_STAT_CONV_LP_ACTIVE then 2 else 1
  match island with
  | 0 => (25, 384) | 1 => aux 0 | 2 => aux 1 | 3 => (78125, 24576) | 4 => aux 2
  | 5 => (25, 4 * half) | 6 => (25, 8 * half) | 7 => (25, 8 * half) | _ => (1, 16)

/-- An island's local counter in TAI ns (R390): the last broadcast, and the nominal period of each of its cycles since. -/
def Device.localTime (d : Device) (island : Nat) : Nat :=
  match tabGet? d.tally.clocks island with
  | some (base, tick) =>
    let c := d.isleClock island
    (base + (d.ticks - tick) * c.1 / c.2 * c.2 * 3125 / (768 * c.1)) % 2 ^ 64
  | none => if d.tickRuns then d.tai % 2 ^ 64 else 0

/-- Ember stamps its records with its time in sleep (R392): from the tick source's stop to its return. -/
def Device.emberSleeps (d : Device) : Bool := d.tctl.saved.isSome && !d.tickRuns

/-- A crystal count of the time in sleep as a stamp, by the formula of R382 (R392). -/
def Device.sleepStamp (d : Device) (cycles : Nat) : Nat :=
  match d.tctl.saved with
  | some s => (s.te + cycles * (d.rd A.EMB_PERIOD_W0 + d.rd (A.EMB_PERIOD_W0 + 4) * 2 ^ 32)) / 2 ^ 32 % 2 ^ 64
  | none => d.localTime 0

/-- The stamp of a record of an island made now, and whether it is late: Ember's in sleep are, at the crystal cycles of 7,500 nominal
ticks since the count that was saved (R390, R392; log 138). -/
def Device.stampOf (d : Device) (island : Nat) : Nat × Bool :=
  match d.tctl.saved with
  | some s =>
    if island = 0 && d.emberSleeps then (d.sleepStamp ((d.ticks - s.tick) / 7500), true) else (d.localTime island, false)
  | none => (d.localTime island, false)

/-! ## Tally records -/

/-- The island numbers of R390. -/
def isleEMBER : Nat := 0
def isleBEAD : Nat := 1
def isleFABRIC : Nat := 2
def islePORT : Nat := 3
def isleGRID : Nat := 4
def isleLANE : Nat := 5
def isleRXCONV : Nat := 6
def isleTXCONV : Nat := 7
def isleMONITOR : Nat := 8

/-- The common code `b` (R388). -/
def common (b : Nat) : Nat := 0x3F * 32 + b

/-- The bits of a list of (value, width) items, first item highest. -/
def packBits : List (Nat × Nat) → Nat × Nat
  | [] => (0, 0)
  | (v, w) :: l => let (n, t) := packBits l; (v % 2 ^ w * 2 ^ t + n, w + t)

/-- `k` payload words of a left-aligned bit string, first word highest. -/
def splitWords : Nat → Nat → List Word
  | 0, _ => []
  | k + 1, n => word (n / 2 ^ (32 * k)) :: splitWords k n

/-- The payload words of the named items, packed from bit 31 down (R389). -/
def packWords (items : List (Nat × Nat)) : List Word :=
  let (n, t) := packBits items
  let k := max 1 ((t + 31) / 32)
  splitWords k (n * 2 ^ (32 * k - t))

/-- Tick-limited records: whether the limiter `key` lets a record through, `period` ticks after the last. -/
def Device.allows (d : Device) (key period : Nat) : Bool :=
  match tabGet? d.tally.limiter key with
  | none => true
  | some t => d.ticks - t ≥ period

/-- Mark the limiter as used now. -/
def Device.stampLimiter (d : Device) (key : Nat) : Device :=
  { d with tally := { d.tally with limiter := tabPut d.tally.limiter key d.ticks } }

/-- One more message to a target: MSI-X by vector, events of Bead n at 64 + n (R419, R420). -/
def deliverTo (t : Nat) (d : Device) : Device := { d with delivered := tabPut d.delivered t (tabGet d.delivered 0 t + 1) }

/-- Base of the MSI-X table; a vector has four words, bit 0 of the last its mask (R420). -/
def msixTable : Nat := 0x18000
/-- The vector is masked, by itself or with the function; after reset every vector is, as the PCI Express specification has
it (log 26). -/
def Device.msixMasked (d : Device) (v : Nat) : Bool :=
  d.boot.funcMask || match tabGet? d.regs (msixTable + 16 * v + 12) with
  | some w => bitsOf w.toNat 0 1 == 1
  | none => true

/-- One MSI-X message, or its pending bit while the vector is masked (R419). -/
def msix (v : Nat) (d : Device) : Device :=
  if d.msixMasked v then { d with msixPend := if d.msixPend.contains v then d.msixPend else v :: d.msixPend }
  else deliverTo v d

/-- The Tally interrupt request rises and is delivered to the host and the Beads that take it (R400, R420). -/
def tallyIrq (d : Device) : Device :=
  if d.tally.irq then d
  else
    let d := { d with tally := { d.tally with irq := true } }
    let d := if d.on L.MBX_HOST_TALLY_HOST then msix (d.get L.MBX_HOST_TALLY_VEC) d else d
    (List.range 16).foldl (fun d n =>
      if bitsOf (d.get L.MBX_FW_TALLY_BEAD) n 1 = 1 then deliverTo (64 + n) d else d) d

/-- The parts of one record into its island's buffer of 64, all or none (R389, R395); a LOST record with the count comes ahead of the
first after a loss. -/
def Device.pushAll (d : Device) (r : LogRec) (parts : List LogRec) : Option Device :=
  let buf := tabGet d.tally.bufs [] r.island
  let lost := tabGet d.tally.lost 0 r.island
  let extra : List LogRec :=
    if lost = 0 then [] else [{ r with sev := 2, cls := 2, src := r.island, code := common 12, payload := word lost }]
  if buf.length + extra.length + parts.length ≤ 64 then
    let buf' := buf ++ extra ++ parts
    some (({ d with tally := { d.tally with bufs := tabPut d.tally.bufs r.island buf',
                                            lost := tabDel d.tally.lost r.island } }).set (L.TLY_ISL_LEVEL r.island) buf'.length)
  else none

/-- `n` records that find their buffer full are counted and announced later (R395). -/
def Device.loseRecs (d : Device) (isle n : Nat) : Device :=
  (({ d with tally := { d.tally with lost := tabPut d.tally.lost isle (tabGet d.tally.lost 0 isle + n) } }).addSat
    (L.TLY_ISL_DROP isle) n).addSat L.TLY_LATE_LOST n

/-- The parts of one record into its island's buffer; where that is full they are lost, and the LOST event of TLY_EVENT writes at most
one record per 1 ms (R389, R395, R400). -/
def Device.pushParts (d : Device) (r : LogRec) (parts : List LogRec) : Device :=
  match d.pushAll r parts with
  | some d => d
  | none =>
    let d := tallyIrq ((d.loseRecs r.island parts.length).set L.TLY_EVENT_LOST 1)
    let key := A.TLY_EVENT * 4096 + 2 * 128
    if d.allows key ticksPerMs then
      let d := d.stampLimiter key
      let e : LogRec := { r with island := isleFABRIC, stamp := d.localTime isleFABRIC, sev := 2, cls := 2, src := isleFABRIC, code := 2, payload := 0 }
      match d.pushAll e [e] with
      | some d => d
      | none => d.loseRecs isleFABRIC 1
    else d

/-- A record of one part. -/
def Device.push (d : Device) (r : LogRec) : Device := d.pushParts r [r]

/-- The parts of one record: the first plain, the rest with CONT (R389). -/
def partsOf (r : LogRec) : List Word → List LogRec
  | [] => []
  | w :: ws => { r with payload := w } :: partsOf { r with code := r.code % 2048 + 2048 } ws

/-- A record stamped now by an island. -/
def Device.log (d : Device) (island sev cls src code : Nat) (items : List (Nat × Nat)) : Device :=
  let t := d.stampOf island
  let r : LogRec := ⟨t.1, island, t.2, sev, cls, src, code, 0, d.tally.epoch⟩
  d.pushParts r (partsOf r (packWords items))

/-- A record limited to one per `period` ticks for the limiter `key`. -/
def Device.logLimited (d : Device) (key period island sev cls src code : Nat) (items : List (Nat × Nat)) : Device :=
  if d.allows key period then (d.stampLimiter key).log island sev cls src code items else d

/-- An event: its bit is set and its record written (R388, R389). -/
def Device.event (d : Device) (l : Loc) (island cls src reg sev : Nat) (items : List (Nat × Nat)) : Device :=
  (d.set l 1).log island sev cls src (reg * 32 + l.lo) items

/-- The limiter of one event bit of one source. -/
def limiterKey (l : Loc) (src : Nat) : Nat := l.addr * 4096 + l.lo * 128 + src

/-- An event whose record is limited to one per `period` ticks for its bit and source. -/
def Device.eventLimited (d : Device) (l : Loc) (period island cls src reg sev : Nat) (items : List (Nat × Nat)) : Device :=
  (d.set l 1).logLimited (limiterKey l src) period island sev cls src (reg * 32 + l.lo) items

/-! ## Memory -/

/-- A byte as the command sees it: what it has written itself, else memory. -/
def Device.peek (d : Device) (m : List Host.Cell) (a : Nat) : Byte := memGet (memPutAll m d.memOut) a

/-- Bytes written by the command at hand, in order. -/
def Device.store (d : Device) (a : Nat) (bs : List Byte) : Device := { d with memOut := d.memOut ++ cellsFrom a bs }

/-- A little-endian word stored (R11). -/
def Device.storeWord (d : Device) (a v : Nat) : Device := d.store a (bytesOf 4 v)

/-! ## Folding over instances -/

/-- Apply `f` for 0, 1, …, n − 1 in order. -/
def Device.each (d : Device) (n : Nat) (f : Nat → Device → Device) : Device :=
  (List.range n).foldl (fun d k => f k d) d

/-- Apply `f` where a condition holds. -/
def Device.when (d : Device) (b : Bool) (f : Device → Device) : Device := if b then f d else d

/-! ## Values the spec leaves open -/

/-- A free value and the device that has drawn it (log 7). -/
def Device.draw (d : Device) : Nat × Device := ((Config.freeValue d.drawn).toNat, { d with drawn := d.drawn + 1 })

/-! ## Running a command -/

/-- The state after a device effect: its memory writes land, the queue stays. -/
def State.run (s : State) (f : List Host.Cell → Device → Device) : State :=
  let d := f s.mem { s.dev with memOut := [] }
  { s with mem := memPutAll s.mem d.memOut, dev := { d with memOut := [] } }

/-- Every meaning: an ill-formed command is refused by name, any other has its effect. -/
def act (i : Instr) (s : State) (f : List Host.Cell → Device → Device) : Host.Outcome State Fault Refusal :=
  if i.wf then .next (s.run f) else .refused .illFormed

/-- A meaning that needs no memory. -/
def actDev (i : Instr) (s : State) (f : Device → Device) : Host.Outcome State Fault Refusal :=
  act i s fun _ d => f d

end Sys2Proof.Machine
end

