-- ==== Sys2Proof/Machine/Domain.lean ====
section
/-! DEFINITION. Power domains: where an address lies, the votes, and how they move a domain's state (R485–R490). -/
namespace Sys2Proof.Machine

/-- A domain marked "never": it stays on while the device is awake (R485). -/
def neverOff (n : Nat) : Bool := n == 0 || n == 1 || n == 2 || n == 3 || n == 5 || n == 8

/-- The domain of a fabric address (R485): register blocks by island, converters by instance, memories by window. -/
def domainOf (a : Nat) : Nat :=
  if a < 0x30000 then 2
  else if a < 0x40000 then 5
  else if a < 0x50000 then 0
  else if a < 0x80000 then 2
  else if a < 0x90000 then 3
  else if a < 0xB0000 then 7
  else if a < 0xD0000 then 5
  else if a < 0x140000 then 7
  else if a < 0x150000 then 32 + (a - 0x140000) / 0x400
  else if a < 0x180000 then 24 + (a - 0x150000) / 0x400
  else if a < 0x200000 then 32 + (a - 0x180000) / 0x400
  else if a < 0x300000 then 7
  else if a < 0x500000 then 6
  else if a < 0x10000000 then 7
  else if a < 0x12000000 then 2
  else if a < 0x16000000 then 6
  else 7

/-- Any cause that holds the cold reset (R76–R79, R89). -/
def Device.coldHeld (d : Device) : Bool := d.boot.porstLow || !d.boot.g1 || d.boot.railHold || d.boot.thermHold

/-- The sleep state in force (R498). -/
def Device.asleep (d : Device) : Nat := d.get L.PWR_SSTAT_SSTATE

/-- STATE of a domain (R489); a domain marked "never" is ON while awake and follows the sleep state (R498). -/
def Device.domState (d : Device) (n : Nat) : Nat :=
  if neverOff n then
    match d.asleep with
    | 0 => 2
    | 1 => if n = 8 then 5 else 2
    | 2 => if n = 2 || n = 5 || n = 8 then 6 else 2
    | _ => if n = 0 then 2 else 0
  else d.get (L.PWR_DSTAT_STATE n)

/-- A power domain is on, its switches closed (R489). -/
def Device.domOn (d : Device) (n : Nat) : Bool := d.domState n == 2 || d.domState n == 3

/-- STATE set. -/
def setDom (n st : Nat) (d : Device) : Device := d.set (L.PWR_DSTAT_STATE n) st

/-- Vote bits of a domain. -/
def Device.votes (d : Device) (n : Nat) : Nat := d.get (L.PWR_DSTAT_VOTES n)
/-- One vote bit stands. -/
def Device.voted (d : Device) (n b : Nat) : Bool := bitsOf (d.votes n) b 1 == 1

/-- One vote of a parent or votable domain set (R489, R490): OFF powers up, HYST returns to ON. -/
def voteOne (n b : Nat) (d : Device) : Device :=
  if neverOff n || d.voted n b then d
  else
    let d := d.set (L.PWR_DSTAT_VOTES n) (d.votes n + 2 ^ b)
    match d.domState n with
    | 0 => setDom n 1 { d with dfail := d.dfail.filter (· != n) }
    | 3 => setDom n 2 d
    | _ => d

/-- One vote withdrawn (R489): ON with no vote left goes to HYST. -/
def unvoteOne (n b : Nat) (d : Device) : Device :=
  if neverOff n || !d.voted n b then d
  else
    let d := d.set (L.PWR_DSTAT_VOTES n) (d.votes n - 2 ^ b)
    if d.votes n = 0 && d.domState n = 2 then setDom n 3 d else d

/-- A PATH or OBS domain (R487). -/
def isLeaf (n : Nat) : Bool := 24 ≤ n

/-- The DEP votes of LANE and SYNTH stand while a PATH or OBS domain is not off (R487). -/
def depVotes (d : Device) : Device :=
  let on := (List.range 72).any fun k => d.domState (24 + k) != 0
  if on then voteOne 4 20 (voteOne 7 20 d) else unvoteOne 4 20 (unvoteOne 7 20 d)

/-- A vote of domain `n` set, with what depends on it. -/
def vote (n b : Nat) (d : Device) : Device :=
  let d := voteOne n b d
  if isLeaf n then depVotes d else d

/-- The mailbox's vote for the domain of Bead `n` follows its channels (R418). -/
def mbxVote (n : Nat) (queued : Bool) (d : Device) : Device :=
  if queued then voteOne (8 + n) 19 d else unvoteOne (8 + n) 19 d

end Sys2Proof.Machine
end

