-- ==== Sys2Proof/Machine/Runs.lean ====
section
/-! DEFINITION. The LANE clock and its sample count, the settings of the chains, and runs of invalid samples (R51, R90, R101,
R112, R163–R185). -/
namespace Sys2Proof.Machine

/-! ## The LANE clock -/

/-- Low-power converter mode in force (R101). -/
def Device.lowPower (d : Device) : Bool := d.on L.CLK_STAT_CONV_LP_ACTIVE

/-- The LANE clock as a divider of the auxiliary VCO, in 1/768: AUX3's own while it is the source (R90, R102), else that of
1.536 GHz, or of 768 MHz in low-power mode. -/
def Device.laneDiv (d : Device) : Nat :=
  if d.on L.CLK_STAT_LANE_SRC then max 1 (768 * d.get (L.CLK_AUXDIV_N 3) + d.get (L.CLK_AUXDIV_K 3))
  else if d.lowPower then 9600 else 4800

/-- Periods of 12.288 GHz in a LANE sample: a tuning word turns so often its value in one (R145, R164). -/
def Device.laneTurns (d : Device) : Nat := if d.lowPower then 16 else 8

/-- LANE blocks in a frame at the LANE clock of now (R51, R112, R527). -/
def Device.blocksPerFrame (d : Device) : Nat := 72000000 / d.laneDiv

/-- The block count that bounds AT (R53): that of the converter mode in force. -/
def Device.blockLimit (d : Device) : Nat := if d.lowPower then 7500 else 15000

/-- The LANE sample of now: those counted up to the last boundary, and those of the ticks since (6.25 a tick at 1.536 GHz,
3.125 at 768 MHz; R14; log 113). -/
def Device.laneNow (d : Device) : Nat := d.clk.laneBase + (d.ticks - d.clk.laneTick) * 30000 / d.laneDiv

/-- At least `n` LANE samples have passed since LANE sample `t`. -/
def Device.samplesSince (d : Device) (t n : Nat) : Bool := t + n ≤ d.laneNow

/-- The samples counted so far, `old` being the device before a change of the LANE clock. -/
def laneKeep (old d : Device) : Device :=
  let n := old.laneNow
  let was := old.laneDiv
  let d := { d with clk := { d.clk with laneBase := n, laneTick := d.ticks } }
  if d.laneDiv = was then d else { d with clk := { d.clk with rateAt := n, rateWas := if d.clk.rateAt = n then d.clk.rateWas else was } }

/-- The samples counted so far are kept while `f` changes the LANE clock. -/
def laneRebase (f : Device → Device) (d : Device) : Device := laneKeep d (f d)

/-- Where LANE sample `t` lies in the count of the rate of now: samples before the last change of rate are counted back from it in
the samples of now (R90, R101). -/
def Device.lanePlace (d : Device) (t : Nat) : Int :=
  if d.clk.rateAt ≤ t then t
  else (d.clk.rateAt : Int) - (((d.clk.rateAt - t) * d.clk.rateWas / d.laneDiv : Nat) : Int)

/-- A LANE block begins at LANE sample `n` with number `b`. -/
def laneBlockFrom (n b : Nat) (d : Device) : Device :=
  { d with block := b, clk := { d.clk with laneBase := n, laneTick := d.ticks, blockFrom := n } }

/-- The LANE sample at which the block in progress ends, as far as the boundary that comes now can tell: its 1,024th, a few
samples of the tick apart; else, where the boundary comes later than a block lasts, now (log 113). -/
def Device.blockEnd (d : Device) : Nat :=
  if d.laneNow < d.clk.blockFrom + 1024 + 8 then d.clk.blockFrom + 1024 else d.laneNow

/-- Ticks in `n` microseconds, rounded down. -/
def ticksPerUs (n : Nat) : Nat := n * 24576 / 100

/-! ## Chains -/

/-- A chain whose settings in force are those of reset. -/
def ChanCtl.idle (k : Nat) : ChanCtl :=
  ⟨if k < 512 then 0x0A881800 else 0x00410001, 0, 0x4000, 0, 0, none, 0, 0, false, false, none⟩

/-- Chain `k`. -/
def Device.chn (d : Device) (k : Nat) : ChanCtl := tabGet d.chan (ChanCtl.idle k) k
/-- Replace chain `k`. -/
def Device.setChn (d : Device) (k : Nat) (c : ChanCtl) : Device := { d with chan := tabPut d.chan k c }

/-- Samples a chain holds. -/
def Device.sig (d : Device) (k : Nat) : ChanSig := tabGet d.chanSig ⟨[], [], [], [], []⟩ k
/-- Replace them. -/
def Device.setSig (d : Device) (k : Nat) (c : ChanSig) : Device := { d with chanSig := tabPut d.chanSig k c }
/-- Samples a receive converter's front holds. -/
def Device.rxs (d : Device) (n : Nat) : RxSig := tabGet d.rxSig ⟨[], [], [], [], []⟩ n
/-- Replace them. -/
def Device.setRxs (d : Device) (n : Nat) (c : RxSig) : Device := { d with rxSig := tabPut d.rxSig n c }

/-- The chain is a wide channel. -/
def isWide (k : Nat) : Bool := 512 ≤ k
/-- The chain is a DUC. -/
def isDuc (k : Nat) : Bool := k < 512 && 4 ≤ k % 8
/-- The number of a wide channel. -/
def wideOf (k : Nat) : Nat := (k - 512) / 8
/-- DDC[p][c]. -/
def ddc (p c : Nat) : Nat := 8 * p + c
/-- DUC[p][c]. -/
def duc (p c : Nat) : Nat := 8 * p + 4 + c
/-- WCHw. -/
def wch (w : Nat) : Nat := 512 + 8 * w

/-- The fields of a chain's configuration word, for both layouts (CH_CFG, WCH_CFG). -/
structure ChanCfg where
  en : Bool
  rate : Nat
  hb : Bool
  n : Nat
  r : Nat
  fir : Nat
  taps : Nat
  src : Nat
  td : Bool
deriving DecidableEq, Repr

/-- A configuration word read under its layout.  SRC of WCH8–WCH15 above 63, which the register table does not list and R171 does
not refuse, is taken as it stands: 64 to 71 an observation receiver, above that a converter that does not exist (log 142). -/
def chanCfg (k word : Nat) : ChanCfg :=
  if isWide k then
    ⟨bitsOf word 31 1 == 1, 0, bitsOf word 15 1 == 1, bitsOf word 21 2, bitsOf word 16 5, 0, bitsOf word 0 9,
      if wideOf k < 8 then 64 + wideOf k else bitsOf word 23 7, bitsOf word 30 1 == 1⟩
  else
    ⟨bitsOf word 31 1 == 1, bitsOf word 26 2, bitsOf word 25 1 == 1, bitsOf word 22 2, bitsOf word 17 5,
      bitsOf word 8 6, 0, k / 8, false⟩

/-- CIC order N (R163). -/
def ChanCfg.order (c : ChanCfg) : Nat := c.n + 3
/-- F_L / F_in: R, doubled by the half-band (R163, R175). -/
def ChanCfg.decim (c : ChanCfg) : Nat := c.r * (if c.hb then 2 else 1)

/-- Taps of ROM response `id` (R167). -/
def romTaps (id : Nat) : Nat :=
  let row := id % 16
  let cls := id / 16
  let pick := fun (a b c : Nat) => if cls = 0 then a else if cls = 1 then b else c
  match row with
  | 0 => 31
  | 2 => pick 89 103 117 | 4 => pick 89 103 117 | 6 => pick 89 103 117
  | 8 => pick 37 43 49
  | 9 => pick 89 103 117 | 11 => pick 89 103 117 | 13 => pick 89 103 117
  | 14 => pick 55 65 73
  | 15 => pick 145 169 191
  | _ => pick 45 53 59

/-- Sum of the response spans downstream of the channel input, in LANE samples (R163, R183).  A wide channel with R = 1
bypasses the CIC and the compensator (R175). -/
def chanSpan (k : Nat) (c : ChanCfg) : Nat :=
  let cic := if isWide k && c.r == 1 then 0 else c.order * (c.r - 1) + 8 * c.r
  let hb := if c.hb then 22 * c.r else 0
  if isWide k then cic + hb + (c.taps - 1) * c.decim
  else cic + hb + (romTaps c.fir - 1) * c.decim + 15 * c.decim

/-- Output samples in `n` LANE samples, rounded up (R168, R175). -/
def chanOutSamples (lp : Bool) (k : Nat) (c : ChanCfg) (n : Nat) : Nat :=
  if isWide k then (n + c.decim - 1) / c.decim
  else
    let den := if lp then 25 else 50
    (n * 2 ^ c.rate + den - 1) / den

/-- N_inv = ceil((T_a + T_resp) F_out) + 1, the disturbed interval given in LANE samples; `front` adds the ÷4 span (R183). -/
def invalidLen (lp : Bool) (k : Nat) (c : ChanCfg) (ta : Nat) (front : Bool) : Nat :=
  chanOutSamples lp k c (ta + chanSpan k c + (if front then 24 else 0)) + 1

/-- The index, in the frame, of the first output sample of a chain whose grid time is at or after `ahead` half LANE samples from LANE
sample `t` (R168): sample 0 lies at the frame's first LANE sample (log 113). -/
def Device.gridAt (d : Device) (k : Nat) (c : ChanCfg) (t : Nat) (ahead : Int) : Int :=
  let pos2 : Int := 2 * (d.lanePlace t - d.clk.blockFrom + 1024 * d.block) + ahead
  if isWide k then -((-pos2) / ((2 * c.decim : Nat) : Int))
  else -((-(pos2 * ((2 ^ c.rate * d.laneDiv : Nat) : Int))) / 480000)

/-- The first output sample of a chain whose grid time is at or after LANE sample `t` (R168, R183). -/
def Device.gridIndex (d : Device) (k : Nat) (c : ChanCfg) (t : Nat) : Int := d.gridAt k c t 0

/-- The group delays of stages 3 to 6 of R163 in half LANE samples: CIC, droop compensator, half-band, ROM FIR. -/
def ChanCfg.delay2 (c : ChanCfg) : Nat :=
  c.order * (c.r - 1) + 8 * c.r + (if c.hb then 22 * c.r else 0) + (romTaps c.fir - 1) * c.decim

/-- What R168 removes from the grid of a DDC, in half LANE samples: the group delays of the ÷4 stage and of stages 3 to 7 (R163, R174);
D_I and D_F are the delay that R170 gives.  A wide channel has no resampler that could remove a part of its sample, and R168 and R174
are of DDCs: its grid is that of its LANE samples (log 136). -/
def chanLag2 (k : Nat) (c : ChanCfg) : Nat := if isWide k then 0 else 24 + c.delay2 + 16 * c.decim

/-- What R191 has a DUC's samples enter ahead of their instant, in half LANE samples: the group delays of the stages of R163, the
resampler's being 8 of its input samples; `den` is the LANE samples in 2^rate of them. -/
def ducLead2 (c : ChanCfg) (den : Nat) : Nat := c.delay2 + 16 * den / 2 ^ c.rate

/-- Output samples of a chain from LANE sample `t` to now. -/
def Device.runElapsed (d : Device) (k : Nat) (c : ChanCfg) (t : Nat) : Nat :=
  (d.gridIndex k c d.laneNow - d.gridIndex k c t).toNat

/-- No receive samples flow: a sampler outage, or the gated interval of a sleep state (R112, R498). -/
def Device.rxHalted (d : Device) : Bool := d.clk.outage || d.asleep != 0

/-- A run of invalid samples begins at LANE sample `t`, or extends the one in progress to the later end (R183, R184); CAUSE is
the latest.  In a sampler outage the run in progress does not end (R112). -/
def chanInvalidAt (t k cause ta : Nat) (front : Bool) (d : Device) : Device :=
  if d.get (L.CH_STAT_STATE k) = 1 then
    let c := d.chn k
    let cfg := chanCfg k c.cfg
    let n := invalidLen d.lowPower k cfg ta front
    let before := d.gridIndex k cfg t - d.gridIndex k cfg c.runFrom
    let running := d.on (L.CH_STAT_SETTLING k) && (decide (before < c.runLen) || d.rxHalted)
    let len := if running then max c.runLen (before + n).toNat else n
    let d := d.when (!running && c.runLen != 0 && !isDuc k) fun d =>
      d.setSig k { d.sig k with runs := (d.sig k).runs ++ [(c.runFrom, c.runLen, d.get (L.CH_INVAL_CAUSE k))] }
    let c' := { c with runFrom := if running then c.runFrom else t, runLen := len }
    (((d.setChn k c').set (L.CH_STAT_SETTLING k) 1).set (L.CH_INVAL_CAUSE k) cause).set (L.CH_INVAL_COUNT k) (min len 65535)
  else d

/-- A run of invalid samples begins now. -/
def chanInvalid (k cause ta : Nat) (front : Bool) (d : Device) : Device := chanInvalidAt d.laneNow k cause ta front d

/-- The cause of the mark that a sampler outage or a gated interval in progress sets on output sample `g` of a receive chain (R112,
R183, R498): 2, or 0 where it sets none. -/
def Device.outageMark (d : Device) (k : Nat) (g : Int) : Nat :=
  if d.rxHalted && decide (d.gridIndex k (chanCfg k (d.chn k).cfg) d.clk.outageFrom ≤ g) then 2 else 0

/-- A DUC settles for T_resp after a change (R185). -/
def ducSettle (k cause : Nat) (d : Device) : Device :=
  let n := chanSpan k (chanCfg k (d.chn k).cfg)
  (((d.set (L.CH_STAT_SETTLING k) 1).set (L.CH_INVAL_CAUSE k) cause).set (L.CH_INVAL_COUNT k) (min n 65535)).setChn k
    { d.chn k with runFrom := d.laneNow, runLen := n }

/-- The receive converter a chain takes its samples from. -/
def Device.chanInput (d : Device) (k : Nat) : Nat := (chanCfg k (d.chn k).cfg).src

/-- Every receive chain fed by converter `n` is disturbed (R183): the DDCs of a path, and the wide channels tapping it. -/
def rxDisturb (n cause ta : Nat) (d : Device) : Device :=
  let d := d.when (n < 64) fun d => d.each 4 fun c => chanInvalid (ddc n c) cause ta true
  d.each 16 fun w d => if d.chanInput (wch w) = n then chanInvalid (wch w) cause ta true d else d

end Sys2Proof.Machine
end

