-- ==== Sys2Proof/Machine/Sig.lean ====
section
/-! DEFINITION. Samples and the arithmetic of the signal paths: complex integers, narrowing whose rounding the spec leaves open,
phasors, filters whose taps the spec gives by length, symmetry and gain only, and levels in dB (R143, R144, R160, R163–R170,
R179, R189, R193; log 116). -/
namespace Sys2Proof.Machine

/-- A complex sample or sum: I and Q. -/
abbrev Cx := Int × Int

/-- A stream of samples by index. -/
abbrev Sig := Int → Cx

/-- Zero. -/
def cx0 : Cx := (0, 0)
/-- Sum. -/
def cxAdd (a b : Cx) : Cx := (a.1 + b.1, a.2 + b.2)
/-- Difference. -/
def cxSub (a b : Cx) : Cx := (a.1 - b.1, a.2 - b.2)
/-- Product. -/
def cxMul (a b : Cx) : Cx := (a.1 * b.1 - a.2 * b.2, a.1 * b.2 + a.2 * b.1)
/-- Conjugate. -/
def cxConj (a : Cx) : Cx := (a.1, -a.2)
/-- A real multiple. -/
def cxScale (k : Int) (a : Cx) : Cx := (k * a.1, k * a.2)
/-- The sum of a list. -/
def cxSum (l : List Cx) : Cx := l.foldl cxAdd cx0
/-- I² + Q². -/
def cxNorm (a : Cx) : Nat := a.1.natAbs ^ 2 + a.2.natAbs ^ 2
/-- Both parts mapped. -/
def cxMap (f : Int → Int) (a : Cx) : Cx := (f a.1, f a.2)

/-- Saturation to 16 bits (R208, R346). -/
def sat16 (z : Int) : Int := max (-32768) (min 32767 z)
/-- The exact value before saturation lies outside 16 bits. -/
def beyond16 (z : Int) : Bool := z < -32768 || 32767 < z
/-- Saturation at ±32,767 (R169, R182, R193, R232). -/
def satFs (z : Int) : Int := max (-32767) (min 32767 z)
/-- Either part lies beyond ±32,767. -/
def beyondFs (a : Cx) : Bool := 32767 < a.1.natAbs || 32767 < a.2.natAbs

/-- A part narrowed by `den`, to the integer below or above: the spec leaves the rounding open (log 116). -/
def roundOpen (den : Nat) (x : Int) : Int :=
  if x % den = 0 then x / den else if Config.roundsUp den x then x / den + 1 else x / den
/-- Both parts narrowed. -/
def cxRound (den : Nat) (a : Cx) : Cx := cxMap (roundOpen den) a
/-- A part narrowed to the nearest integer, halves up. -/
def roundNear (den : Nat) (x : Int) : Int := (2 * x + den) / (2 * den)

/-- A part of a weight or coefficient (R207, R237): 0x8000 of a Q1.15 part is used as −32,767. -/
def unitPart (n : Nat) : Int := let v := signedOf 16 n; if v = -32768 then -32767 else v

/-- I at [15:0] and Q at [31:16] (R142, R210, R237). -/
def iqOf (w : Nat) : Cx := (signedOf 16 (bitsOf w 0 16), signedOf 16 (bitsOf w 16 16))

/-- A list without a nonzero sample is empty. -/
def quiet (l : List Cx) : List Cx := if l.all (· == cx0) then [] else l

/-- Samples from index `start` on. -/
structure Tab where
  start : Int
  data : Array Cx

/-- Those of a list. -/
def tabOf (start : Int) (l : List Cx) : Tab := ⟨start, l.toArray⟩

/-- Their stream; zero elsewhere. -/
def Tab.sig (t : Tab) : Sig := fun n => if n < t.start then cx0 else t.data.getD (n - t.start).toNat cx0

/-- Samples `lo` to `lo + n − 1` of a stream. -/
def sigList (f : Sig) (lo : Int) (n : Nat) : List Cx := (List.range n).map fun (k : Nat) => f (lo + (k : Int))

/-- A stream, some of whose samples have been worked out. -/
structure Memo where
  tab : Tab
  rest : Sig

/-- Samples `lo` to `lo + n − 1` of a stream, worked out once. -/
def memo (lo : Int) (n : Nat) (f : Sig) : Memo := ⟨tabOf lo (sigList f lo n), f⟩

/-- The stream: that of `rest`, read from the table where it is there. -/
def Memo.sig (m : Memo) : Sig := fun n =>
  if m.tab.start ≤ n && n < m.tab.start + m.tab.data.size then m.tab.data.getD (n - m.tab.start).toNat cx0 else m.rest n

/-- For a stream at one sample in `r` of a span of LANE samples: the span and `back` samples before it. -/
def memoAt (r back : Nat) (lo : Int) (len : Nat) (f : Sig) : Memo := memo (lo / r - back) (len / r + back + 2) f

/-- The last `n` samples of a list, none if all are zero. -/
def lastOf (n : Nat) (l : List Cx) : List Cx := quiet (l.drop (l.length - n))

/-! ## Compressed blocks (R345, R346) -/

/-- Bytes as one number, first byte highest. -/
def beNat (b : List Byte) : Nat := b.foldl (fun n x => n * 256 + x.toNat) 0

/-- The `w` bits from bit `off` of a bit string, most significant bit first (R345). -/
def beField (body : List Byte) (off w : Nat) : Nat :=
  let bytes := (body.drop (off / 8)).take ((off % 8 + w + 7) / 8)
  beNat bytes / 2 ^ (8 * bytes.length - off % 8 - w) % 2 ^ w

/-- One decompressed value (R346): m × 2^E, saturated. -/
def decompress (m : Int) (e : Nat) : Int := sat16 (m * (2 ^ e : Nat))

/-- Values 2 j and 2 j + 1 of block `b` of a payload with mantissa width code `mw`: I and Q, and how many saturated. -/
def blockValue (mw : Nat) (body : List Byte) (b j : Nat) : Int × Int × Nat :=
  let m := mw + 1
  let off := b * (24 * m + 4)
  let e := beField body off 4
  let i := signedOf m (beField body (off + 4 + 2 * j * m) m)
  let q := signedOf m (beField body (off + 4 + (2 * j + 1) * m) m)
  let excess := bit (beyond16 (i * (2 ^ e : Nat))) + bit (beyond16 (q * (2 ^ e : Nat)))
  (decompress i e, decompress q e, excess)

/-! ## Phasors -/

/-- 2π in 2^-60. -/
def twoPi60 : Nat := 7244019458077122842

/-- Terms of the series of cosine or sine: `t` is the term in hand, x² in 2^-60, the next divisor. -/
def trigSeries (x2 : Int) : Nat → Int → Nat → Int
  | 0, _, _ => 0
  | k + 1, t, n => t + trigSeries x2 k (-(t * x2 / ((n + 1) * (n + 2) * 2 ^ 60 : Nat))) (n + 2)

/-- e^(j 2π t / 2^48) in 2^-40, to within the last bits. -/
def turnExact (t : Int) : Cx :=
  let u := (t % 2 ^ 48).toNat
  let x : Int := ((u % 2 ^ 46 * twoPi60 / 2 ^ 48 : Nat) : Int)
  let x2 := x * x / 2 ^ 60
  let c := trigSeries x2 14 (2 ^ 60) 0 / 2 ^ 20
  let s := trigSeries x2 14 x 1 / 2 ^ 20
  match u / 2 ^ 46 with
  | 0 => (c, s)
  | 1 => (-s, c)
  | 2 => (-c, -s)
  | _ => (s, -c)

/-- The phasor an NCO multiplies with, in 2^-30: the exact one, each part off by what the spurs of R186 allow. -/
def ncoPhasor (t : Int) : Cx :=
  let e := turnExact t
  let off := fun (k : Nat) => ((Config.spur k (t % 2 ^ 48).toNat % 2048 : Nat) : Int) - 1024
  (e.1 / 2 ^ 10 + off 0, e.2 / 2 ^ 10 + off 1)

/-! ## Filters

Taps are in 2^-24 and have unity gain at DC.  The spec gives each filter its length and symmetry, and bounds for its response;
the taps themselves are free (log 116). -/

/-- `a` and its mirror about one middle tap that makes the sum 2^24. -/
def mirrorTaps (a : List Int) : List Int := a ++ [2 ^ 24 - 2 * a.foldl (· + ·) 0] ++ a.reverse

/-- An odd number of taps, linear phase (R144, R160, R163, R167). -/
def linearTaps (kind n : Nat) : List Int := mirrorTaps ((List.range ((n - 1) / 2)).map (Config.tap kind))

/-- The response of a half-band at `t` in 2^-48 of its output rate, in 2^-64, from its taps at odd distances, outermost first. -/
def halfBandAt (side : List Int) (t : Int) : Int :=
  (side.reverse.zip (List.range side.length)).foldl
    (fun y x => y + 2 * x.1 * (turnExact (t * (2 * x.2 + 1 : Nat))).1) (2 ^ 63)

/-- Stopband edge of an interpolator in 2^-48 of its output rate, and outer taps that meet its bounds: the mirror of the passbands
±0.40, ±0.20 and ±0.10 of the input rate (R144). -/
def halfBandDesign (kind : Nat) : Option (Int × List Int) :=
  match kind with
  | 2 => some (3 * 2 ^ 48 / 10, [-1043, 3426, -8638, 18481, -35435, 62733, -104562, 166535, -256880, 389522, -592842, 939946, -1700437])
  | 3 => some (4 * 2 ^ 48 / 10, [-3054, 28044, -134402, 455458, -1319016])
  | 4 => some (45 * 2 ^ 48 / 100, [111290, -856237])
  | _ => none

/-- Images at least 90 dB down from the stopband edge to half the output rate, at 65 frequencies: 10^-4.5 is 2^64 in 583337 × 10^9.
A half-band that does so is flat within the ripple of R144 over its passband, its response there being 1 less the stopband's. -/
def halfBandMeets (edge : Int) (side : List Int) : Bool :=
  (List.range 65).all fun (k : Nat) => (halfBandAt side (edge + (2 ^ 47 - edge) * k / 64)).natAbs ≤ 583337000000000

/-- The taps of a half-band of `n` = 4 k + 3 taps at odd distances, outermost first: free, but for the gain, and where the spec bounds
the response none that break the bounds (R144). -/
def halfBandSide (kind n : Nat) : List Int :=
  let closed := fun (l : List Int) => l ++ [2 ^ 22 - l.foldl (· + ·) 0]
  let free := closed ((List.range ((n + 1) / 4 - 1)).map (Config.tap kind))
  match halfBandDesign kind with
  | none => free
  | some (edge, l) => if halfBandMeets edge free then free else closed l

/-- A half-band of `n` = 4 k + 3 taps: half at the middle, nothing at even distances from it (R144, R166, R189). -/
def halfBandTaps (kind n : Nat) : List Int :=
  let side := halfBandSide kind n
  let arm := (side.flatMap fun a => [a, 0]).dropLast
  arm ++ [2 ^ 23] ++ arm.reverse

/-- The 16 taps of a fractional resampler at a fraction in 2^-32 of a sample (R163, R243). -/
def resampleTaps (frac : Nat) : List Int :=
  let a := (List.range 15).map fun k => Config.tap (frac + 4096) k
  a ++ [2 ^ 24 - a.foldl (· + ·) 0]

/-- The convolution of two lists of taps. -/
def convTaps (a b : List Int) : List Int :=
  (List.range (a.length + b.length - 1)).map fun n =>
    (List.range (n + 1)).foldl (fun t k => t + a.getD k 0 * b.getD (n - k) 0) 0

/-- The response of a CIC of order `n` and rate change `r`: gain r^n at DC (R163). -/
def cicTaps (r : Nat) : Nat → List Int
  | 0 => [1]
  | n + 1 => convTaps (List.replicate r 1) (cicTaps r n)

/-- Sample `n` of a filtered stream. -/
def firAt (taps : List Int) (f : Sig) (n : Int) : Cx :=
  (taps.zip (List.range taps.length)).foldl (fun t x => cxAdd t (cxScale x.1 (f (n - x.2)))) cx0

/-- A stream with `r − 1` zeros after each sample. -/
def stuff (r : Nat) (f : Sig) : Sig := fun n => if n % r = 0 then f (n / r) else cx0

/-- An interpolator by 2 of unity gain (R144, R163, R189). -/
def interp2 (taps : List Int) (f : Sig) : Sig := fun n => cxScale 2 (firAt taps (stuff 2 f) n)

/-- A decimator by 2. -/
def decim2 (taps : List Int) (f : Sig) : Sig := fun n => firAt taps f (2 * n)

/-- Kinds of filters, for their taps. -/
def kindFront : Nat := 0
def kindHalfBand : Nat := 1
def kindHb1 : Nat := 2
def kindHb2 : Nat := 3
def kindHb3 : Nat := 4
/-- The droop compensator of (N, R) (R166). -/
def kindDroop (n r : Nat) : Nat := 16 + 32 * n + r
/-- ROM response `id` (R167). -/
def kindRom (id : Nat) : Nat := 1024 + id

/-- The 23-tap half-band of R166 and R189. -/
def hb23 : List Int := halfBandTaps kindHalfBand 23

/-- Bits of the shift of a CIC: ceil(N log2 R) (R166). -/
def cicShift (n r : Nat) : Nat := ((List.range 21).find? fun s => r ^ n ≤ 2 ^ s).getD 20

/-- The 16-bit correction multiplier, 2^15 being unity (R166; its format is log 116). -/
def cicCorr (n r : Nat) : Nat := (2 * 2 ^ (15 + cicShift n r) + r ^ n) / (2 * r ^ n)

/-- The gain of a CIC scaled to unity: the shift, then the multiplier, whose 15 fraction bits stay (R166). -/
def cicScale (n r : Nat) (x : Cx) : Cx := cxMap (fun v => v / 2 ^ cicShift n r * cicCorr n r) x

/-! ## Square roots and levels -/

/-- The integer square root of `n`, `k` bits of it below those of `r`. -/
def isqrtFrom (n : Nat) : Nat → Nat → Nat
  | 0, r => r
  | k + 1, r => let c := r + 2 ^ k; isqrtFrom n k (if c * c ≤ n then c else r)

/-- The integer square root. -/
def isqrt (n : Nat) : Nat := isqrtFrom n (n.log2 / 2 + 1) 0

/-- 10 log10 (a / b) is at least `r` / 64 dB: (a/b)^640 ≥ 10^r. -/
def dbAtLeast (a b : Nat) (r : Int) : Bool :=
  if 0 ≤ r then b ^ 640 * 10 ^ r.toNat ≤ a ^ 640 else b ^ 640 ≤ a ^ 640 * 10 ^ (-r).toNat

/-- The greatest `r` below `lo + 2^k` that a test passes, `lo` passing it. -/
def greatest (p : Int → Bool) : Nat → Int → Int
  | 0, lo => lo
  | k + 1, lo => greatest p k (if p (lo + 2 ^ k) then lo + 2 ^ k else lo)

/-- The power ratio of `r` / `u` dB in 2^-80, rounded down: the greatest x with x^(10 u) ≤ 2^(800 u) 10^r. -/
def dbPower (u : Nat) (r : Int) : Nat :=
  let small := fun (x : Int) => let p := x.toNat ^ (10 * u)
    if 0 ≤ r then p ≤ 2 ^ (800 * u) * 10 ^ r.toNat else p * 10 ^ (-r).toNat ≤ 2 ^ (800 * u)
  (greatest small (82 + r.toNat / (3 * u)) 0).toNat

/-- A power ratio in 1/64 dB, never below −128 dB (R179, R302); the last unit is open (log 116). -/
def levelDb (a b : Nat) : Int :=
  if !dbAtLeast a b (-8191) then -8192
  else
    let r := greatest (dbAtLeast a b) 14 (-8191)
    if Config.roundsUp 64 r then r + 1 else r

/-- Mean power of samples in 1/64 dB relative to magnitude 32,767 (R160, R179, R180). -/
def meanDb (l : List Cx) : Int := levelDb ((l.map cxNorm).foldl (· + ·) 0) (l.length * 32767 ^ 2)

/-- The angle of a nonzero value in 2^-16 turn, rounded down: the greatest whose phasor it has not fallen behind. -/
def angle16 (a : Cx) : Nat :=
  let half : Nat := if a.2 < 0 || (a.2 == 0 && a.1 < 0) then 32768 else 0
  let b : Cx := if half = 0 then a else (-a.1, -a.2)
  let ahead := fun (r : Int) => let p := turnExact (r * 2 ^ 32); 0 ≤ p.1 * b.2 - p.2 * b.1
  half + (greatest ahead 15 0).toNat % 32768

end Sys2Proof.Machine
end

