-- ==== Sys2Proof/Machine/Check.lean ====
section
/-! DEFINITION. The sums of the beamformer on one subcarrier, and the checksums over them (R208, R219, R220). -/
namespace Sys2Proof.Machine

/-! ## Sums (R208)

`w l e` is the weight of layer `l` and element `e`, `x` the layer inputs, `y` the element inputs, `es` the elements not
dropped. -/

/-- The downlink rod sum A_e. -/
def dlRod (nl : Nat) (w : Nat → Nat → Cx) (x : Nat → Cx) (e : Nat) : Cx :=
  cxSum ((List.range nl).map fun l => cxMul (w l e) (x l))

/-- The uplink rod sum A_e. -/
def ulRod (nl : Nat) (w : Nat → Nat → Cx) (y : Nat → Cx) (e : Nat) : Cx :=
  cxSum ((List.range nl).map fun l => cxMul (w l e) (y e))

/-- The layer tree's Z_l. -/
def ulTree (es : List Nat) (w : Nat → Nat → Cx) (y : Nat → Cx) (l : Nat) : Cx := cxSum (es.map fun e => cxMul (w l e) (y e))

/-- round(A × 2^(OSH − 15)) of R208. -/
def roundOsh (osh : Nat) (a : Int) : Int := (a + (2 ^ (14 - osh) : Nat)) / (2 ^ (15 - osh) : Nat)

/-- An output of R208 before any ramp gain, and whether it saturated. -/
def oshOut (osh : Nat) (a : Cx) : Cx × Bool :=
  let z := cxMap (roundOsh osh) a
  (cxMap sat16 z, beyond16 z.1 || beyond16 z.2)

/-! ## Checksums (R219) -/

/-- c_e = 2 e − 63. -/
def idxOf (e : Nat) : Int := 2 * (e : Int) - 63

/-- Σ_e over the elements not dropped. -/
def plainSum (es : List Nat) (f : Nat → Cx) : Cx := cxSum (es.map f)

/-- Σ_e c_e × over the elements not dropped. -/
def indexSum (es : List Nat) (f : Nat → Cx) : Cx := cxSum (es.map fun e => cxScale (idxOf e) (f e))

/-- C_S and C_W of the downlink: Σ_l S_l x_l and Σ_l W_l x_l. -/
def dlChecks (es : List Nat) (nl : Nat) (w : Nat → Nat → Cx) (x : Nat → Cx) : Cx × Cx :=
  (cxSum ((List.range nl).map fun l => cxMul (plainSum es (w l)) (x l)),
    cxSum ((List.range nl).map fun l => cxMul (indexSum es (w l)) (x l)))

/-- C_S and C_W of the uplink: Σ_e (Σ_l w_le) y'_e and Σ_e c_e (Σ_l w_le) y'_e. -/
def ulChecks (es : List Nat) (nl : Nat) (w : Nat → Nat → Cx) (y : Nat → Cx) : Cx × Cx :=
  let f := fun e => cxMul (cxSum ((List.range nl).map fun l => w l e)) (y e)
  (plainSum es f, indexSum es f)

/-- R_S and R_W of the downlink, for the rod sums `a` and the checks `c` as the units formed them. -/
def dlResidues (es : List Nat) (a : Nat → Cx) (c : Cx × Cx) : Cx × Cx :=
  (cxSub (plainSum es a) c.1, cxSub (indexSum es a) c.2)

/-- R_S and R_W of the uplink: R_S is over the layer tree's outputs `z`. -/
def ulResidues (es : List Nat) (nl : Nat) (a z : Nat → Cx) (c : Cx × Cx) : Cx × Cx :=
  (cxSub (cxSum ((List.range nl).map z)) c.1, cxSub (indexSum es a) c.2)

/-! ## Errors -/

/-- What `unit` adds to its result by its errors on a subcarrier. -/
def errOf (errs : List RodErr) (unit : Nat) : Cx := cxSum ((errs.filter fun r => r.unit == unit).map fun r => (r.re, r.im))

/-- What the errors add to Z_l: those of the rods' products of layer `l`, and the layer tree's. -/
def errLayer (errs : List RodErr) (es : List Nat) (l : Nat) : Cx :=
  cxSum ((errs.filter fun r => r.layer == l && (es.contains r.unit || r.unit == 64)).map fun r => (r.re, r.im))

/-- The units that form C_S and C_W add their errors. -/
def checksErr (errs : List RodErr) (c : Cx × Cx) : Cx × Cx := (cxAdd c.1 (errOf errs 65), cxAdd c.2 (errOf errs 66))

/-! ## Results (R220) -/

/-- The result of a check. -/
inductive CheckResult where
  | pass
  | located (e : Nat)
  | unlocated
deriving DecidableEq, Repr

/-- PASS, LOCATED where R_W is one c_e times R_S in I and in Q, else UNLOCATED. -/
def classify (r : Cx × Cx) : CheckResult :=
  if r.1 = cx0 then (if r.2 = cx0 then .pass else .unlocated)
  else
    match (List.range 64).find? fun e => r.2 == cxScale (idxOf e) r.1 with
    | some e => .located e
    | none => .unlocated

end Sys2Proof.Machine
end

