-- ==== Sys2Proof/Machine/Service.lean ====
section
/-! DEFINITION. What the receive, transmit, beam, path and calibration chapters share: captures ended
early, the mute ramp, element ramps, front-end levels, service flags, leaving service and failed runs. -/
namespace Sys2Proof.Machine

/-! ## Records of the block -/

/-- A PATH event (CLASS 11, REG 0, LANE). -/
def Device.pathEvent (d : Device) (l : Nat → Loc) (p sev : Nat) (items : List (Nat × Nat)) : Device :=
  d.event (l p) isleLANE 11 p 0 sev items

/-- A CAL event (CLASS 20, REG 0, LANE). -/
def Device.calEvent (d : Device) (l : Loc) (p sev : Nat) (items : List (Nat × Nat)) : Device :=
  d.event l isleLANE 20 p 0 sev items

/-! ## Hidden state by instance -/

/-- A receive converter that is off. -/
def RxCtl.idle : RxCtl := ⟨none, 1, none, 0, 0, [], 0, none, none, [], false, [], none, [], []⟩
/-- A transmit converter that is off: the path machine's mute request stands (R257). -/
def TxCtl.idle : TxCtl := ⟨0, 0, none, none, [], true, 0, [], [], [], none, 0, 0, false, false, some 0, none⟩
/-- A capture that has taken nothing. -/
def CapTake.idle : CapTake := ⟨0, none, none, 0, 0, [], [], [], [], false, false, 0⟩
/-- An observation receiver with no capture. -/
def CapCtl.idle : CapCtl := ⟨[], none, false, [], 7, false, 0, 0, 0, CapTake.idle⟩
/-- A path machine that is off, with the reset front-end programs. -/
def PathCtl.idle : PathCtl :=
  ⟨0xFE80004D, 0xFD000180, 0xFC66021A, none, none, none, none, none, false, false, 0, false, false, false, false, false, false,
    0, none, none, none, 0, 0, none⟩

/-- The Damper on a path that has measured nothing and holds nothing. -/
def DmpCtl.idle : DmpCtl := ⟨0, [], 0, 0, [], [], [], [], 0, []⟩

/-- Receive converter `n`. -/
def Device.rxc (d : Device) (n : Nat) : RxCtl := tabGet d.rx RxCtl.idle n
/-- Transmit converter `p`. -/
def Device.txc (d : Device) (p : Nat) : TxCtl := tabGet d.tx TxCtl.idle p
/-- Captures of OBS `k`. -/
def Device.capc (d : Device) (k : Nat) : CapCtl := tabGet d.cap CapCtl.idle k
/-- Path machine `p`. -/
def Device.pathc (d : Device) (p : Nat) : PathCtl := tabGet d.paths PathCtl.idle p
/-- The Damper on path `p`. -/
def Device.dmpc (d : Device) (p : Nat) : DmpCtl := tabGet d.dmp DmpCtl.idle p
/-- Replace receive converter `n`. -/
def Device.setRx (d : Device) (n : Nat) (c : RxCtl) : Device := { d with rx := tabPut d.rx n c }
/-- Replace transmit converter `p`. -/
def Device.setTx (d : Device) (p : Nat) (c : TxCtl) : Device := { d with tx := tabPut d.tx p c }
/-- Replace the captures of OBS `k`. -/
def Device.setCap (d : Device) (k : Nat) (c : CapCtl) : Device := { d with cap := tabPut d.cap k c }
/-- Replace path machine `p`. -/
def Device.setPath (d : Device) (p : Nat) (c : PathCtl) : Device := { d with paths := tabPut d.paths p c }

/-- Replace the Damper on path `p`. -/
def Device.setDmp (d : Device) (p : Nat) (c : DmpCtl) : Device := { d with dmp := tabPut d.dmp p c }

/-- State of receive converter `n` (R133). -/
def Device.rxState (d : Device) (n : Nat) : Nat := d.get (L.RXADC_STAT_STATE n)
/-- State of transmit converter `p` (R152). -/
def Device.txState (d : Device) (p : Nat) : Nat := d.get (L.TXDAC_STAT_STATE p)
/-- State of path machine `p` (R257). -/
def Device.pathState (d : Device) (p : Nat) : Nat := d.get (L.PATH_STAT_STATE p)

/-! ## Captures -/

/-- `len` LANE samples of VALID = 0 follow a zone (0) or switch (1) change of converter `n`: SETTLING, and the runs of the chains it
feeds (R117, R135, R183). -/
def rxSettle (n len what : Nat) (d : Device) : Device :=
  let c := d.rxc n
  let s := d.rxs n
  let t := d.laneNow
  let d := (d.setRxs n { s with gaps := s.gaps ++ [(t, t + len)] }).setRx n { c with settles := c.settles ++ [(t + len, what)] }
  rxDisturb n 2 len (d.set (L.RXADC_STAT_SETTLING n) 1)

/-- Settling runs of converter `n` are over: SETTLING falls with the last of them (R117, R135). -/
def rxSettlesKeep (n : Nat) (rest : List (Nat × Nat)) (d : Device) : Device :=
  let d := d.setRx n { d.rxc n with settles := rest }
  if rest.isEmpty then d.set (L.RXADC_STAT_SETTLING n) 0 else d

/-- Move OBS `k`'s switch to `sel` (R135): a run of VALID = 0 follows, unless it already stands there. -/
def obsMove (k sel : Nat) (d : Device) : Device :=
  if sel = d.get (L.RXADC_OBS_SEL_ACTIVE k) then d.set (L.RXADC_OBS_SEL_PEND k) 0
  else rxSettle (64 + k) 384 1 ((d.set (L.RXADC_OBS_SEL_ACTIVE k) sel).set (L.RXADC_OBS_SEL_PEND k) 0)

/-- The OBS is released at a capture's end: a held selection moves the switch (R135). -/
def obsRelease (k : Nat) (d : Device) : Device :=
  d.when (d.on (L.RXADC_OBS_SEL_PEND k)) (obsMove k (d.get (L.RXADC_OBS_SEL_SEL k)))

/-- LANE samples of a capture: 16,384 (R242), or 4,096 of a mismatch measurement (R279). -/
def CapKind.len : CapKind → Nat
  | .mismatch => 4096
  | _ => 16384

/-- The capture in progress on OBS `k` ends with a status (R242, R245); its results are still computed. -/
def capStop (k status : Nat) (d : Device) : Device :=
  let c := d.capc k
  match c.running with
  | none => d
  | some r =>
    let stop := match c.take.n0 with
      | some n => min d.laneNow (n + r.kind.len)
      | none => d.laneNow
    obsRelease k (d.setCap k { c with
      running := none, done := c.done ++ [⟨r, status, c.bank, c.map, { c.take with stop := some stop }⟩] })

/-- A measurement step of a calibration run holds the OBS (R291). -/
def CapKind.isCal : CapKind → Bool
  | .cal => true
  | .bgCal => true
  | _ => false

/-- Captures of path `p` end MUTED when its gain falls below 1 (R242); a calibration step is no such capture. -/
def capMuted (p : Nat) (d : Device) : Device :=
  match (d.capc (p / 8)).running with
  | some r => if r.path = p && !r.kind.isCal then capStop (p / 8) 3 d else d
  | none => d

/-! ## The mute ramp of a transmit converter -/

/-- Some mute request stands (R150). -/
def Device.txMuteWanted (d : Device) (p : Nat) : Bool :=
  d.on (L.TXDAC_MUTE_MUTE p) || (d.txc p).pathMute || d.on (L.TXDAC_STAT_SETTLING p)
    || d.get (L.TXDAC_STAT_MODE p) == 0 || d.txState p != 3

/-- The length of a mute ramp of path `p` in LANE samples: 2^RAMP, codes 9–15 as 8 (R150). -/
def Device.rampLen (d : Device) (p : Nat) : Nat := 2 ^ min 8 (d.get (L.TXDAC_CFG_RAMP p))

/-- The position of a ramp at LANE sample `t`: 0 where g = 0, `len` where g = 1 (R150). -/
def MuteRamp.posAt (r : MuteRamp) (t : Nat) : Nat :=
  if r.up then min r.len (r.pos + (t - r.start)) else r.pos - (t - r.start)

/-- The ramp has reached its end at LANE sample `t`. -/
def MuteRamp.ended (r : MuteRamp) (t : Nat) : Bool := if r.up then r.posAt t == r.len else r.posAt t == 0

/-- The ramp that follows now in the given direction: from the present position of one in progress, with the same slope, else
over the whole length from the gain that stands (R150, R151). -/
def Device.rampTo (d : Device) (p : Nat) (up : Bool) : MuteRamp :=
  match (d.txc p).ramp with
  | some r => ⟨up, d.laneNow, r.posAt d.laneNow, r.len⟩
  | none => ⟨up, d.laneNow, if up then 0 else d.rampLen p, d.rampLen p⟩

/-- A ramp follows the one in progress, which the block keeps (R151). -/
def TxCtl.follow (c : TxCtl) (next : Option MuteRamp) : TxCtl := { c with ramp := next, was := c.was ++ c.ramp.toList }

/-- The run of g = 0 ends; where it is known to have passed its 64th sample it held GAP windows to its end (R156). -/
def gapClose (p : Nat) (d : Device) : Device :=
  let c := d.txc p
  match c.zeroFrom with
  | some z => d.setTx p { c with zeroFrom := none, lastGap := if d.samplesSince z 63 then some d.ticks else c.lastGap }
  | none => d

/-- Start, reverse or leave the ramp as the standing requests say (R150, R151).  A ramp up waits for a swap. -/
def txMuteUpdate (p : Nat) (d : Device) : Device :=
  let c := d.txc p
  let falling := match c.ramp with
    | some r => !r.up
    | none => false
  if d.txMuteWanted p then
    if d.on (L.TXDAC_STAT_MUTED p) || falling then d
    else capMuted p ((d.setTx p (c.follow (some (d.rampTo p false)))).set (L.TXDAC_STAT_RAMPING p) 1)
  else if c.swap.isSome then d
  else if d.on (L.TXDAC_STAT_MUTED p) || falling then
    let r := d.rampTo p true
    let d := gapClose p d
    ((d.setTx p ((d.txc p).follow (some r))).set (L.TXDAC_STAT_RAMPING p) 1).set (L.TXDAC_STAT_MUTED p) 0
  else d

/-- The path machine's mute request stands or is withdrawn (R257). -/
def setPathMute (p : Nat) (b : Bool) (d : Device) : Device :=
  txMuteUpdate p (d.setTx p { d.txc p with pathMute := b })

/-- The gain of path `p` is 1: no ramp runs and it is not muted. -/
def Device.gainOne (d : Device) (p : Nat) : Bool :=
  !d.on (L.TXDAC_STAT_MUTED p) && (d.txc p).ramp.isNone

/-! ## Element ramps -/

/-- The carrier runs transforms in GRID (OF_STAT.STATE = RUN). -/
def Device.gridRuns (d : Device) (i : Nat) : Bool := d.get (L.OF_STAT_STATE i) == 1

/-- The carriers of a direction that run, lowest first. -/
def Device.runningCarriers (d : Device) (dir : Nat) : List Nat :=
  (List.range 4).filter fun c => d.gridRuns (4 * dir + c)

/-- r_e of an element of a direction on a carrier, in 1/4,096 (R226). -/
def Device.gain (d : Device) (dir e c : Nat) : Nat := tabGet d.gains 4096 ((64 * dir + e) * 4 + c)

/-- BM_ERAMP.GAIN shows the lowest-numbered enabled carrier (C0 while none is). -/
def rampShow (dir e : Nat) (d : Device) : Device :=
  d.set (L.BM_ERAMP_GAIN dir e) (d.gain dir e ((d.runningCarriers dir).headD 0))

/-- The gain of every carrier at the target: the ramp ends (R226). -/
def rampFinish (dir e target : Nat) (d : Device) : Device :=
  let g := if target = 1 then 4096 else 0
  let d := { d with
    gains := (List.range 4).foldl (fun t c => tabPut t ((64 * dir + e) * 4 + c) g) d.gains,
    ramps := tabDel d.ramps (64 * dir + e) }
  rampShow dir e ((d.set (L.BM_ERAMP_STATE dir e) target).set (L.BM_ERAMP_TARGET dir e) target)

/-- A ramp starts from the gain in force (R226).  With LEN = 0, or with no carrier running whose symbols could carry it
(log 11), it steps at once. -/
def rampStart (dir e target len : Nat) (d : Device) : Device :=
  let d := (d.set (L.BM_ERAMP_TARGET dir e) target).set (L.BM_ERAMP_LEN dir e) len
  let cs := d.runningCarriers dir
  if len = 0 || cs.isEmpty then rampFinish dir e target d
  else
    let legs := cs.map fun c => (⟨c, none, d.gain dir e c, 0⟩ : RampLeg)
    ({ d with ramps := tabPut d.ramps (64 * dir + e) ⟨target, len, legs⟩ }).set (L.BM_ERAMP_STATE dir e) 2

/-- round(4,096 × (i + 1) / (n + 1)) of R54 and R226. -/
def rampWeight (i n : Nat) : Nat := (8192 * (i + 1) + (n + 1)) / (2 * (n + 1))

/-- The gain in the `i`-th symbol of a ramp over `len` symbols (R226).  From a gain between 0 and 4,096 the part of the way is
rounded to the nearest unit: the spec names no rounding there (log 142). -/
def rampGain (g0 target len i : Nat) : Nat :=
  let gt := if target = 1 then 4096 else 0
  if len ≤ i then gt
  else
    let a := rampWeight i len
    if g0 ≤ gt then g0 + ((gt - g0) * a + 2048) / 4096 else g0 - ((g0 - gt) * a + 2047) / 4096

/-- Both ramps of an element read the given state. -/
def Device.rampsBoth (d : Device) (p st : Nat) : Bool :=
  d.get (L.BM_ERAMP_STATE 0 p) == st && d.get (L.BM_ERAMP_STATE 1 p) == st

/-! ## Front-end lines -/

/-- The three front-end levels. -/
def setFe (p pa tr lna : Nat) (d : Device) : Device :=
  ((d.set (L.PATH_STAT_PA p) pa).set (L.PATH_STAT_TR p) tr).set (L.PATH_STAT_LNA p) lna

/-- The rest level of FE_LNA: high while RXS = 1, low during a bypass (R263, R267). -/
def Device.lnaRest (d : Device) (p : Nat) : Nat :=
  bit (d.on (L.PATH_STAT_RXS p) && !d.on (L.PATH_STAT_LNA_BYP p))

/-- All lines at rest (R263). -/
def feRest (p : Nat) (d : Device) : Device := setFe p 0 0 (d.lnaRest p) d

/-- A port with no input accepted and nothing requested. -/
def CoexCtl.idle : CoexCtl := ⟨0, none, false, [], none⟩
/-- Coexistence port `k`. -/
def Device.coexc (d : Device) (k : Nat) : CoexCtl := tabGet d.coex CoexCtl.idle k
/-- Replace port `k`. -/
def Device.setCoex (d : Device) (k : Nat) (c : CoexCtl) : Device := { d with coex := tabPut d.coex k c }

/-- The port gates the path (R273). -/
def Device.gated (d : Device) (k p : Nat) : Bool := bitsOf (d.get (L.PATH_CFG_COEX_MASK p)) k 1 == 1

/-- A level of COEX_STAT.IN: 3 REQ, 2 PRIO, 1 GRANT, 0 ACTIVE. -/
def Device.coexIn (d : Device) (k b : Nat) : Bool := bitsOf (d.get (L.COEX_STAT_IN k)) b 1 == 1

/-- A level of COEX_STAT.IN set. -/
def coexSet (k b : Nat) (v : Bool) (d : Device) : Device :=
  d.set (L.COEX_STAT_IN k) (putBits (d.get (L.COEX_STAT_IN k)) b 1 (bit v))

/-- The path is in BURST and its last FE_PA OFF edge is still to come (R275). -/
def Device.onTheAir (d : Device) (p : Nat) : Bool :=
  d.pathState p == 3 && !((d.pathc p).offRun != 0 && !d.on (L.PATH_STAT_PA p))

/-- The output levels of a port: REQ, PRIO and ACTIVE of a MASTER (R274), GRANT of a SLAVE (R275). -/
def coexOut (k : Nat) (d : Device) : Device :=
  let role := d.get (L.COEX_CFG_ROLE k)
  let req := !(d.coexc k).reqs.isEmpty
  if role = 1 then
    let active := (List.range 64).any fun p => d.gated k p && d.on (L.PATH_STAT_PA p)
    coexSet k 0 active (coexSet k 2 (req && d.on (L.COEX_CFG_PRIO k)) (coexSet k 3 req d))
  else if role = 2 then
    let busy := (List.range 64).any fun p => d.gated k p && d.onTheAir p
    coexSet k 1 (d.coexIn k 3 && (d.coexIn k 1 || !busy)) d
  else d

/-- A path of the gated set sends burst `key`, or will: where its start is still to come, a path in service that has not checked
it counts too (R274). -/
def Device.coexOpen (d : Device) (k key : Nat) (toCome : Bool) : Bool :=
  (List.range 64).any fun p =>
    let q := d.pathc p
    let st := d.pathState p
    d.gated k p && (q.cur == some key || q.nxt == some key || (q.offRun != 0 && q.last == some key) ||
      (toCome && d.on (L.PATH_STAT_TXS p) && (st == 2 || st == 3 || (st == 1 && d.get (L.PATH_STAT_STEP p) == 4))
        && q.last != some key))

/-- REQ stands for the bursts that are still open (R274). -/
def coexKeep (toCome : Nat → Bool) (k : Nat) (d : Device) : Device :=
  let c := d.coexc k
  coexOut k (d.setCoex k { c with reqs := c.reqs.filter fun key => d.coexOpen k key (toCome key) })

/-- The outputs of every port after a front-end edge. -/
def coexOutAll (d : Device) : Device := d.each 4 coexOut

/-! ## Leaving service -/

/-- The path is OUT: flags clear, lines low, the mute request stands (R257, R258, R259). -/
def pathEnterOut (p : Nat) (d : Device) : Device :=
  let c := d.pathc p
  let d := d.setPath p { c with
    cur := none, nxt := none, sending := false, sendNxt := false, offRun := 0,
    offs := if d.pathState p = 3 then c.offs + 1 else c.offs, fromReturn := false, heldReturn := false, outWait := false, returning := false, outageReturn := false }
  let d := (((d.set (L.PATH_STAT_STATE p) 5).set (L.PATH_STAT_STEP p) 0).set (L.PATH_STAT_RXS p) 0).set (L.PATH_STAT_TXS p) 0
  coexOutAll (setPathMute p true (setFe p 0 0 0 (d.set (L.PATH_STAT_LNA_BYP p) 0)))

/-- RETURN ends in OUT: RFAIL names the cause (R272). -/
def pathReturnFail (p cause : Nat) (d : Device) : Device :=
  let d := d.set (L.PATH_WHY_RFAIL p) cause
  let d := pathEnterOut p (rampStart 0 p 0 0 (rampStart 1 p 0 0 d))
  d.pathEvent L.PATH_EVENT_RET_FAIL p 5 [(cause, 3)]

/-! ## Calibration runs that end badly -/

/-- The run was asked for by RETURN: it still waits for it, or has gone on without it (R271, R272). -/
def CalRun.ofReturn (r : CalRun) : Bool := r.origin == 1 || r.origin == 3

/-- The receivers of a run (R290, R298). -/
def Device.calReceivers (d : Device) (r : CalRun) : List Nat :=
  match r.kind with
  | 1 => [r.path]
  | 2 => [r.path]
  | 3 => [64 + r.path / 8]
  | 4 => [64 + r.path / 8]
  | 6 => [64]
  | _ => if r.ofReturn then [r.path, d.get L.CAL_ALIGN_REF_PATH]
    else (List.range 64).filter fun p => d.on (L.PATH_STAT_RXS p)

/-- The paths the run transmits on (R290, R299). -/
def Device.calTxPaths (d : Device) (r : CalRun) : List Nat :=
  if r.kind = 3 then [r.path] else if r.kind = 6 then [d.get L.CAL_ALIGN_REF_PATH, r.path] else []

/-- The run measures path `p` (R290, R298, R299): as a receiver or as a transmitter. -/
def Device.calMeasures (d : Device) (r : CalRun) (p : Nat) : Bool :=
  (d.calReceivers r).contains p || (d.calTxPaths r).contains p

/-- Waiting RETURN requests enter as places free, in ascending path order (R525); a background run enters only while no
other entry waits (R296). -/
def calRefill (d : Device) : Device :=
  let take := fun (r : CalRun) (c : CalState) =>
    ({ d with cal := { c with queue := c.queue ++ [r] } }).set L.CAL_RSTAT_QLEN (c.queue.length + 1)
  match d.cal.wanted with
  | w :: ws =>
    if d.cal.queue.length < 16 then
      let r := ws.foldl (fun (b : CalRun) x => if x.path < b.path then x else b) w
      take r { d.cal with wanted := (w :: ws).erase r }
    else d
  | [] =>
    match d.cal.bg with
    | r :: rs => if d.cal.queue.isEmpty then take r { d.cal with bg := rs } else d
    | [] => d

/-- The path whose transmitter the run in progress measures now: that of TX_LOOP, or first the reference and then the path
of ALIGN_TX (R290, R299). -/
def Device.calTxPath (d : Device) : Option Nat :=
  match d.cal.running with
  | some r =>
    if r.kind = 3 then some r.path
    else if r.kind = 6 then some (if d.cal.second then r.path else d.get L.CAL_ALIGN_REF_PATH) else none
  | none => none

/-- The OFF program starts (R258, R264): the OFF instants of the named lines are to come. -/
def feOff (p lines : Nat) (d : Device) : Device := d.setPath p { d.pathc p with offRun := lines }

/-- The mute request of a path that is no longer measured, as its state has it (R295). -/
def calTraffic (p : Nat) (d : Device) : Device :=
  setPathMute p (!(d.pathState p == 3 && (d.pathc p).sending && d.on (L.PATH_STAT_TXS p))) d

/-- The measured transmitter leaves its measurement: its mute request stands again, and its lines return to rest through their
OFF programs (R295); in BURST they stay at burst level. -/
def calTxOff (d : Device) : Device :=
  match d.calTxPath with
  | some p => let d := calTraffic p d; if d.pathState p = 3 then d else coexOutAll (feOff p 7 d)
  | none => d

/-- In FDD a step that ends gives the traffic of the transmitters it muted back (R289). -/
def calUnmute (d : Device) : Device :=
  match d.cal.running with
  | some r =>
    let st := d.get L.CAL_RSTAT_STATE
    if bitsOf d.air.cfg 30 1 = 1 && (st = 1 || st = 3) then (d.calTxPaths r).foldl (fun d p => calTraffic p d) d else d
  | none => d

/-- The observation receiver of a run (R290). -/
def CalRun.obs (r : CalRun) : Option Nat :=
  if r.kind = 3 || r.kind = 4 then some (r.path / 8) else if r.kind = 6 then some 0 else none

/-- The run gives its observation receiver back (R291). -/
def calObsFree (d : Device) : Device :=
  match d.cal.running.bind CalRun.obs with
  | some k =>
    let c := d.capc k
    let d := d.setCap k { c with queue := c.queue.filter fun r => !r.kind.isCal }
    match c.running with
    | some r => if r.kind.isCal then obsRelease k (d.setCap k { d.capc k with running := none }) else d
    | none => d
  | none => d

/-- The Pilot is off and every route open: CALOUT, and the RXINJ inputs (R287, R293, R295). -/
def pilotOff (d : Device) : Device :=
  (((d.set L.CAL_PILOT_MODE 0).set L.CAL_PILOT_CALOUT 0).set L.CAL_RXINJ_LO_MASK_LO 0).set L.CAL_RXINJ_HI_MASK_HI 0

/-- The run ends: nothing is held, measured or injected any more. -/
def calIdle (status : Nat) (d : Device) : Device :=
  let d := pilotOff d
  let d := { d with cal := { d.cal with running := none, retries := 0, repeats := 0, second := false } }
  ((d.set L.CAL_RSTAT_STATUS status).set L.CAL_RSTAT_STATE 0).inc L.CAL_CNT_RUNS

/-- The run in progress ends with a status that is not OK (R295): routes open, banks released, FAIL raised; a run made
for R272 fails its step unless an outage ended it INVALID (R271). -/
def calFail (status : Nat) (d : Device) : Device :=
  match d.cal.running with
  | none => d
  | some r =>
    let d := calIdle status (calObsFree (calUnmute (d.when (d.get L.CAL_RSTAT_STATE == 3) calTxOff)))
    let d := d.calEvent L.CAL_EVENT_FAIL r.path 2 [(r.kind, 4), (r.path, 6), (status, 4)]
    calRefill ((d.inc L.CAL_CNT_FAILS).when
      (r.origin == 1 && !(status == 7 && (d.clk.outage || d.clk.txOutage)) && d.pathState r.path == 1)
      (pathReturnFail r.path (d.get (L.PATH_STAT_STEP r.path))))

/-- A run that measures path `p` ends (R294); RETURN requests of the path leave the queue. -/
def calEndPath (p status : Nat) (d : Device) : Device :=
  match d.cal.running with
  | some r => if d.calMeasures r p then calFail status d else d
  | none => d

/-- A sampler or transmit-only outage meets a run that measures (R294); a run that waits or computes goes on. -/
def calOutage (d : Device) : Device :=
  if d.get L.CAL_RSTAT_STATE = 1 || d.get L.CAL_RSTAT_STATE = 3 then calFail 7 d else d

/-- RETURN requests of a path are withdrawn (R271); the run in progress goes on without it. -/
def calWithdraw (p : Nat) (d : Device) : Device :=
  let keep := fun (r : CalRun) => !(r.origin == 1 && r.path == p)
  let q := d.cal.queue.filter keep
  let run := d.cal.running.map fun r => if keep r then r else { r with origin := 3 }
  ({ d with cal := { d.cal with queue := q, wanted := d.cal.wanted.filter keep, running := run } }).set L.CAL_RSTAT_QLEN q.length

/-- The path starts to leave service: element ramps run out with LEN, then OUT (R258). -/
def pathLeave (p : Nat) (d : Device) : Device :=
  let len := d.get (L.PATH_CTL_LEN p)
  let d := calWithdraw p (calEndPath p 10 d)
  let d := rampStart 0 p 0 len (rampStart 1 p 0 len d)
  if d.rampsBoth p 0 then pathEnterOut p d
  else d.setPath p { d.pathc p with outWait := true, returning := false, outageReturn := false }

/-! ## Service flags -/

/-- A service flag clears: DEGRADED is recorded, the direction's element ramps out at once, and a path with neither flag
enters OUT (R259).  Without TXS the path sends no burst more: one in progress keeps the OFF instants of its other lines.  `reg` is the causing event's REG. -/
def pathFlagClear (dir p cause : Nat) (d : Device) : Device :=
  let flag := if dir = 0 then L.PATH_STAT_TXS p else L.PATH_STAT_RXS p
  if d.on flag then
    let d := rampStart dir p 0 0 (d.set flag 0)
    let d := d.pathEvent L.PATH_EVENT_DEGRADED p 4 []
    let d := d.log isleLANE 4 11 p (common 10) [(cause, 8), (dir, 24)]
    let d := d.when (dir == 0) fun d =>
      let c := d.pathc p
      let d := d.setPath p { c with
        cur := none, nxt := none, sending := false, sendNxt := false,
        offRun := if d.pathState p = 3 && c.offRun = 0 then 6 else c.offRun }
      (setPathMute p true (setFe p 0 (d.get (L.PATH_STAT_TR p)) (d.get (L.PATH_STAT_LNA p)) d)).each 4 (coexKeep fun _ => true)
    let d := d.when (dir == 1) (fun d => d.set (L.PATH_STAT_LNA p) 0)
    if d.on (L.PATH_STAT_RXS p) || d.on (L.PATH_STAT_TXS p) then d
    else calWithdraw p (pathEnterOut p d)
  else d

/-- The receive converter leaves RUN for a state other than GATED (R259). -/
def rxLeavesRun (n : Nat) (d : Device) : Device := d.when (n < 64) (pathFlagClear 1 n 0)

/-- The transmit converter leaves RUN for a state other than GATED (R259). -/
def txLeavesRun (p : Nat) (d : Device) : Device := pathFlagClear 0 p 0 d

end Sys2Proof.Machine
end

