-- ==== Sys2Proof/Machine/Freq.lean ====
section
/-! DEFINITION. Frequencies: tuning words, usable bands and the Damper's allow-list (R115, R116, R145, R146, R307). -/
namespace Sys2Proof.Machine

/-- A tuning word's frequency in Hz × 2^48 (R145, R164): FTW × 12.288 GHz. -/
def hz48 (ftw : Nat) : Nat := ftw * 12288000000

/-- A frequency lies between two edges in kHz, ends included. -/
def inBandKHz (ftw lo hi : Nat) : Bool := lo * 1000 * 2 ^ 48 ≤ hz48 ftw && hz48 ftw ≤ hi * 1000 * 2 ^ 48

/-- Inside a usable band of R146: the output mode, 0 NONE, 1 NRZ, 2 MIXED (R145). -/
def txMode (lp : Bool) (ftw : Nat) : Nat :=
  if lp then
    if inBandKHz ftw 410000 3010560 then 1 else if inBandKHz ftw 3133440 6082560 then 2 else 0
  else
    if inBandKHz ftw 410000 6082560 then 1 else if inBandKHz ftw 6205440 7125000 then 2 else 0

/-- The zone whose usable band of R116 holds a frequency, 0 for none. -/
def rxZone (lp : Bool) (ftw : Nat) : Nat :=
  if lp then
    if inBandKHz ftw 410000 1474560 then 1 else if inBandKHz ftw 1597440 3010560 then 2
    else if inBandKHz ftw 3133440 4546560 then 3 else 0
  else
    if inBandKHz ftw 410000 3010560 then 1 else if inBandKHz ftw 3133440 6082560 then 2
    else if inBandKHz ftw 6205440 7125000 then 3 else 0

/-- |offset| is at most 0.4 F_L, both in tuning-word units: F_L is 2^45 at full rate, 2^44 in low-power mode (R164). -/
def spanOk (lp : Bool) (offset : Int) : Bool := offset.natAbs * 10 ≤ 4 * (if lp then 2 ^ 44 else 2 ^ 45)

/-- A receive centre as a tuning word: CTR × 187.5 kHz (R161). -/
def centreFtw (ctr : Nat) : Nat := ctr * 2 ^ 32

/-- Damper band `k` is usable and holds a span given in Hz × 2^48 (R306, R307). -/
def Device.bandHolds (d : Device) (k : Nat) (lo hi : Int) : Bool :=
  let e := fun (kHz : Nat) => ((kHz * 1000 * 2 ^ 48 : Nat) : Int)
  d.on (L.DMP_OBAND_LO_VALID k) && bitsOf (d.get L.DMP_LIM2_BAND_EN) k 1 == 1
    && e (max (d.get (L.DMP_OBAND_LO_LO k)) (d.get (L.DMP_FBAND_LO_LO k))) ≤ lo
    && hi ≤ e (min (d.get (L.DMP_OBAND_HI_HI k)) (d.get (L.DMP_FBAND_HI_HI k)))

/-- A span lies wholly inside one usable band (R307). -/
def Device.allowed (d : Device) (lo hi : Int) : Bool := (List.range 8).any fun k => d.bandHolds k lo hi

/-- The span of TXDAC_NCO: F_RF itself (R307). -/
def Device.ncoAllowed (d : Device) (ftw : Nat) : Bool := d.allowed (hz48 ftw) (hz48 ftw)

/-- Half of F_out in Hz: 15.36 MHz × 2^OUT_RATE (R168). -/
def halfOutHz (rate : Nat) : Nat := 15360000 * 2 ^ rate

/-- The span of a DUC: F_c ± F_out / 2 (R307). -/
def Device.ducAllowed (d : Device) (ftw rate : Nat) : Bool :=
  d.allowed ((hz48 ftw : Int) - halfOutHz rate * 2 ^ 48) (hz48 ftw + halfOutHz rate * 2 ^ 48)

/-- A frequency in whole kHz, rounded down (R307). -/
def kHzOf (ftw : Nat) : Nat := hz48 ftw / (1000 * 2 ^ 48)

/-- The Damper refuses a commit (R307): REFUSE with the path and the frequency in kHz. -/
def damperRefuse (p ftw : Nat) (d : Device) : Device :=
  (d.event L.DMP_EVENT_REFUSE isleLANE 9 p 0 1 [(p, 6), (kHzOf ftw, 24)]).inc L.DMP_CNT_REFUSED

end Sys2Proof.Machine
end

