-- ==== Sys2Proof/Machine/Chan.lean ====
section
/-! DEFINITION. The channelisers: settings and checks of the narrow chains and wide channels, commits, centre changes,
invalid runs and power windows (R160–R185). -/
namespace Sys2Proof.Machine

/-! ## Commits -/

/-- The path an OBS observes: that of its coupler position, if it stands on one (R134, R161). -/
def Device.observed (d : Device) (k : Nat) : Option Nat :=
  let s := d.get (L.RXADC_OBS_SEL_ACTIVE k)
  if s < 16 then some (8 * k + s / 2) else none

/-- The centre in force of a receive path in 187.5 kHz units. -/
def Device.centreOf (d : Device) (p : Nat) : Nat := tabGet d.centre 0 p

/-- The centre a receive chain mixes against: its path's, or that of the path its OBS observes.  While the OBS stands on
TERM, PILOT or CAL_IN, no path is observed and the centre is 0 (log 136). -/
def Device.chanCentre (d : Device) (src : Nat) : Nat :=
  if src < 64 then d.centreOf src
  else match d.observed (src - 64) with
    | some p => d.centreOf p
    | none => 0

/-- The CH_CFG or WCH_CFG word a chain's commit samples. -/
def Device.stagedCfg (d : Device) (k : Nat) : Nat := if isWide k then d.rd (A.WCH_CFG (wideOf k)) else d.rd (A.CH_CFG k)

/-- The staged FTW of a chain. -/
def Device.stagedFtw (d : Device) (k : Nat) : Nat := d.get (L.CH_NCO_LO_FTW_LO k) + d.get (L.CH_NCO_HI_FTW_HI k) * 2 ^ 32

/-- The span check of R164 for settings of a chain. -/
def Device.chanSpanOk (d : Device) (k : Nat) (c : ChanCfg) (ftw : Nat) : Bool :=
  if isDuc k then
    txMode d.lowPower ftw != 0 && spanOk d.lowPower ((ftw : Int) - (d.txc (k / 8)).ftw)
  else
    rxZone d.lowPower ftw != 0 && spanOk d.lowPower ((ftw : Int) - centreFtw (d.chanCentre c.src))

/-- The first failing check of sampled settings, in the order of R171; 0 for none.  Disabled settings are checked for
their fields only. -/
def Device.chanCheck (d : Device) (k : Nat) (c : ChanCfg) (ftw : Nat) : Nat :=
  let den := if d.lowPower then 25 else 50
  if c.n = 3 || (if isWide k then c.r < 1 || 16 < c.r || c.taps < 1 || 384 < c.taps else c.r < 2 || 16 < c.r || 47 < c.fir) then 1
  else if !c.en then 0
  else if !isWide k && (den < 2 ^ c.rate * c.decim || 2 * 2 ^ c.rate * c.decim < den) then 2
  else if isWide k && 96 * c.decim < c.taps then 3
  else if !d.chanSpanOk k c ftw then 4
  else if isDuc k && !d.ducAllowed ftw c.rate then 5
  else 0

/-- SOURCE and REG of a chain's CH_EVENT (R387). -/
def chanSrc (k : Nat) : Nat := if isWide k then wideOf k else k / 8
/-- REG of a chain's CH_EVENT (R387): DDC c, DUC 4 + c, WCH 9. -/
def chanReg (k : Nat) : Nat := if isWide k then 9 else k % 8

/-- An event of a chain. -/
def Device.chanEvent (d : Device) (l : Nat → Loc) (k : Nat) (items : List (Nat × Nat)) : Device :=
  d.event (l k) isleLANE 16 (chanSrc k) (chanReg k) 1 items

/-- A refusal: ERR and its cause (R171, R530). -/
def chanRefuse (k errc : Nat) (d : Device) : Device :=
  (d.set (L.CH_STAT_ERRC k) errc).chanEvent L.CH_EVENT_ERR k []

/-- Settings whose change restarts a chain (R172). -/
def ChanCfg.restarts (a b : ChanCfg) : Bool :=
  a.n != b.n || a.r != b.r || a.hb != b.hb || a.fir != b.fir || a.rate != b.rate || a.taps != b.taps || a.src != b.src
    || (!a.en && b.en)

/-- A restart clears the filter states of a chain; what it has put out stays (R172), and its fine windows begin anew (R180). -/
def chanClear (k : Nat) (d : Device) : Device :=
  (d.setSig k { d.sig k with ins := [], line := [] }).setChn k { d.chn k with fine := none }

/-- The length of an invalid run in output samples of new settings (R168, R184): the run keeps its end. -/
def runRescale (k : Nat) (old new : ChanCfg) (n : Nat) : Nat :=
  if isDuc k then n
  else if isWide k then (n * old.decim + new.decim - 1) / max 1 new.decim
  else (n * 2 ^ new.rate + 2 ^ old.rate - 1) / 2 ^ old.rate

/-- What CH_DELAY gives a chain: D_I and D_F, the latter with no effect on a wide channel (R170). -/
def delayOf (k word : Nat) : Nat := if isWide k then bitsOf word 8 8 * 256 else bitsOf word 0 16

/-- A commit at its boundary: the staged registers are sampled, checked and applied or refused (R171, R172). -/
def chanCommit (k : Nat) (d : Device) : Device :=
  let c := d.chn k
  let d := d.set (L.CH_STAT_PEND k) 0
  let word := d.stagedCfg k
  let ftw := d.stagedFtw k
  let phase := d.get (L.CH_NCO_HI_PHASE k)
  let delay := d.rd (A.CH_DELAY k)
  let gain := d.get (L.CH_GAIN_GAIN k)
  let new := chanCfg k word
  let old := chanCfg k c.cfg
  let e := d.chanCheck k new ftw
  if e ≠ 0 then
    let d := d.when (e == 5) (damperRefuse (k / 8) ftw)
    chanRefuse k e (d.setChn k { c with commit := none })
  else
    let stopped := d.get (L.CH_STAT_STATE k) == 2
    let d := d.setChn k { c with
      cfg := word, ftw := ftw, phase := phase, delay := delay, gain := gain, commit := none
      runLen := runRescale k old new c.runLen }
    if !new.en then (d.set (L.CH_STAT_STATE k) 0).set (L.CH_STAT_SETTLING k) 0
    else
      let d := d.set (L.CH_STAT_STATE k) 1
      let cause := if stopped || old.restarts new then 6
        else if c.ftw ≠ ftw || c.phase ≠ phase then 4
        else if delayOf k c.delay ≠ delayOf k delay then 5 else 0
      if cause = 0 then d
      else
        let d := d.when (cause == 6) (chanClear k)
        if isDuc k then ducSettle k cause d else chanInvalid k cause 0 false d

/-- The number of LANE blocks from now to block `b` lies in the past half of the frame (R53, R119). -/
def Device.blockPast (d : Device) (b : Nat) : Bool :=
  let n := d.blocksPerFrame
  let ahead := (b + n - d.block) % n
  ahead == 0 || n < 2 * ahead

/-- GO in CH_CHG (R171): arms a commit, or is refused for its AT. -/
def chanGo (k atMode at' : Nat) (d : Device) : Device :=
  if atMode = 1 && d.blockLimit ≤ at' then chanRefuse k 6 d
  else if atMode = 1 && d.blockPast at' then
    ((d.setChn k { d.chn k with commit := some none }).set (L.CH_STAT_PEND k) 1).chanEvent L.CH_EVENT_LATE k []
  else
    (d.setChn k { d.chn k with commit := some (if atMode = 1 then some at' else none) }).set (L.CH_STAT_PEND k) 1

/-- The chain's commit is due at block `b`. -/
def ChanCtl.due (c : ChanCtl) (b : Nat) : Bool :=
  match c.commit with
  | some none => true
  | some (some n) => n == b
  | none => false

/-- The commits due at block `b`, in chain order. -/
def chanBlock (b : Nat) (d : Device) : Device :=
  d.chan.foldl (fun d (k, c) => if c.due b then chanCommit k d else d) d

/-! ## Centre changes -/

/-- A CTR write arms a centre change (R161). -/
def centreWrite (p ctr : Nat) (d : Device) : Device :=
  ({ d with centreArmed := tabPut d.centreArmed p (ctr, d.laneNow) }).set (L.CH_RXCTR_PEND p) 1

/-- The chains running on receive path `p`: its DDCs, then the wide channels on it or observing it. -/
def Device.pathChains (d : Device) (p : Nat) : List Nat :=
  ((List.range 4).map (ddc p) ++ (List.range 16).map wch).filter fun k =>
    d.get (L.CH_STAT_STATE k) == 1 &&
      (!isWide k || d.chanInput k == p || (64 ≤ d.chanInput k && d.observed (d.chanInput k - 64) == some p))

/-- An armed centre at a block boundary at least 64 LANE samples after its write (R161). -/
def centreApply (p : Nat) (d : Device) : Device :=
  match tabGet? d.centreArmed p with
  | none => d
  | some (ctr, t) =>
    if d.samplesSince t 64 then
      let d := ({ d with centreArmed := tabDel d.centreArmed p }).set (L.CH_RXCTR_PEND p) 0
      if ctr = d.centreOf p then d
      else
        let bad := (List.range 4).filter fun c =>
          let x := d.chn (ddc p c)
          (chanCfg (ddc p c) x.cfg).en && (rxZone d.lowPower x.ftw == 0 || !spanOk d.lowPower ((x.ftw : Int) - centreFtw ctr))
        match bad with
        | c :: _ => chanRefuse (ddc p c) 4 (d.set (L.CH_RXCTR_CTR p) (d.centreOf p))
        | [] =>
          let d := { d with centre := tabPut d.centre p ctr }
          (d.pathChains p).foldl (fun d k => chanInvalid k 3 0 true d) d
    else d

/-- Every armed centre at a block boundary. -/
def centreBlock (d : Device) : Device := d.each 64 centreApply

/-! ## Converter changes that reach the chains -/

/-- A DUC whose offset leaves ±0.4 F_L at an NCO change enters STOPPED (R162). -/
def ducSpanStop (p : Nat) (d : Device) : Device :=
  d.each 4 fun c d =>
    let k := duc p c
    if d.get (L.CH_STAT_STATE k) == 1 && !spanOk d.lowPower (((d.chn k).ftw : Int) - (d.txc p).ftw) then
      chanRefuse k 4 ((d.set (L.CH_STAT_STATE k) 2).set (L.CH_STAT_SETTLING k) 0)
    else d

/-- At a converter-mode change every enabled chain is checked again; a failing one stops with MODE (R172). -/
def chanModeCheck (d : Device) : Device :=
  d.chan.foldl (fun d (k, c) =>
    let cfg := chanCfg k c.cfg
    if cfg.en && d.chanCheck k cfg c.ftw != 0 then
      chanRefuse k 7 ((d.set (L.CH_STAT_STATE k) 2).set (L.CH_STAT_SETTLING k) 0)
    else d) d

/-- A run of invalid samples has ended (R184), which none does in a sampler outage or a gated interval (R112, R498), or a DUC has settled (R185). -/
def chanSettled (k : Nat) (d : Device) : Device :=
  if d.rxHalted && !isDuc k then d else d.set (L.CH_STAT_SETTLING k) 0

/-! ## Power -/

/-- The record limiter of threshold events: one per source and event per 1 ms (R181). -/
def Device.chanPower (d : Device) (l : Loc) (src reg : Nat) : Device :=
  d.eventLimited l ticksPerMs isleLANE 16 src reg 1 []

/-- A power reading as reported: never below −8,192 (R179, R180). -/
def powerClamp (pwr : Int) : Int := max pwr (-8192)

/-- A coarse window ends (R179, R181): PWR, CP_HI and CP_CLR.  Whether CP_HI was raised is the second answer. -/
def coarseWindow (p : Nat) (pwr : Int) (valid : Bool) (d : Device) : Device × Bool :=
  if d.on (L.RXADC_CFG_EN p) && valid then
    let pwr := powerClamp pwr
    let d := d.set (L.CH_CPWR_PWR p) (encodeSigned 16 pwr)
    let hi := d.getS (L.CH_CTHR_HI p)
    let hyst : Int := d.get (L.CH_CTHR_HYST p)
    if !d.on (L.CH_CPWR_ABOVE p) && hi ≤ pwr then
      ((d.set (L.CH_CPWR_ABOVE p) 1).chanPower (L.CH_PEVENT_CP_HI p) p 8, true)
    else if d.on (L.CH_CPWR_ABOVE p) && pwr < hi - hyst then
      ((d.set (L.CH_CPWR_ABOVE p) 0).chanPower (L.CH_PEVENT_CP_CLR p) p 8, false)
    else (d, false)
  else (d, false)

/-- A fine window ends (R180, R181): PWR, FP_HI and FP_LO. -/
def fineWindow (k : Nat) (pwr : Int) (valid : Bool) (d : Device) : Device :=
  if !isDuc k && d.get (L.CH_STAT_STATE k) == 1 && valid then
    let pwr := powerClamp pwr
    let d := d.set (L.CH_FPWR_PWR k) (encodeSigned 16 pwr)
    let hyst : Int := d.get (L.CH_PCFG_HYST k)
    let hi := d.getS (L.CH_FTHR_HI k)
    let lo := d.getS (L.CH_FTHR_LO k)
    let c := d.chn k
    let upHi := !c.hiOn && hi ≤ pwr
    let upLo := !c.loOn && pwr ≤ lo
    let d := d.setChn k { c with
      hiOn := upHi || (c.hiOn && !(pwr < hi - hyst)), loOn := upLo || (c.loOn && !(lo + hyst < pwr)) }
    let d := d.when upHi fun d => d.chanPower (L.CH_EVENT_FP_HI k) (chanSrc k) (chanReg k)
    d.when upLo fun d => d.chanPower (L.CH_EVENT_FP_LO k) (chanSrc k) (chanReg k)
  else d

end Sys2Proof.Machine
end

