-- ==== Sys2Proof/Machine/Grid.lean ====
section
/-! DEFINITION. The symbol grid of a carrier and its transforms: symbol times, OFDM checks, admission, commits
(R187–R206, R213, R214, R340, R367). -/
namespace Sys2Proof.Machine

/-! ## Settings -/

/-- The OFDM settings of reset. -/
def OfSet.idle : OfSet := ⟨0x0C440000, 0x01110000, 0, 0, 0⟩
/-- A carrier that nothing has set. -/
def GridCtl.idle : GridCtl := ⟨OfSet.idle, 0, none, 0x00200100, 0x9C, none, [], [], [], [], []⟩
/-- A direction with no fault. -/
def DirCtl.idle : DirCtl := ⟨[], [], 0, []⟩

/-- Carrier `i`. -/
def Device.grd (d : Device) (i : Nat) : GridCtl := tabGet d.grid GridCtl.idle i
/-- Replace carrier `i`. -/
def Device.setGrd (d : Device) (i : Nat) (g : GridCtl) : Device := { d with grid := tabPut d.grid i g }
/-- Direction `k`. -/
def Device.dir (d : Device) (k : Nat) : DirCtl := tabGet d.dirs DirCtl.idle k
/-- Replace direction `k`. -/
def Device.setDir (d : Device) (k : Nat) (c : DirCtl) : Device := { d with dirs := tabPut d.dirs k c }

/-- OF_CFG.EN. -/
def OfSet.en (s : OfSet) : Bool := bitsOf s.cfg 31 1 == 1
/-- OF_CFG.TD (R203). -/
def OfSet.td (s : OfSet) : Bool := bitsOf s.cfg 30 1 == 1
/-- The carrier uses transforms. -/
def OfSet.live (s : OfSet) : Bool := s.en && !s.td
/-- OF_CFG.SIZE. -/
def OfSet.size (s : OfSet) : Nat := bitsOf s.cfg 24 4
/-- μ (R187). -/
def OfSet.mu (s : OfSet) : Nat := bitsOf s.cfg 22 2
/-- Extended prefix. -/
def OfSet.ecp (s : OfSet) : Bool := bitsOf s.cfg 21 1 == 1
/-- Resource blocks. -/
def OfSet.nrb (s : OfSet) : Nat := bitsOf s.rb 16 9
/-- K0 (R195). -/
def OfSet.k0 (s : OfSet) : Int := signedOf 16 (bitsOf s.rb 0 16)
/-- TOFF in samples (R191). -/
def OfSet.toff (s : OfSet) : Int := signedOf 16 (bitsOf s.win 16 16)
/-- WIN_ADV (R192). -/
def OfSet.winAdv (s : OfSet) : Nat := bitsOf s.win 0 12
/-- Path `p` is in the mask. -/
def OfSet.has (s : OfSet) (p : Nat) : Bool := bitsOf s.mask p 1 == 1
/-- Paths in the mask. -/
def OfSet.paths (s : OfSet) : List Nat := (List.range 64).filter s.has
/-- NL in force (R208). -/
def GridCtl.nl (g : GridCtl) : Nat := bitsOf g.ccfg 16 6
/-- G in force (R209). -/
def GridCtl.group (g : GridCtl) : Nat := max 1 (bitsOf g.ccfg 8 5)
/-- BM_CCFG.EN in force. -/
def GridCtl.beamOn (g : GridCtl) : Bool := bitsOf g.ccfg 31 1 == 1
/-- COMMIT_OFF in force, µs. -/
def GridCtl.commitOff (g : GridCtl) : Nat := bitsOf g.ctime 0 10

/-! ## Symbol times

Times are counted in 1/3,840 ns, of which a network-time tick has 15,625 (R362). -/

/-- Symbols of a half-subframe. -/
def OfSet.perHalf (s : OfSet) : Nat := (if s.ecp then 6 else 7) * 2 ^ s.mu
/-- Symbols of a frame, S_f (R214). -/
def OfSet.perFrame (s : OfSet) : Nat := 20 * s.perHalf
/-- Length of a symbol in ticks, without the longer first prefix of a half-subframe (R190). -/
def OfSet.symTicks (s : OfSet) : Nat := (if s.ecp then 20480 else 17536) / 2 ^ s.mu
/-- The longest symbol in ticks, T_long of R230. -/
def OfSet.longTicks (s : OfSet) : Nat := s.symTicks + if s.ecp then 0 else 128
/-- Ticks from the half-subframe's start to its symbol `j` (R190). -/
def OfSet.halfOffset (s : OfSet) (j : Nat) : Nat := j * s.symTicks + if s.ecp || j == 0 then 0 else 128
/-- Ticks from the frame boundary to symbol `n`; a half-subframe has 122,880. -/
def OfSet.frameTicks (s : OfSet) (n : Nat) : Nat := n / s.perHalf * 122880 + s.halfOffset (n % s.perHalf)
/-- The instant the prefix of symbol `n` crosses the balls, from its frame boundary (R191). -/
def OfSet.air (s : OfSet) (n : Nat) : Int :=
  (s.frameTicks n * 15625 : Nat) + s.toff * ((16384 * 15625 / (2 ^ s.mu * 2 ^ s.size) : Nat) : Int)

/-- A frame of 10 ms in those units. -/
def frameLen : Nat := 10 ^ 7 * 3840

/-- T − FOFF in ns (R367). -/
def Device.frameNs (d : Device) : Int := (d.tai : Int) - d.tctl.foff
/-- The current frame number (R367). -/
def Device.frameNo (d : Device) : Nat := ((d.frameNs / 10 ^ 7 + d.fnAdd) % 1024).toNat
/-- Time since the frame boundary. -/
def Device.inFrame (d : Device) : Nat := (d.frameNs % 10 ^ 7).toNat * 3840 + d.time.frac * 3840 / 2 ^ 32
/-- The half-subframe of the present instant (R367). -/
def Device.halfNo (d : Device) : Nat := (d.frameNs % 10 ^ 7).toNat / 500000

/-- Frames from now to frame `fn`: the nearest of its residues; the frame 512 ahead starts nearer than the one 512 behind (R340). -/
def Device.framesTo (d : Device) (fn : Nat) : Int :=
  let k := (fn + 1024 - d.frameNo) % 1024
  if k ≤ 512 then k else (k : Int) - 1024

/-- Air time of symbol (fn, n) of carrier `i`, from now. -/
def Device.airIn (d : Device) (i fn n : Nat) : Int := d.framesTo fn * frameLen + (d.grd i).of.air n - d.inFrame

/-- The instant `k` ticks ago, from now, at the nominal tick. -/
def Device.tickIn (d : Device) (k : Nat) : Int := -(((d.ticks - k) * 15625 : Nat) : Int)

/-- The symbol lies where a backward step repeats time (R365). -/
def Device.repeats (d : Device) (i fn n : Nat) : Bool :=
  0 ≤ d.airIn i fn n && (d.tai : Int) + d.airIn i fn n / 3840 < d.tctl.repeatTo

/-- Commit point of a symbol of carrier `i`, from now (R213). -/
def Device.commitIn (d : Device) (i fn n : Nat) : Int :=
  d.airIn i fn n - if i < 4 then (((d.grd i).commitOff * 3840000 : Nat) : Int) else 0

/-- SYM of symbol (fn, n) (R214). -/
def Device.symOf (d : Device) (i fn n : Nat) : Nat := (fn * (d.grd i).of.perFrame + n) % 65536

/-- The symbols of the frames around now, in air order. -/
def Device.nearSyms (d : Device) (i : Nat) : List (Nat × Nat) :=
  [1022, 1023, 0, 1, 2].flatMap fun k => (List.range (d.grd i).of.perFrame).map fun n => ((d.frameNo + k) % 1024, n)

/-- The first symbol whose commit point lies at least 40 µs ahead (R213). -/
def Device.nextStart (d : Device) (i : Nat) : Nat :=
  match (d.nearSyms i).find? fun x => (40 * 3840000 : Int) ≤ d.commitIn i x.1 x.2 with
  | some x => d.symOf i x.1 x.2
  | none => 0

/-- The symbol of carrier `i` on air: the last whose prefix has crossed the balls. -/
def Device.onAir (d : Device) (i : Nat) : Nat × Nat :=
  ((d.nearSyms i).filter fun x => d.airIn i x.1 x.2 ≤ 0).getLastD (d.frameNo, 0)

/-- The first symbol whose prefix crosses the balls at or after an instant given from now (R285). -/
def Device.firstSymAt (d : Device) (i : Nat) (t : Int) : Nat :=
  match (d.nearSyms i).find? fun x => t ≤ d.airIn i x.1 x.2 with
  | some x => d.symOf i x.1 x.2
  | none => 0

/-! ## Checks of R188 to R195 -/

/-- The staged settings of a carrier. -/
def Device.ofStaged (d : Device) (i : Nat) : OfSet :=
  ⟨d.rd (A.OF_CFG i), d.rd (A.OF_RB i), d.rd (A.OF_WIN i),
    d.get (L.OF_PC_LO_F0_LO i) + d.get (L.OF_PC_HI_F0_HI i) * 2 ^ 32,
    d.rd (A.OF_MASK_LO i) + d.rd (A.OF_MASK_HI i) * 2 ^ 32⟩

/-- The chain that serves path `p` on carrier `i`: its DUC in the downlink, its DDC in the uplink. -/
def chainFor (i p : Nat) : Nat := if i < 4 then duc p i else ddc p (i - 4)

/-- F_s in units of 1.92 MHz (R188). -/
def OfSet.fs (s : OfSet) : Nat := 2 ^ (s.size + s.mu) / 128

/-- F_out of an OUT_RATE in units of 1.92 MHz (R168). -/
def foutOf (rate : Nat) : Nat := 16 * 2 ^ rate

/-- The adapter stages m that make F_s = F_out / 2^m (R188). -/
def OfSet.stages (s : OfSet) (fout : Nat) : Option Nat := (List.range 5).find? fun m => s.fs * 2 ^ m == fout

/-- The staged F_out of the paths of a mask. -/
def Device.maskRates (d : Device) (i : Nat) (s : OfSet) : List Nat :=
  s.paths.map fun p => foutOf (chanCfg (chainFor i p) (d.stagedCfg (chainFor i p))).rate

/-- The first failing check before admission in the order of R204, 0 for none, and the adapter stages.  A time-domain carrier
ignores the fields (R203); one with EN = 0 is checked as any other (log 16).  DESIGN CHOICE: with an empty path mask there is no
F_out, so that R188 leaves m open; m is 0 and the check passes (log 137). -/
def Device.ofCheckFields (d : Device) (i : Nat) (s : OfSet) : Nat × Nat :=
  if s.td then (0, 0)
  else
    let n := 2 ^ s.size
    let rates := d.maskRates i s
    let m := match rates with
      | [] => some 0
      | r :: rs => if rs.all (· == r) then s.stages r else none
    let cpLen := if s.ecp then n / 4 else 9 * n / 128
    if s.size < 7 || 12 < s.size || s.mu = 3 || bitsOf s.cfg 18 2 = 3 || s.nrb = 0 || 275 < s.nrb
        || (4 ≤ i && cpLen < s.winAdv) then (1, 0)
    else match m with
      | none => (2, 0)
      | some m =>
        let lo := s.k0 - 6 * s.nrb
        let hi := lo + 12 * s.nrb - 1
        if s.ecp && s.mu ≠ 2 then (3, m)
        else if 2 * n < 5 * lo.natAbs || 2 * n < 5 * hi.natAbs then (4, m)
        else (0, m)

/-! ## Admission (R197, R198, R230)

Times of the schedule are counted in 1/9,600 of a tick: a GRID cycle of PL4 has 1,920, a LANE sample 1,536 at full rate. -/

/-- A GRID cycle at a performance level (R102). -/
def gridCycle (level : Nat) : Nat :=
  match level with
  | 4 => 1920 | 3 => 2560 | 2 => 3840 | _ => 7680

/-- A microsecond. -/
def gridUs : Nat := 2359296

/-- One transform to schedule. -/
structure Job where
  ready : Int
  deadline : Int
  len : Nat
  /-- It belongs to the new schedule. -/
  counted : Bool
deriving DecidableEq, Repr

/-- A LANE sample. -/
def Device.laneUnit (d : Device) : Nat := if d.lowPower then 3072 else 1536

/-- Fixed latency of a DUC from its entry to the balls with its staged settings (R141, R174, R235). -/
def Device.ducLatency (d : Device) (k : Nat) : Nat :=
  let c := chanCfg k (d.stagedCfg k)
  let hb := if c.hb then 11 * c.r else 0
  let half := c.order * (c.r - 1) + 2 * (4 * c.r + hb) + (romTaps c.fir - 1) * c.decim + 2 * (8 * c.decim)
  let delay := d.get (L.CH_DELAY_DI k) * 256 + d.get (L.CH_DELAY_DF k)
  (48 + 68 + 24) * d.laneUnit + half * d.laneUnit / 2 + delay * d.laneUnit / 256

/-- Group delay of the interpolating adapter (R189, R200). -/
def OfSet.adapterDelay (s : OfSet) (m : Nat) : Nat :=
  let fs : Nat := 9600 * 16384 / (2 ^ s.mu * 2 ^ s.size)
  (List.range m).foldl (fun t k => t + 11 * fs / 2 ^ k) 0

/-- The transforms of one carrier in the half-subframe that starts at `base`. -/
def Device.jobsOf (d : Device) (i : Nat) (s : OfSet) (m cyc : Nat) (base : Int) (counted : Bool) : List Job :=
  let fs : Nat := 9600 * 16384 / (2 ^ s.mu * 2 ^ s.size)
  let len := (2 ^ s.size + 64) * cyc
  (List.range s.perHalf).flatMap fun j =>
    let a : Int := base + (s.halfOffset j * 9600 : Nat) + s.toff * fs
    let e : Int := base + (s.halfOffset (j + 1) * 9600 : Nat) + s.toff * fs
    if 4 ≤ i then
      let ready : Int := e - ((s.winAdv * fs : Nat) : Int) + ((10 * gridUs : Nat) : Int)
      s.paths.map fun _ => ⟨ready, ready + (28 * gridUs : Nat), len, counted⟩
    else
      let coff := d.get (L.BM_CTIME_COMMIT_OFF i)
      let ready : Int := a - (coff * gridUs : Nat) + (s.longTicks * 9600 : Nat) + (9 * gridUs : Nat)
      s.paths.map fun p =>
        ⟨ready, a - (d.ducLatency (duc p i) : Nat) - (s.adapterDelay m : Nat) - (gridUs : Nat), len, counted⟩

/-- The job to run at time `t`: the earliest deadline among the ready, the first of equals. -/
def pickJob (t : Int) : List Job → Option Job
  | [] => none
  | j :: js =>
    match pickJob t js with
    | none => if j.ready ≤ t then some j else none
    | some k => if j.ready ≤ t && j.deadline ≤ k.deadline then some j else some k

/-- The least of a list of times. -/
def leastOf : List Int → Int
  | [] => 0
  | [x] => x
  | x :: xs => min x (leastOf xs)

/-- The earliest-deadline-first schedule over a pool of cores: each counted job with its finish. -/
def schedule : Nat → List Int → List Job → List (Job × Int)
  | 0, _, _ => []
  | fuel + 1, cores, jobs =>
    match jobs with
    | [] => []
    | _ =>
      let free := leastOf cores
      let t := max free (leastOf (jobs.map Job.ready))
      match pickJob t jobs with
      | none => []
      | some j =>
        let fin := t + (j.len : Nat)
        (j, fin) :: schedule fuel (cores.erase free ++ [fin]) (jobs.erase j)

/-- The settings a carrier is to have: an admitted change in waiting, else those in force. -/
def Device.ofPlanned (d : Device) (i : Nat) : OfSet × Nat :=
  let g := d.grd i
  match g.chg with
  | some c => (c.set, c.m)
  | none => (g.of, g.m)

/-- The live settings of the four carriers of a direction, `new` in place of carrier `i`'s plan. -/
def Device.ofPlan (d : Device) (i : Nat) (new : OfSet × Nat) : List (Nat × OfSet × Nat) :=
  ((List.range 4).map fun c =>
    let k := 4 * (i / 4) + c
    (k, if k = i then new else d.ofPlanned k)).filter fun x => x.2.1.live

/-- The schedule in force of a direction. -/
def Device.ofForce (d : Device) (dir : Nat) : List (Nat × OfSet × Nat) :=
  ((List.range 4).map fun c => (4 * dir + c, (d.grd (4 * dir + c)).of, (d.grd (4 * dir + c)).m)).filter fun x => x.2.1.live

/-- Utilisation of a plan in 0.1 %, and whether it passes UTIL (R198). -/
def utilOf (level : Nat) (plan : List (Nat × OfSet × Nat)) : Nat × Bool :=
  let load := plan.foldl (fun t x =>
    t + (2 ^ x.2.1.size + 64) * (x.2.1.perHalf * 2000) * x.2.1.paths.length) 0
  let cap := 32 * (9600 * 245760000 / gridCycle level)
  (min 4095 ((2000 * load + cap) / (2 * cap)), 10 * load ≤ 9 * cap)

/-- WORST of a plan in 10 ns, and whether it passes DEADLINE (R198): the transition half-subframe under the old schedule,
then two of the new.  Old transforms of the transition are held to their deadlines too; WORST speaks of the new. -/
def Device.deadlineOf (d : Device) (level dir : Nat) (plan old : List (Nat × OfSet × Nat)) : Nat × Bool :=
  let cyc := gridCycle level
  let half : Int := 122880 * 9600
  let at' := fun (b : Int) (counted : Bool) (x : Nat × OfSet × Nat) => d.jobsOf x.1 x.2.1 x.2.2 cyc b counted
  let jobs := old.flatMap (at' 0 false) ++ plan.flatMap (at' half true) ++ plan.flatMap (at' (2 * half) true)
  let start := leastOf (jobs.map Job.ready)
  let all' := schedule jobs.length (List.replicate 32 start) jobs
  let ok := all'.all fun x => x.2 ≤ x.1.deadline
  let done := all'.filter fun x => x.1.counted
  let vals : List Int := done.map fun x => if dir = 1 then x.2 - x.1.ready else x.1.deadline + ((gridUs : Nat) : Int) - x.2
  let worst : Int := match vals with
    | [] => 0
    | v :: vs => vs.foldl (fun a b => if dir = 1 then max a b else min a b) v
  (min 65535 ((200 * worst + gridUs) / (2 * gridUs)).toNat, ok)

/-- Admission of a plan (R198): cause, UTIL and WORST.  DESIGN CHOICE: after a refusal for UTIL the deadline check has not run, and
the spec does not say what WORST shows; it shows 0 (log 137). -/
def Device.admission (d : Device) (level dir : Nat) (plan old : List (Nat × OfSet × Nat)) : Nat × Nat × Nat :=
  let u := utilOf level plan
  if !u.2 then (5, u.1, 0)
  else
    let w := d.deadlineOf level dir plan old
    (if w.2 then 0 else 6, u.1, w.1)

/-- The performance level in force. -/
def Device.level (d : Device) : Nat := d.get L.PWR_LSTAT_LEVEL

/-! ## Commits -/

/-- An event of a carrier (CLASS 17, SOURCE 0). -/
def Device.ofEvent (d : Device) (l : Nat → Loc) (i sev : Nat) (items : List (Nat × Nat)) : Device :=
  d.event (l i) isleGRID 17 0 i sev items

/-- A half-subframe AT in the past half of the frame (R204): 20 half-subframes a frame. -/
def Device.halfPast (d : Device) (h : Nat) : Bool :=
  let ahead := (h + 20 - d.halfNo) % 20
  ahead == 0 || 10 < ahead

/-- Stands for the next half-subframe boundary where a change names one. -/
def nextHalf : Nat := 31

/-- PEND shows a change under check or in waiting (R204). -/
def ofPend (i : Nat) (d : Device) : Device :=
  d.set (L.OF_STAT_PEND i) (bit ((d.grd i).chg.isSome || d.ofCheck.any fun r => r.carrier == i))

/-- A change that only clears bits of the path mask needs no admission (R205). -/
def OfSet.onlyClears (old new : OfSet) : Bool :=
  new.live && new.cfg == old.cfg && new.rb == old.rb && new.win == old.win && new.f0 == old.f0 && new.paths.all old.has

/-- GO in OF_CHG (R204): the checks run on the staged settings; an admitted change waits, replacing one that waits; the
result is to be shown. -/
def ofGo (i atMode at' : Nat) (d : Device) : Device :=
  let s := d.ofStaged i
  let (e, m) := d.ofCheckFields i s
  let dir := i / 4
  let shown := fun (errc util worst : Nat) (late : Bool) (d : Device) =>
    ofPend i { d with ofCheck := d.ofCheck ++ [⟨i, errc, late, util, worst⟩] }
  if e ≠ 0 then shown e (d.get (L.OF_ADM_UTIL dir)) (d.get (L.OF_ADM_WORST dir)) false d
  else
    let (cause, util, worst) :=
      if !s.td && !(d.ofPlanned i).1.onlyClears s then d.admission d.level dir (d.ofPlan i (s, m)) (d.ofForce dir)
      else (0, d.get (L.OF_ADM_UTIL dir), d.get (L.OF_ADM_WORST dir))
    if cause ≠ 0 then shown cause util worst false d
    else if atMode = 1 && 19 < at' then shown 7 util worst false d
    else
      let late := atMode == 1 && d.halfPast at'
      let g := d.grd i
      let d := d.when g.chg.isSome fun d => d.inc (L.OF_CNT_REPLACED i)
      let when' : Option Nat := if atMode = 0 then none else if late then some nextHalf else some at'
      shown 0 util worst late (d.setGrd i { g with chg := some ⟨s, m, when', d.ticks, []⟩ })

/-- The oldest admission result appears in OF_ADM (R204): LATE, or ERRC and ERR where it was refused. -/
def ofResult (d : Device) : Device :=
  match d.ofCheck with
  | [] => d
  | r :: rs =>
    let dir := r.carrier / 4
    let d := { d with ofCheck := rs }
    let d := ((d.set (L.OF_ADM_CAUSE dir) r.errc).set (L.OF_ADM_UTIL dir) r.util).set (L.OF_ADM_WORST dir) r.worst
    let d := d.when r.late fun d => d.ofEvent L.OF_EVENT_LATE r.carrier 1 []
    let d := d.when (r.errc != 0) fun d =>
      (d.set (L.OF_STAT_ERRC r.carrier) r.errc).ofEvent L.OF_EVENT_ERR r.carrier 1 []
    ofPend r.carrier d

/-- OF_ADM_CUR shows the schedule in force. -/
def ofShowCur (dir : Nat) (d : Device) : Device :=
  let plan := d.ofForce dir
  let (_, util, worst) := if plan.isEmpty then (0, 0, 0) else d.admission d.level dir plan plan
  (d.set (L.OF_ADM_CUR_UTIL dir) util).set (L.OF_ADM_CUR_WORST dir) worst

/-- Settings whose change restarts the transforms (R204). -/
def OfSet.restarts (a b : OfSet) : Bool :=
  a.size != b.size || a.mu != b.mu || a.ecp != b.ecp || a.rb != b.rb || a.toff != b.toff

/-- An admitted change takes effect at its half-subframe (R204, R206).  Symbols placed on an old grid are dropped. -/
def ofApply (i : Nat) (d : Device) : Device :=
  let g := d.grd i
  match g.chg with
  | none => d
  | some c =>
    let d := d.setGrd i { g with
      of := c.set, m := c.m, chg := none, mm := c.mm,
      syms := if g.of.restarts c.set || !c.set.live then [] else g.syms }
    let st := if !c.set.en then 0 else if c.set.td then 2 else 1
    let d := ((d.set (L.OF_STAT_STATE i) st).set (L.OF_STAT_M i) c.m).set (L.OF_STAT_NPATH i) c.set.paths.length
    ofShowCur (i / 4) (ofPend i d)

/-- A change is due at half-subframe `h`: the one it names, or the first at least 100 µs after GO (R204). -/
def commitDue (d : Device) (at? : Option Nat) (tick h : Nat) : Bool :=
  match at? with
  | some k => k == h || k == nextHalf
  | none => ticksPerUs 100 ≤ d.ticks - tick

/-- Every OFDM commit due at half-subframe `h`, carriers in order. -/
def ofHalf (h : Nat) (d : Device) : Device :=
  d.each 8 fun i d =>
    match (d.grd i).chg with
    | some c => if commitDue d c.at? c.tick h then ofApply i d else d
    | none => d

/-! ## Rate mismatch (R206) -/

/-- The end of a symbol on its way to the DUCs, from now: a sample is 2,000,000 / fs of 1/3,840 ns. -/
def Device.waveEnd (d : Device) (w : TxWave) : Int :=
  d.framesTo w.fn * frameLen + (w.start + (w.len : Nat)) * 2000000 / (w.fs : Nat) - d.inFrame

/-- The symbols of carrier `i` whose span has not ended are invalid on path `p` (R206). -/
def rateVoid (i p : Nat) (d : Device) : Device :=
  let g := d.grd i
  let left := fun (u : UlSym) => d.framesTo u.fn * frameLen + u.set.air (u.n + 1) - d.inFrame
  d.setGrd i { g with
    waves := g.waves.map fun w =>
      if 0 < d.waveEnd w then { w with rows := tabDel w.rows p, void := p :: w.void.filter (· != p) } else w
    uls := g.uls.map fun x => if 0 < left x.2 then (x.1, { x.2 with mm := true }) else x }

/-- Settings do not fit a rate on path `p`. -/
def OfSet.mismatch (s : OfSet) (m p rate : Nat) : Bool := s.live && s.has p && foutOf rate != s.fs * 2 ^ m

/-- A channel commit has brought a rate into force on path `p`.  Where it does not fit the schedule of carrier `i`, in force or
admitted and waiting, RATE_MM is raised, once for each admission (R206). -/
def rateCheck (i p : Nat) (d : Device) : Device :=
  let rate := (chanCfg (chainFor i p) (d.chn (chainFor i p)).cfg).rate
  let g := d.grd i
  let now := g.of.mismatch g.m p rate && (tabGet? g.mm p).isNone
  let next := match g.chg with
    | some c => c.set.mismatch c.m p rate && (tabGet? c.mm p).isNone
    | none => false
  let d := d.setGrd i { g with
    mm := if now then tabPut g.mm p d.ticks else g.mm
    chg := if next then g.chg.map fun c => { c with mm := tabPut c.mm p d.ticks } else g.chg }
  (d.when now (rateVoid i p)).when (now || next) fun d => d.ofEvent L.OF_EVENT_RATE_MM i 5 []

/-- The rate checks after the channel commits of a block: `old` is the device before them. -/
def rateChecks (old d : Device) : Device :=
  d.each 512 fun k d =>
    if (chanCfg k (old.chn k).cfg).rate = (chanCfg k (d.chn k).cfg).rate then d
    else rateCheck (if isDuc k then k % 8 - 4 else 4 + k % 8) (k / 8) d

/-! ## Meanings -/

/-- OFDM_ADMISSION_RESULT (R198, R204). -/
def execOfdmAdmissionResult (s : State) : Host.Outcome State Fault Refusal :=
  actDev .ofdmAdmissionResult s ofResult

end Sys2Proof.Machine
end

