-- ==== Sys2Proof/Machine/Xf.lean ====
section
/-! DEFINITION. Bank changes: requests, fades and busy banks of every bankable object (R50–R58, R176, R212–R214, R238–R240,
R282–R285). -/
namespace Sys2Proof.Machine

/-! ## Objects -/

/-- The address of an object's XF_STAT (R58). -/
def xfStat : XfObj → Nat
  | .beam i => A.BM_XF_STAT i
  | .dpd p => A.DPD_XF_STAT p
  | .wch w => A.WCH_XF_STAT w
  | .rxa i => A.CAL_RXA_XF_STAT i
  | .txa p => A.CAL_TXA_XF_STAT p
  | .lane p => A.CAL_LANE_XF_STAT p
  | .grid i => A.CAL_GRID_XF_STAT i

/-- The island, CLASS, SOURCE and REG of an object's records (R387, R388; log 15). -/
def xfSource : XfObj → Nat × Nat × Nat × Nat
  | .beam i => (isleGRID, 18, 0, i)
  | .dpd p => (isleLANE, 19, p, 0)
  | .wch w => (isleLANE, 16, w, 9)
  | .rxa i => (isleRXCONV, 20, i, 0)
  | .txa p => (isleTXCONV, 20, p, 0)
  | .lane p => (isleLANE, 20, p, 0)
  | .grid i => (isleGRID, 20, i, 0)

/-- The carrier whose symbols are the object's boundaries; none where they are LANE blocks (R50). -/
def xfCarrier : XfObj → Option Nat
  | .beam i => some i
  | .grid i => some i
  | _ => none

/-- Fields of an XF_STAT (R58). -/
def xfField (o : XfObj) (lo w : Nat) : Loc := ⟨xfStat o, lo, w⟩

/-- The requests and the fade of an object. -/
def Device.xfc (d : Device) (o : XfObj) : XfCtl := tabGet d.xf ⟨none, none, none⟩ (xfStat o)
/-- ACTIVE. -/
def Device.xfActive (d : Device) (o : XfObj) : Nat := d.get (xfField o 24 2)

/-- Replace an object's requests; STATE, PEND and STEP follow. -/
def setXf (o : XfObj) (c : XfCtl) (d : Device) : Device :=
  let st := match c.fade, c.armed with
    | some _, _ => 2
    | none, some _ => 1
    | none, none => 0
  let step := match c.fade with
    | some f => f.step
    | none => 0
  ((({ d with xf := tabPut d.xf (xfStat o) c }).set (xfField o 30 2) st).set (xfField o 29 1) (bit c.pend.isSome)).set
    (xfField o 20 4) step

/-- A record of an object (R57, R388): code 0 start, 1 completion, 2 refusal. -/
def xfRecord (o : XfObj) (code target fade start : Nat) (d : Device) : Device :=
  let (isle, cls, src, reg) := xfSource o
  d.log isle (if code = 2 then 1 else 0) cls src (common code) [(reg, 8), (target, 4), (fade, 4), (start, 16)]

/-- How many boundary numbers a request can name (R52, R53). -/
def Device.xfLimit (d : Device) (o : XfObj) : Nat :=
  match xfCarrier o with
  | some _ => 65536
  | none => d.blockLimit

/-- The range of an object's boundary counter (R53). -/
def Device.xfRange (d : Device) (o : XfObj) : Nat :=
  match xfCarrier o with
  | some _ => 65536
  | none => d.blocksPerFrame

/-- The object's boundary counter now: the symbol on air, or the LANE block. -/
def Device.xfNow (d : Device) (o : XfObj) : Nat :=
  match xfCarrier o with
  | some i => d.symOf i (d.onAir i).1 (d.onAir i).2
  | none => d.block

/-! ## Predistortion banks (R237, R238) -/

/-- A descriptor of the term at position `t` of a bank. -/
def Device.dpdTerm (d : Device) (p b t : Nat) : Nat := d.rd (A.DPD_BANK p b (2 * t))
/-- The neighbour map of a bank. -/
def Device.dpdMap (d : Device) (p b : Nat) : Nat := d.rd (A.DPD_BANK p b 64)

/-- A neighbour slot of a map is enabled. -/
def slotOn (map j : Nat) : Bool := bitsOf map (8 * j + 7) 1 == 1

/-- A term meets R238 under a neighbour map. -/
def termOk (map desc : Nat) : Bool :=
  let own := bitsOf desc 30 1 == 0
  let env := bitsOf desc 27 1 == 1
  let j := bitsOf desc 28 2
  let ml : Int := bitsOf desc 20 4 + signedOf 4 (bitsOf desc 16 4)
  0 ≤ ml && ml ≤ 15 && bitsOf desc 8 4 ≤ 7 && !(own && env) && (!(!own || env) || slotOn map j)

/-- 32 terms and a map form a bank that exists (R238). -/
def termsOk (p : Option Nat) (terms : List Nat) (map : Nat) : Bool :=
  let on := terms.filter fun t => bitsOf t 31 1 == 1
  let own := on.filter fun t => bitsOf t 30 1 == 0
  own.length ≤ 24 && on.length - own.length ≤ 8 && on.all (termOk map) &&
    (List.range 4).all fun j => !slotOn map j || (bitsOf map (8 * j) 7 < 64 && some (bitsOf map (8 * j) 7) != p)

/-- Bank `b` of path `p` meets R238. -/
def Device.dpdBankOk (d : Device) (p b : Nat) : Bool :=
  b < 3 && termsOk (some p) ((List.range 32).map (d.dpdTerm p b)) (d.dpdMap p b)

/-- The bank a request names exists (R52, R212, R238, R285). -/
def Device.xfBankOk (d : Device) (o : XfObj) (target : Nat) : Bool :=
  match o with
  | .dpd p => d.dpdBankOk p target
  | _ => target < 2

/-! ## Requests -/

/-- A refusal (R52): ERR and its record. -/
def xfRefuse (o : XfObj) (target fade start : Nat) (d : Device) : Device :=
  xfRecord o 2 target fade start (d.set (xfField o 26 1) 1)

/-- An event of a path of the predistorter (CLASS 19, REG 0, LANE). -/
def Device.dpdEvent (d : Device) (l : Nat → Loc) (p sev : Nat) (items : List (Nat × Nat)) : Device :=
  d.event (l p) isleLANE 19 p 0 sev items

/-- Downlink symbols of a carrier already computed and not yet at their commit point are computed again (R214). -/
def recomputeFrom (i start : Nat) (d : Device) : Device :=
  let g := d.grd i
  let redo := fun (x : Nat × SymCtl) => x.2.computed && !x.2.fixed && (x.1 + 65536 - start) % 65536 < 32768
  let n := (g.syms.filter redo).length
  (d.setGrd i { g with syms := g.syms.map fun x => if redo x then (x.1, { x.2 with computed := false, slot := none, again := true }) else x }).addSat
    (L.BM_CCNT_RECOMP i) n

/-- The boundary a request starts at: for beam weights a symbol number fixed now (R213), else none for the next boundary;
and whether it lay in the past (R53). -/
def Device.xfStart (d : Device) (o : XfObj) (atMode at' : Nat) : Option Nat × Bool :=
  let range := d.xfRange o
  let ahead := (at' + range - d.xfNow o) % range
  let past := ahead == 0 || range < 2 * ahead
  match o with
  | .beam i =>
    if atMode = 0 then (some (d.nextStart i), false)
    else
      let near := (d.nextStart i + 65536 - d.xfNow o) % 65536
      if past || ahead < near then (some (d.nextStart i), true) else (some at', false)
  | _ => if atMode = 0 then (none, false) else if past then (none, true) else (some at', false)

/-- A request accepted or refused under R52 to R55; `target` 0xF cancels, whatever FADE and AT say: the spec sets no order
between a cancel and a refusal (log 107).  Symbols that the acceptance of a request had computed ahead keep that mix when the
request is cancelled or replaced by one that starts later: the spec orders recomputation on acceptance only (log 142). -/
def xfRequest (o : XfObj) (target fade atMode at' : Nat) (d : Device) : Device :=
  let c := d.xfc o
  let shown := if atMode = 1 then at' else 0
  if target = 15 then setXf o { c with armed := none, pend := none } d
  else if 8 < fade || (atMode = 1 && d.xfLimit o ≤ at') then xfRefuse o target fade shown d
  else if !d.xfBankOk o target then
    let d := xfRefuse o target fade shown d
    match o with
    | .dpd p => if target < 3 then (d.set (L.DPD_PSTAT_ERRC p) 2).dpdEvent L.DPD_PEVENT_ERR p 1 [] else d
    | _ => d
  else
    let (start, late) := d.xfStart o atMode at'
    let d := d.when late fun d => d.set (xfField o 28 1) 1
    let r : XfReq := ⟨target, fade, start⟩
    let d :=
      if c.fade.isSome then
        setXf o { c with pend := some r } (d.when c.pend.isSome fun d => d.inc (xfField o 0 16))
      else setXf o { c with armed := some r } (d.when c.armed.isSome fun d => d.inc (xfField o 0 16))
    match o, start with
    | .beam i, some s => if i < 4 then recomputeFrom i s d else d
    | _, _ => d

/-! ## Busy banks (R56) -/

/-- A bank is named as source or target by an armed, fading or pending request, or by a trial (R250). -/
def Device.xfBusy (d : Device) (o : XfObj) (bank : Nat) : Bool :=
  let c := d.xfc o
  let act := d.xfActive o
  let armed := match c.armed with
    | some r => bank == act || bank == r.target
    | none => false
  let fading := match c.fade with
    | some f => bank == act || bank == f.target
    | none => false
  let pend := match c.pend with
    | some r => bank == r.target
    | none => false
  let trial := match o with
    | .dpd p => (tabGet? d.trial p).isSome &&
        (bank == d.get (L.DPD_PSTAT_ACT p) || bank == d.get (L.DPD_PSTAT_CAND p))
    | _ => false
  armed || fading || pend || trial

/-- A write to a busy bank (R56): BANK_BUSY and its record. -/
def xfBusyWrite (o : XfObj) (addr : Nat) (d : Device) : Device :=
  let (isle, cls, src, _) := xfSource o
  (d.set (xfField o 27 1) 1).log isle 1 cls src (common 16) [(addr, 32)]

/-! ## Boundaries -/

/-- Roles after a cross-fade from `a` to `b` (R240). -/
def dpdRoles (p a b : Nat) (d : Device) : Device :=
  ((d.set (L.DPD_PSTAT_ACT p) b).set (L.DPD_PSTAT_FB p) a).set (L.DPD_PSTAT_CAND p) (3 - a - b)

/-- SKEW of each slice absorbs its change of SKT when an RXA bank change completes (R284): 0.1 ps is 100 fs.  The spec gives
no result beyond the range of SKEW: a free value (log 17). -/
def skewFollow (n a b : Nat) (d : Device) : Device :=
  d.each 9 fun s d =>
    let delta := 100 * (d.getS (L.CAL_RXA_SKT_SKT n b s) - d.getS (L.CAL_RXA_SKT_SKT n a s))
    let v := d.getS (L.RXADC_SSKEW_SKEW n s) - delta
    if v.natAbs ≤ 2047 then d.set (L.RXADC_SSKEW_SKEW n s) (encodeSigned 12 v)
    else
      let (x, d) := d.draw
      d.set (L.RXADC_SSKEW_SKEW n s) x

/-- The target bank alone is used: ACTIVE, roles and what follows a completed change. -/
def xfTake (o : XfObj) (target fade start : Nat) (d : Device) : Device :=
  let a := d.xfActive o
  let d := xfRecord o 1 target fade start (d.set (xfField o 24 2) target)
  match o with
  | .dpd p => dpdRoles p a target d
  | .rxa n => skewFollow n a target d
  | _ => d

/-- An armed request is due at boundary `b`. -/
def XfReq.due (r : XfReq) (b : Nat) : Bool :=
  match r.at? with
  | some n => n == b
  | none => true

/-- A pending request becomes armed at boundary `b` (R55): it starts no earlier than the next boundary, which for symbols is
named, so that symbols computed ahead of it already count with it (R214). -/
def XfReq.rearm (r : XfReq) (b range : Nat) : XfReq :=
  let next : Option Nat := if range = 65536 then some ((b + 1) % 65536) else none
  match r.at? with
  | some n =>
    let ahead := (n + range - b) % range
    if ahead == 0 || range < 2 * ahead then { r with at? := next } else r
  | none => { r with at? := next }

/-- One boundary of an object (R54, R55).  The second answer tells of a change that completed here: its source and target. -/
def xfBoundary (o : XfObj) (b : Nat) (d : Device) : Device × Option (Nat × Nat) :=
  let c := d.xfc o
  match c.fade with
  | some f =>
    if f.step + 1 < f.fade then (setXf o { c with fade := some { f with step := f.step + 1 } } d, none)
    else
      let a := d.xfActive o
      let next := c.pend.map fun r => r.rearm b (d.xfRange o)
      (xfTake o f.target f.fade f.start (setXf o ⟨next, none, none⟩ d), some (a, f.target))
  | none =>
    match c.armed with
    | some r =>
      if r.due b then
        let a := d.xfActive o
        if r.target = a then (xfRecord o 1 r.target r.fade b (setXf o { c with armed := none } d), some (a, a))
        else if r.fade = 0 then
          (xfTake o r.target 0 b (xfRecord o 0 r.target 0 b (setXf o { c with armed := none } d)), some (a, r.target))
        else
          (xfRecord o 0 r.target r.fade b (setXf o ⟨none, c.pend, some ⟨r.target, r.fade, b, 0⟩⟩ d), none)
      else (d, none)
    | none => (d, none)

/-- One boundary of an object whose completion nothing else follows. -/
def xfStep (o : XfObj) (b : Nat) (d : Device) : Device := (xfBoundary o b d).1

/-- The LANE-block objects but predistortion, at a block boundary. -/
def xfBlock (b : Nat) (d : Device) : Device :=
  let d := d.each 16 fun w => xfStep (.wch w) b
  let d := d.each 72 fun n => xfStep (.rxa n) b
  let d := d.each 64 fun p => xfStep (.txa p) b
  d.each 64 fun p => xfStep (.lane p) b

/-- The objects of a carrier at the start of its symbol `b`. -/
def xfSymbol (i b : Nat) (d : Device) : Device := xfStep (.grid i) b (xfStep (.beam i) b d)

/-- Time from now to the start of LANE block `at'` (R285). -/
def atBlockFromNow (at' : Nat) (d : Device) : Int :=
  let n := d.blocksPerFrame
  let ahead := (at' + n - d.block) % n
  ((ahead * (frameLen / n) : Nat) : Int)

/-! ## The gain a fade gives (R54) -/

/-- The weight of the target in the fade interval, in 1/4,096. -/
def XfFade.weight (f : XfFade) (i : Nat) : Nat := rampWeight i f.fade

/-- A blended coefficient (R54). -/
def blendCoef (a : Nat) (src tgt : Int) : Int := ((4096 - a : Int) * src + a * tgt + 2048) / 4096

end Sys2Proof.Machine
end

