-- ==== Sys2Proof/Machine/Beam.lean ====
section
/-! DEFINITION. The beamformer: commits, symbols, checks, rods and element ramps (R207–R230). -/
namespace Sys2Proof.Machine

/-- An event of a carrier (CLASS 18, SOURCE 0). -/
def Device.bmEvent (d : Device) (l : Nat → Loc) (i sev : Nat) (items : List (Nat × Nat)) : Device :=
  d.event (l i) isleGRID 18 0 i sev items
/-- An event of a direction (CLASS 18, SOURCE the rod). -/
def Device.bmDirEvent (d : Device) (l : Nat → Loc) (dir rod sev : Nat) : Device :=
  d.event (l dir) isleGRID 18 rod (8 + dir) sev []

/-! ## Capacity (R227–R230) -/

/-- The level whose limits of R227 hold: at level 0 nothing is powered down (log 103). -/
def capacityLevel (level : Nat) : Nat := if level = 0 then 4 else level

/-- Carriers allowed in a direction at a level. -/
def carrierLimit (level : Nat) : Nat := if level = 1 then 1 else 4

/-- A carrier's bandwidth in units of 15 kHz (R227). -/
def OfSet.band (s : OfSet) : Nat := 12 * s.nrb * 2 ^ s.mu

/-- The limit of Σ bandwidth in the same units: 100 MHz a level. -/
def bandFits (level n : Nat) : Bool := n * 15 ≤ capacityLevel level * 100000

/-- The least downlink COMMIT_OFF is the larger of 80 µs and 2 T_long + 12 µs (R230). -/
def commitOk (s : OfSet) (off : Nat) : Bool :=
  80 ≤ off && 2 * s.longTicks * 100 + 12 * 24576 ≤ off * 24576

/-- The BM_CCFG a carrier is to have. -/
def GridCtl.ccfgPlan (g : GridCtl) : Nat :=
  match g.bchg with
  | some c => c.ccfg
  | none => g.ccfg

/-- First failing capacity check of a direction at a level: LAYERS, CARRIERS, BAND (R228, R229); carriers that are enabled or
to be enabled count (log 18). -/
def Device.capacityFail (d : Device) (level dir : Nat) (ccfg : Nat → Nat) : Nat :=
  let on := ((List.range 4).map fun c => 4 * dir + c).filter fun k => bitsOf (ccfg k) 31 1 == 1
  if on.any fun k => 8 * capacityLevel level < bitsOf (ccfg k) 16 6 then 2
  else if carrierLimit level < on.length then 3
  else if !bandFits level (on.foldl (fun t k => t + (d.ofPlanned k).1.band) 0) then 4
  else 0

/-- The first failing check of a staged BM_CCFG and BM_CTIME (R228). -/
def Device.bmCheck (d : Device) (i ccfg ctime : Nat) : Nat :=
  let nl := bitsOf ccfg 16 6
  let g := bitsOf ccfg 8 5
  if nl < 1 || 32 < nl || g < 1 || 16 < g || bitsOf ctime 24 2 = 3 then 1
  else
    let e := d.capacityFail d.level (i / 4) fun k => if k = i then ccfg else (d.grd k).ccfgPlan
    if e ≠ 0 then e
    else if i < 4 && !commitOk (d.ofPlanned i).1 (bitsOf ctime 0 10) then 5
    else 0

/-- GO in BM_CHG (R228): refused, or armed for its half-subframe. -/
def bmGo (i atMode at' : Nat) (d : Device) : Device :=
  let ccfg := d.rd (A.BM_CCFG i)
  let ctime := d.rd (A.BM_CTIME i)
  let e := d.bmCheck i ccfg ctime
  let e := if e = 0 && atMode = 1 && 19 < at' then 6 else e
  if e ≠ 0 then (d.set (L.BM_CSTAT_ERRC i) e).bmEvent L.BM_CEVENT_ERR i 1 []
  else
    let late := atMode == 1 && d.halfPast at'
    let when' : Option Nat := if atMode = 0 then none else if late then some nextHalf else some at'
    let d := d.setGrd i { d.grd i with bchg := some ⟨ccfg, ctime, when', d.ticks⟩ }
    (d.set (L.BM_CSTAT_PEND i) 1).when late fun d => d.bmEvent L.BM_CEVENT_LATE i 1 []

/-- The settings in force of an enabled carrier break BAND or COMMIT at the level in force (R227, R229, R230). -/
def Device.capBroken (d : Device) (i : Nat) : Bool :=
  let g := d.grd i
  let on := ((List.range 4).map fun c => 4 * (i / 4) + c).filter fun k => (d.grd k).beamOn
  let band := on.foldl (fun t k => t + (d.grd k).of.band) 0
  g.beamOn && (!bandFits d.level band || (i < 4 && !commitOk g.of g.commitOff))

/-- An armed commit takes effect (R228); one that does not match the settings leaves CAP_MM (R229). -/
def bmApply (i : Nat) (d : Device) : Device :=
  let g := d.grd i
  match g.bchg with
  | none => d
  | some c =>
    let d := d.setGrd i { g with ccfg := c.ccfg, ctime := c.ctime, bchg := none }
    let d := d.set (L.BM_CSTAT_PEND i) 0
    if d.get (L.BM_CSTAT_STATE i) = 2 && d.capBroken i then d else d.set (L.BM_CSTAT_STATE i) (bitsOf c.ccfg 31 1)

/-- The beam commits due at half-subframe `h`. -/
def bmHalf (h : Nat) (d : Device) : Device :=
  d.each 8 fun i d =>
    match (d.grd i).bchg with
    | some c => if commitDue d c.at? c.tick h then bmApply i d else d
    | none => d

/-- After OFDM commits (R229): a carrier whose new settings break BAND or COMMIT is flagged, once. -/
def capCheck (old : Device) (d : Device) : Device :=
  d.each 8 fun i d =>
    if (old.grd i).of ≠ (d.grd i).of && d.capBroken i && d.get (L.BM_CSTAT_STATE i) ≠ 2 then
      (d.set (L.BM_CSTAT_STATE i) 2).bmEvent L.BM_CEVENT_CAP_MM i 5 []
    else d

/-! ## Element ramps (R226) -/

/-- A carrier that stops takes its legs out of every ramp; a ramp with none left ends. -/
def rampDropCarrier (i : Nat) (d : Device) : Device :=
  d.each 64 fun e d =>
    match tabGet? d.ramps (64 * (i / 4) + e) with
    | none => d
    | some r =>
      let legs := r.legs.filter fun l => l.carrier != i % 4
      if legs.isEmpty then rampFinish (i / 4) e r.target d
      else { d with ramps := tabPut d.ramps (64 * (i / 4) + e) { r with legs := legs } }

/-- Legs of carrier `i` that have not begun start at symbol `s`, whose commit point comes now. -/
def rampCommit (i s : Nat) (d : Device) : Device :=
  { d with ramps := d.ramps.map fun (k, r) =>
      if k / 64 = i / 4 then
        (k, { r with legs := r.legs.map fun l =>
          if l.carrier = i % 4 && l.start.isNone then { l with start := some s } else l })
      else (k, r) }

/-- The ramp of one element at symbol `s` of carrier `i`: the gain of R226, and the end once every leg is through. -/
def rampSymbol (i s e : Nat) (d : Device) : Device :=
  let key := 64 * (i / 4) + e
  match tabGet? d.ramps key with
  | none => d
  | some r =>
    let legs := r.legs.map fun l =>
      match l.start with
      | some b =>
        let k := (s + 65536 - b) % 65536
        if l.carrier = i % 4 && k < 32768 then { l with i := k } else l
      | none => l
    let d := legs.foldl (fun (d : Device) l =>
      if l.carrier = i % 4 && l.start.isSome && (s + 65536 - l.start.getD s) % 65536 < 32768 then
        { d with gains := tabPut d.gains (key * 4 + l.carrier) (rampGain l.g0 r.target r.len l.i) }
      else d) d
    let d := { d with ramps := tabPut d.ramps key { r with legs := legs } }
    if legs.all fun l => r.len ≤ l.i then rampFinish (i / 4) e r.target d else rampShow (i / 4) e d

/-- Every ramp of a direction at a symbol of one of its carriers. -/
def rampSymbols (i s : Nat) (d : Device) : Device := d.each 64 (rampSymbol i s)

/-! ## Symbols -/

/-- A symbol nothing is known about. -/
def SymCtl.idle (fn n : Nat) : SymCtl :=
  ⟨fn, n, none, [], [], [], false, false, false, false, none, [], (0, 0, 4096), false, false, 0⟩

/-- The record of symbol (fn, n) of a downlink carrier. -/
def Device.symc (d : Device) (i fn n : Nat) : SymCtl :=
  tabGet (d.grd i).syms (SymCtl.idle fn n) (d.symOf i fn n)

/-- Replace it. -/
def Device.setSym (d : Device) (i fn n : Nat) (c : SymCtl) : Device :=
  d.setGrd i { d.grd i with syms := tabPut (d.grd i).syms (d.symOf i fn n) c }

/-! ## The run-ahead banks (R211) -/

/-- A value as a word: I at [15:0], Q at [31:16]. -/
def iqWord (x : Cx) : Nat := encodeSigned 16 x.1 + encodeSigned 16 x.2 * 65536

/-- The value at an address. -/
def iqAt (m : List Host.Cell) (a : Nat) : Cx := iqOf (memWord m a).toNat

/-- Values stored at consecutive words. -/
def storeRow (a : Nat) (xs : List Cx) (d : Device) : Device := d.store a (xs.flatMap fun x => bytesOf 4 (iqWord x))

/-- `n` values from an address on. -/
def rowAt (m : List Host.Cell) (a n : Nat) : List Cx := (List.range n).map fun k => iqAt m (a + 4 * k)

/-- Where layer input `k` of a downlink symbol is retained. -/
def retainAddr (sym c l k : Nat) : Nat := 0x13200000 + 4 * (((sym % 2 * 4 + c) * 32 + l) * 3300 + k)

/-- Where element input `k` of an uplink symbol is retained. -/
def ulRetain (sym c e k : Nat) : Nat := 0x14D00000 + 4 * (((sym % 2 * 4 + c) * 64 + e) * 3300 + k)

/-- Entries of the output area: what the downlink bank has after its retained inputs (R210, R211). -/
def outArea : Nat := 0x900000 / 4 - 844800

/-- Where output `k` of element `e` lies, of a symbol of `subs` subcarriers whose place begins at entry `slot`. -/
def outAddr (slot subs e k : Nat) : Nat := 0x13200000 + 4 * (844800 + slot + e * subs + k)

/-- Entries of a symbol's outputs. -/
def outSize (subs : Nat) : Nat := 64 * subs

/-- Places for the layer outputs of a symbol in the uplink bank. -/
def layerPlaces : Nat := 6

/-- Where layer output `k` of a place lies. -/
def layerAddr (slot l k : Nat) : Nat := 0x14D00000 + 4 * (1689600 + (slot * 32 + l) * 3300 + k)

/-- Subcarriers of the symbols of carrier `i`. -/
def Device.subsOf (d : Device) (i : Nat) : Nat := 12 * (d.grd i).of.nrb

/-- Places of the output area that hold a symbol: first entry, entries, and whether the symbol runs ahead of its commit point. -/
def Device.outsUsed (d : Device) : List (Nat × Nat × Bool) :=
  (List.range 4).flatMap fun c => (d.grd c).syms.filterMap fun x => x.2.slot.map fun s => (s, outSize (d.subsOf c), !x.2.fixed)

/-- A free place of `size` entries, the next in compute order before any other. -/
def Device.outPlace (d : Device) (size : Nat) : Option Nat :=
  let used := d.outsUsed
  (((d.dir 0).next :: used.map fun (u : Nat × Nat × Bool) => u.1 + u.2.1) ++ [0]).find? fun s =>
    s + size ≤ outArea && used.all fun (u : Nat × Nat × Bool) => s + size ≤ u.1 || u.1 + u.2.1 ≤ s

/-- Sections it has that were not discarded for their layer (R218). -/
def SymCtl.held (c : SymCtl) : Nat := (c.secs.filter fun x => !c.dropped.contains x.id).length

/-- It has been computed for the last time: the space of its sections is free (R350). -/
def SymCtl.settled (c : SymCtl) : SymCtl := { c with secs := [], used := c.held }

/-- The commit point of a symbol comes (R213, R217): ramps begin, and the content of a downlink symbol is fixed. -/
def commitPoint (i fn n : Nat) (d : Device) : Device :=
  let d := rampCommit i (d.symOf i fn n) d
  let c := d.symc i fn n
  if 4 ≤ i then d else d.setSym i fn n { (if c.computed then c.settled else c) with fixed := true }

/-! ## Weights (R207, R210, R54) -/

/-- Values 2 j and 2 j + 1 of block `b` of a section: I and Q, and how many saturated. -/
def DlSection.value (s : DlSection) (b j : Nat) : Int × Int × Nat := blockValue s.mw s.body b j

/-- The section that supplies a layer's resource block: the highest SECID (R352). -/
def supplier (secs : List DlSection) (l rb : Nat) : Option DlSection :=
  secs.foldl (fun best s =>
    if s.layer = l && s.rb0 ≤ rb && rb < s.rb0 + s.nrbs then
      match best with
      | some b => if b.id ≤ s.id then some s else best
      | none => some s
    else best) none

/-- The layer input of subcarrier `k` (R207), with its saturation count. -/
def layerInput (secs : List DlSection) (l k : Nat) : Int × Int × Nat :=
  match supplier secs l (k / 12) with
  | some s => s.value (k / 12 - s.rb0) (k % 12)
  | none => (0, 0, 0)

/-- The address of a weight entry (R210). -/
def weightAddr (dir bank c g l e : Nat) : Nat :=
  0x12000000 + dir * 0x1B00000 + bank * 0x900000 + 4 * (((c * 288 + g) * 32 + l) * 64 + e)

/-- Source bank, target bank and weight of the target in 1/4,096 for symbol `s` of an object whose requests are `c` and whose
ACTIVE is `act` (R54, R214). -/
def mixAt (c : XfCtl) (act s : Nat) : Nat × Nat × Nat :=
  let seg := fun (cur : Nat × Nat × Nat) (start fade target : Nat) =>
    let k := (s + 65536 - start) % 65536
    if 32768 ≤ k then cur
    else if k < fade then (cur.2.1, target, rampWeight k fade)
    else (target, target, 4096)
  match c.fade with
  | some f =>
    let m := seg (act, act, 4096) f.start f.fade f.target
    match c.pend with
    | some r =>
      let first := (f.start + f.fade + 1) % 65536
      let own := r.at?.getD first
      seg m (if (own + 65536 - first) % 65536 < 32768 then own else first) r.fade r.target
    | none => m
  | none =>
    match c.armed with
    | some r =>
      match r.at? with
      | some b => seg (act, act, 4096) b r.fade r.target
      | none => (act, act, 4096)
    | none => (act, act, 4096)

/-- What two banks give under a mix (R54). -/
def mixOf (mx : Nat × Nat × Nat) (read : Nat → Cx) : Cx :=
  let x := read mx.1
  if mx.1 = mx.2.1 then x
  else
    let y := read mx.2.1
    (blendCoef mx.2.2 x.1 y.1, blendCoef mx.2.2 x.2 y.2)

/-- The mix of an object's banks at symbol `s` of its carrier. -/
def Device.mix (d : Device) (o : XfObj) (s : Nat) : Nat × Nat × Nat := mixAt (d.xfc o) (d.xfActive o) s

/-- The weight of a group in use under a mix (R207, R210, R54). -/
def weightIn (m : List Host.Cell) (i : Nat) (mx : Nat × Nat × Nat) (g l e : Nat) : Cx :=
  mixOf mx fun bank =>
    let v := (memWord m (weightAddr (i / 4) bank (i % 4) g l e)).toNat
    (unitPart (bitsOf v 0 16), unitPart (bitsOf v 16 16))

/-- The weights of subcarrier `k` by layer and element, in groups of `group` resource blocks (R209). -/
def weightsAt (m : List Host.Cell) (i group : Nat) (mx : Nat × Nat × Nat) (k l e : Nat) : Cx :=
  weightIn m i mx (k / 12 / group) l e

/-- BM_CCFG that a carrier-symbol is computed under: an uplink symbol's own, else the one in force (R208, R228). -/
def Device.symCcfg (d : Device) (dir c sym : Nat) : Nat :=
  let g := d.grd (4 * dir + c)
  if dir = 0 then g.ccfg
  else match tabGet? g.uls sym with
    | some u => u.ccfg
    | none => g.ccfg

/-- The element is dropped in a direction (R225). -/
def Device.elemDropped (d : Device) (dir e : Nat) : Bool := bitsOf (d.rd (A.BM_RODMAP dir (e / 4))) (8 * (e % 4) + 7) 1 == 1

/-- The elements that have a rod. -/
def Device.elems (d : Device) (dir : Nat) : List Nat := (List.range 64).filter fun e => !d.elemDropped dir e

/-- A weight entry in use by carrier `i` has an uncorrectable error (R402): of its active bank, or the bank a fade brings. -/
def Device.weightBad (d : Device) (i : Nat) : Bool :=
  let g := d.grd i
  let c := d.xfc (.beam i)
  let used := fun (b : Nat) => b == d.xfActive (.beam i) || (match c.fade with | some f => f.target == b | none => false)
  d.eccBad.any fun a => [0, 1].any fun b =>
    let base := weightAddr (i / 4) b (i % 4) 0 0 0
    used b && base ≤ a && a < base + 0x240000 && (a - base) / 0x2000 * g.group < g.of.nrb && (a - base) % 0x2000 / 0x100 < g.nl

/-- OSH of a BM_CCFG. -/
def oshOf (ccfg : Nat) : Nat := bitsOf ccfg 28 3
/-- NL of a BM_CCFG. -/
def nlOf (ccfg : Nat) : Nat := bitsOf ccfg 16 6
/-- G of a BM_CCFG. -/
def groupOf (ccfg : Nat) : Nat := max 1 (bitsOf ccfg 8 5)

/-! ## When GRID computes a downlink symbol (R215, R216) -/

/-- The Sections condition (R353): every accepted section counts, those discarded for their layer too. -/
def SymCtl.complete (c : SymCtl) : Bool :=
  match c.expect with
  | some n => n ≤ c.secs.length
  | none => false

/-- The symbol lies within RA_LEAD slots of its air time; a slot is 14 symbols, and RA_LEAD = 0 has no lead. -/
def Device.inLead (d : Device) (i fn n : Nat) : Bool :=
  let g := d.grd i
  let lead := bitsOf g.ctime 24 2
  let slot := if g.of.ecp then 14 * g.of.symTicks else 245760 / 2 ^ g.of.mu
  lead != 0 && d.airIn i fn n ≤ ((lead * slot * 15625 : Nat) : Int)

/-- Carriers of the downlink that beamform. -/
def Device.dlCarriers (d : Device) : List Nat := (List.range 4).filter fun i => (d.grd i).of.live && (d.grd i).beamOn

/-- Ticks from a symbol's commit point to its IFFT: T_long to compute it and 9 µs (R198, R230). -/
def OfSet.ifftTicks (s : OfSet) : Nat := s.longTicks + 9 * 24576 / 100

/-- Entries in reserve for the symbols of carrier `i` between commit point and IFFT, the computing of one overlapping the wait of
the one before (R216; log 119). -/
def Device.outReserve (d : Device) (i : Nat) : Nat :=
  let s := (d.grd i).of
  (outSize (d.subsOf i) * s.ifftTicks + s.symTicks - 1) / max 1 s.symTicks

/-- The output area has room for a symbol of carrier `i` that runs ahead, beside those that do and the reserve (R215, R216). -/
def Device.outRoom (d : Device) (i : Nat) : Bool :=
  let size := outSize (d.subsOf i)
  let ahead := ((d.outsUsed.filter (·.2.2)).map (·.2.1)).foldl (· + ·) 0
  ahead + size + (d.dlCarriers.map d.outReserve).foldl (· + ·) 0 ≤ outArea && (d.outPlace size).isSome

/-- The rank of a symbol's work in the order of R216: 1 its commit point has come, 2 it is computed again, 3 it runs ahead; none
while it has none, or its air time is past. -/
def Device.dlWork (d : Device) (i : Nat) (c : SymCtl) : Option Nat :=
  if c.computed || d.airIn i c.fn c.n < 0 then none
  else if c.fixed then some 1
  else if d.inLead i c.fn c.n && c.complete && d.outRoom i then some (if c.again then 2 else 3)
  else none

/-- The symbol is GRID's next work: no replay is due, and no symbol has work of a lower rank, or of its rank and an earlier air
time (R215, R216). -/
def Device.dlTurn (d : Device) (i : Nat) (c : SymCtl) : Bool :=
  match d.dlWork i c with
  | none => false
  | some k =>
    (d.dir 0).replay.isEmpty && d.dlCarriers.all fun j => (d.grd j).syms.all fun x =>
      match d.dlWork j x.2 with
      | none => true
      | some k' => k < k' || (k == k' && d.airIn i c.fn c.n ≤ d.airIn j x.2.fn x.2.n)

/-! ## Rods (R221–R225) -/

/-- The rod that serves an element. -/
def Device.rodOf (d : Device) (dir e : Nat) : Nat := bitsOf (d.rd (A.BM_RODMAP dir (e / 4))) (8 * (e % 4)) 7
/-- A rod is retired. -/
def Device.rodRetired (d : Device) (dir r : Nat) : Bool := bitsOf (d.rd (A.BM_RETIRED dir (r / 32))) (r % 32) 1 == 1
/-- A spare rod that is neither retired nor mapped to an element. -/
def Device.rodFree (d : Device) (dir r : Nat) : Bool := !d.rodRetired dir r && (List.range 64).all fun e => d.rodOf dir e != r
/-- The spare rods of a direction. -/
def spareRods : List Nat := [64, 65, 66, 67]
/-- The lowest-numbered free spare rod. -/
def Device.freeRod (d : Device) (dir : Nat) : Option Nat := spareRods.find? (d.rodFree dir)

/-- The working rod after `r` in the rotation (R221). -/
def Device.nextWorking (d : Device) (dir r : Nat) : Nat :=
  (((List.range 64).map fun k => (r + 1 + k) % 64).find? fun w => !d.rodRetired dir w).getD r

/-- A carrier-symbol is computed: each free spare shadows the next working rod, rod 0 first (R221; log 120). -/
def shadowStep (dir : Nat) (d : Device) : Device :=
  let k := d.dir dir
  let free := spareRods.filter (d.rodFree dir)
  d.setDir dir { k with shadow := free.foldl (fun t r => tabPut t r (d.nextWorking dir (tabGet k.shadow 63 r))) k.shadow }

/-! ## Downlink computation (R207, R208) -/

/-- The layer inputs of a downlink symbol by layer, with the number of values that saturated in decompression. -/
def dlInputs (nl n : Nat) (secs : List DlSection) : List (List Cx) × Nat :=
  let rows := (List.range nl).map fun l => (List.range n).map fun k => layerInput secs l k
  (rows.map fun r => r.map fun x => (x.1, x.2.1), (rows.flatMap fun r => r.map fun x => x.2.2).foldl (· + ·) 0)

/-- The outputs of element `e` on subcarriers 0 to `n − 1`, before the ramp gain, each with its saturation; a dropped element
gives zero (R208, R225). -/
def Device.dlOutputs (d : Device) (m : List Host.Cell) (i : Nat) (mx : Nat × Nat × Nat) (ins : List (List Cx)) (n e : Nat) :
    List (Cx × Bool) :=
  let c := (d.grd i).ccfg
  (List.range n).map fun k =>
    if d.elemDropped 0 e then (cx0, false)
    else oshOut (oshOf c) (dlRod (nlOf c) (weightsAt m i (groupOf c) mx k) (fun l => (ins.getD l []).getD k cx0) e)

/-- The outputs of every element into a place of the output area. -/
def storeOuts (slot subs : Nat) (rows : List (List Cx)) (d : Device) : Device :=
  ((List.range 64).zip rows).foldl (fun d x => storeRow (outAddr slot subs x.1 0) x.2 d) d

/-- Rows by element, those all zero left out. -/
def loudRows (rows : List (List Cx)) : List (Nat × List Cx) := ((List.range 64).zip rows).filter fun x => !(quiet x.2).isEmpty

/-- Saturated outputs of carrier `i` are counted and raise SAT (R208). -/
def beamSat (i n : Nat) (d : Device) : Device :=
  (d.addSat (L.BM_CCNT_SAT i) n).when (n != 0) fun d => d.eventLimited (L.BM_CEVENT_SAT i) ticksPerMs isleGRID 18 0 i 2 []

/-- GRID computes a downlink symbol (R215–R218): its commit point has come, or it is in the lead with every section and room
in the output area; its inputs are retained and its outputs stored (R211).  Outputs that find no place stream to the IFFT
(log 119). -/
def dlCompute (i fn n : Nat) (m : List Host.Cell) (d : Device) : Device :=
  let g := d.grd i
  let c := d.symc i fn n
  if i < 4 && g.of.live && g.beamOn && d.dlTurn i c then
    let all' := if c.withheld then [] else c.secs
    let secs := all'.filter fun x => x.layer < g.nl
    let outs := ((all'.filter fun x => g.nl ≤ x.layer).map (·.id)).filter fun x => !c.dropped.contains x
    let sym := d.symOf i fn n
    let subs := 12 * g.of.nrb
    let mx := d.mix (.beam i) sym
    let (ins, excess) := dlInputs g.nl subs secs
    let ys := (List.range 64).map (d.dlOutputs m i mx ins subs)
    let rows := ys.map fun r => r.map (·.1)
    let sats := (ys.map fun r => (r.filter (·.2)).length).foldl (· + ·) 0
    let bad := c.invalid || d.repeats i fn n || d.weightBad i || secs.any (·.inv) || d.get (L.BM_CSTAT_STATE i) == 2
    let place := d.outPlace (outSize subs)
    let d := ((List.range g.nl).zip ins).foldl (fun (d : Device) x => storeRow (retainAddr sym i x.1 0) x.2 d) d
    let d := match place with
      | some s => (storeOuts s subs rows d).setDir 0 { d.dir 0 with next := s + outSize subs }
      | none => d
    let c := { c with dropped := c.dropped ++ outs }
    let d := d.setSym i fn n { (if c.fixed then c.settled else c) with
      computed := true, invalid := bad, slot := place, outs := if place.isSome then [] else loudRows rows, mix := mx, again := false }
    let d := shadowStep 0 d
    let d := (d.addSat (L.BM_CCNT_DROP i) outs.length).addSat (L.GST_CNT_COUNT 15) excess
    beamSat i sats d
  else d

/-! ## The uplink on one subcarrier (R207, R208) -/

/-- The record of an uplink symbol by SYM. -/
def Device.ulSym (d : Device) (c sym : Nat) : Option UlSym := tabGet? (d.grd (4 + c)).uls sym

/-- Replace it. -/
def Device.setUl (d : Device) (c sym : Nat) (u : UlSym) : Device :=
  let g := d.grd (4 + c)
  d.setGrd (4 + c) { g with uls := tabPut g.uls sym u }

/-- y'_e = r_e × y_e rounded to 16 bits, of an element input `y` under a ramp gain (R208, R219). -/
def rampedInput (gain : Nat) (y : Cx) : Cx := cxRound 4096 (cxScale gain y)

/-- y'_e of a symbol from its retained inputs; a dropped element's is zero (R225). -/
def Device.ulInput (d : Device) (m : List Host.Cell) (c sym e k : Nat) : Cx :=
  if d.elemDropped 1 e then cx0
  else
    let gain := match d.ulSym c sym with
      | some u => tabGet u.gains 4096 e
      | none => d.gain 1 e c
    rampedInput gain (iqAt m (ulRetain sym c e k))

/-! ## Checks (R219, R220) -/

/-- The mix a carrier-symbol was computed with (R222). -/
def Device.symMix (d : Device) (dir c sym : Nat) : Nat × Nat × Nat :=
  let now := d.mix (.beam (4 * dir + c)) sym
  if dir = 0 then
    match tabGet? (d.grd c).syms sym with
    | some s => if s.computed then s.mix else now
    | none => now
  else
    match d.ulSym c sym with
    | some u => u.mix
    | none => now

/-- The rod sums of subcarrier `k` of a carrier-symbol from its retained inputs, as rods with errors form them. -/
def Device.rodSums (d : Device) (m : List Host.Cell) (dir c sym : Nat) (errs : List RodErr) (k e : Nat) : Cx :=
  let i := 4 * dir + c
  let cfg := d.symCcfg dir c sym
  let nl := nlOf cfg
  let w := weightsAt m i (groupOf cfg) (d.symMix dir c sym) k
  let a := if dir = 0 then dlRod nl w (fun l => iqAt m (retainAddr sym c l k)) e else ulRod nl w (fun e => d.ulInput m c sym e k) e
  cxAdd a (errOf errs e)

/-- The layer sums of subcarrier `k` of an uplink symbol, with the errors of rods and layer tree. -/
def Device.layerSums (d : Device) (m : List Host.Cell) (c sym : Nat) (errs : List RodErr) (k l : Nat) : Cx :=
  let es := d.elems 1
  cxAdd (ulTree es (weightsAt m (4 + c) (groupOf (d.symCcfg 1 c sym)) (d.symMix 1 c sym) k) (fun e => d.ulInput m c sym e k) l) (errLayer errs es l)

/-- Both residues of subcarrier `k` (R219); `errs` are the errors on it. -/
def Device.residues (d : Device) (m : List Host.Cell) (dir c sym : Nat) (errs : List RodErr) (k : Nat) : Cx × Cx :=
  let i := 4 * dir + c
  let cfg := d.symCcfg dir c sym
  let nl := nlOf cfg
  let es := d.elems dir
  let w := weightsAt m i (groupOf cfg) (d.symMix dir c sym) k
  let a := d.rodSums m dir c sym errs k
  if dir = 0 then dlResidues es a (checksErr errs (dlChecks es nl w fun l => iqAt m (retainAddr sym c l k)))
  else ulResidues es nl a (d.layerSums m c sym errs k) (checksErr errs (ulChecks es nl w fun e => d.ulInput m c sym e k))

/-- The result of the check of subcarrier `k` of a carrier-symbol under a list of errors (R220). -/
def Device.checkOf (d : Device) (m : List Host.Cell) (dir c sym : Nat) (errs : List RodErr) (k : Nat) : CheckResult :=
  classify (d.residues m dir c sym (errs.filter fun r => r.sub == k) k)

/-- The subcarriers that errors hit. -/
def errSubs (errs : List RodErr) : List Nat := (errs.map (·.sub)).eraseDups

/-- The elements that the checks of a carrier-symbol locate. -/
def Device.locatedIn (d : Device) (m : List Host.Cell) (dir c sym : Nat) (errs : List RodErr) : List Nat :=
  ((errSubs errs).filterMap fun k =>
    match d.checkOf m dir c sym errs k with
    | .located e => some e
    | _ => none).eraseDups

/-- Some check of a carrier-symbol gives UNLOCATED. -/
def Device.unlocatedIn (d : Device) (m : List Host.Cell) (dir c sym : Nat) (errs : List RodErr) : Bool :=
  (errSubs errs).any fun k => d.checkOf m dir c sym errs k == .unlocated

/-- The check of a carrier-symbol is evaluated: checking is on (R224), and an uplink symbol did not arrive invalid (R218). -/
def Device.checked (d : Device) (dir c sym : Nat) : Bool :=
  !d.on (L.BM_DSTAT_CHK dir) && (dir == 0 || match d.ulSym c sym with
    | some u => !u.inv
    | none => true)

/-! ## Outputs written anew (R222) -/

/-- One element output of a downlink symbol: in its place, or among those on their way to the IFFT. -/
def dlPut (c sym e k : Nat) (y : Cx) (d : Device) : Device :=
  let g := d.grd c
  match tabGet? g.syms sym with
  | none => d
  | some s =>
    match s.slot with
    | some p => storeRow (outAddr p (d.subsOf c) e k) [y] d
    | none =>
      if s.computed then
        let row := tabGet s.outs (List.replicate (12 * g.of.nrb) cx0) e
        d.setGrd c { g with syms := tabPut g.syms sym { s with outs := tabPut s.outs e (row.set k y) } }
      else d

/-- One layer output of an uplink symbol. -/
def ulPut (c sym l k : Nat) (z : Cx) (d : Device) : Device :=
  match d.ulSym c sym with
  | none => d
  | some u =>
    if u.done then
      storeRow (layerAddr u.slot l k) [z]
        (d.setUl c sym { u with layers := u.layers.set l ((u.layers.getD l []).set k z) })
    else d

/-- One output of a carrier-symbol with errors and its saturation: a saturation that the output has without them too is the first
computation's, already counted (R208). -/
def anewOut (osh : Nat) (sum : List RodErr → Cx) (errs : List RodErr) : Cx × Bool :=
  let y := oshOut osh (sum errs)
  (y.1, y.2 && (errs.isEmpty || !(oshOut osh (sum [])).2))

/-- The outputs of the given subcarriers of a carrier-symbol, from its retained inputs, with errors or (R222) without; those that
saturate are counted (R208). -/
def outsAnew (dir c sym : Nat) (errs : List RodErr) (subs : List Nat) (m : List Host.Cell) (d : Device) : Device :=
  let cfg := d.symCcfg dir c sym
  let one := fun (d : Device) (k e : Nat) (here : List RodErr) =>
    if dir = 0 then (if d.elemDropped 0 e then (cx0, false) else anewOut (oshOf cfg) (fun r => d.rodSums m 0 c sym r k e) here)
    else anewOut (oshOf cfg) (fun r => d.layerSums m c sym r k e) here
  let rows := subs.flatMap fun k =>
    (List.range (if dir = 0 then 64 else nlOf cfg)).map fun e => (k, e, one d k e (errs.filter fun r => r.sub == k))
  let d := rows.foldl (fun d x => if dir = 0 then dlPut c sym x.2.1 x.1 x.2.2.1 d else ulPut c sym x.2.1 x.1 x.2.2.1 d) d
  beamSat (4 * dir + c) (rows.filter fun x => x.2.2.2).length d

/-! ## Fault handling (R221–R225) -/

/-- A rod is retired until the next cold reset. -/
def rodRetire (dir r : Nat) (d : Device) : Device :=
  let a := A.BM_RETIRED dir (r / 32)
  d.wr a (putBits (d.rd a) (r % 32) 1 1)

/-- One free spare fewer; REDUND_LOST at 0. -/
def rodSpareGone (dir r : Nat) (d : Device) : Device :=
  let n := d.get (L.BM_DSTAT_SPARES dir) - 1
  let d := (d.set (L.BM_DSTAT_SPARES dir) n).set (L.BM_DSTAT_REDUND dir) (bit (n != 0))
  d.when (n == 0) fun d => d.bmDirEvent L.BM_DEVENT_REDUND_LOST dir r 4

/-- BM_FAULT latches a fault. -/
def beamFault (dir cause c e r sym : Nat) (d : Device) : Device :=
  ((((d.set (L.BM_FAULT_CAUSE dir) cause).set (L.BM_FAULT_CARRIER dir) c).set (L.BM_FAULT_ELEM dir) e).set
    (L.BM_FAULT_ROD dir) r).set (L.BM_FAULT_SYM_SYM dir) sym

/-- An element with no spare left is dropped (R225), and its path's flag clears where PATH_CFG.DROP says so (R259). -/
def elemDrop (dir e r : Nat) (d : Device) : Device :=
  let a := A.BM_RODMAP dir (e / 4)
  let d := (d.wr a (putBits (d.rd a) (8 * (e % 4) + 7) 1 1)).set (L.BM_DSTAT_ELEM_DROP dir) 1
  let d := d.bmDirEvent L.BM_DEVENT_ELEM_LOST dir r 4
  let d := d.log isleGRID 4 18 r (common 10) [(8 + dir, 8), (0, 24)]
  d.when (d.on (L.PATH_CFG_DROP e)) (pathFlagClear dir e (8 + dir))

/-- One located element (R222): its rod is retired and the lowest free spare takes the element. -/
def rodFault (dir c e sym : Nat) (d : Device) : Device :=
  if d.elemDropped dir e then d
  else
    let r := d.rodOf dir e
    let d := (beamFault dir 1 c e r sym (rodRetire dir r d)).bmDirEvent L.BM_DEVENT_ROD_FAULT dir r 3
    match d.freeRod dir with
    | some k =>
      let a := A.BM_RODMAP dir (e / 4)
      let d := (d.wr a (putBits (d.rd a) (8 * (e % 4)) 7 k)).bmDirEvent L.BM_DEVENT_SUBST dir k 3
      rodSpareGone dir k d
    | none => elemDrop dir e r d

/-- The carrier-symbol is flagged invalid (R223). -/
def symBad (dir c sym : Nat) (d : Device) : Device :=
  let i := 4 * dir + c
  let g := d.grd i
  if dir = 0 then
    d.setGrd i { g with syms := g.syms.map fun x => if x.1 = sym then (x.1, { x.2 with invalid := true }) else x }
  else d.setGrd i { g with bad := if g.bad.contains sym then g.bad else g.bad ++ [sym] }

/-- A carrier-symbol is to be replayed, or has had its last replay (R223). -/
def replayAsk (dir c sym limit : Nat) (unloc : Bool) (d : Device) : Device :=
  let k := d.dir dir
  let mine := fun (r : Replay) => r.carrier == c && r.sym == sym
  let rest := k.replay.filter fun r => !mine r
  let times := match k.replay.find? mine with
    | some r => if r.unloc && unloc then 2 else r.times
    | none => 0
  if times < limit then
    (d.setDir dir { k with replay := rest ++ [⟨c, sym, times + 1, unloc⟩] }).inc (L.BM_CCNT_REPLAY (4 * dir + c))
  else symBad dir c sym (d.setDir dir { k with replay := rest })

/-- A LOCATED result (R222, R223): the rods of the elements that the checks of one carrier-symbol name are retired, in ascending
rod order, and the symbol is replayed.  Errors that no check looks at stay in the outputs (R224). -/
def located (dir c sym : Nat) (errs : List RodErr) (m : List Host.Cell) (d : Device) : Device :=
  let elems := d.locatedIn m dir c sym errs
  let d' := outsAnew dir c sym errs (errSubs errs) m d
  if !d.checked dir c sym || elems.isEmpty then d'
  else
    let order := (List.range 68).flatMap fun r => (List.range 64).filter fun e => elems.contains e && d.rodOf dir e == r
    replayAsk dir c sym 2 false (order.foldl (fun d e => rodFault dir c e sym d) d')

/-- An UNLOCATED result (R223, R224): one replay, and checking is suspended after 8 consecutive symbols of one
carrier (log 105). -/
def unlocated (dir c sym : Nat) (errs : List RodErr) (m : List Host.Cell) (d : Device) : Device :=
  let d' := outsAnew dir c sym errs (errSubs errs) m d
  if !d.checked dir c sym || !d.unlocatedIn m dir c sym errs then d'
  else
    let d := d'
    let k := d.dir dir
    let d := ((d.set (L.BM_FAULT_CAUSE dir) 2).set (L.BM_FAULT_CARRIER dir) c).set (L.BM_FAULT_SYM_SYM dir) sym
    let d := d.eventLimited (L.BM_DEVENT_UNLOC dir) ticksPerMs isleGRID 18 0 (8 + dir) 3 []
    let run := match tabGet? k.unloc c with
      | some (s, n) => if s = sym then n else if (s + 1) % 65536 = sym then n + 1 else 1
      | none => 1
    let d := d.setDir dir { k with unloc := tabPut k.unloc c (sym, run) }
    if 8 ≤ run then
      let d := d.setDir dir { d.dir dir with replay := [] }
      (d.set (L.BM_DSTAT_CHK dir) 1).bmDirEvent L.BM_DEVENT_CHK_SUSP dir 0 4
    else replayAsk dir c sym 2 true d

/-- A replay completes and its check passes (R222): every output comes anew from the retained inputs, with the map of now and
the banks and fade coefficients of the first computation. -/
def replayDone (dir c sym : Nat) (m : List Host.Cell) (d : Device) : Device :=
  let k := d.dir dir
  let mine := fun (r : Replay) => r.carrier == c && r.sym == sym
  if k.replay.any mine then
    outsAnew dir c sym [] (List.range (12 * (d.grd (4 * dir + c)).of.nrb)) m
      (d.setDir dir { k with replay := k.replay.filter fun r => !mine r })
  else d

/-- A shadowing spare disagrees with its working rod on a subcarrier (R221): `own` is how far the spare is off, `errs` how far
the rods are.  It is retired where the check passes; where the check locates, the working rod is at fault. -/
def spareMismatch (dir r c sym : Nat) (own : RodErr) (errs : List RodErr) (m : List Host.Cell) (d : Device) : Device :=
  let here := errs.filter fun x => x.sub == own.sub
  let e := tabGet (d.dir dir).shadow 0 r
  if d.rodFree dir r && spareRods.contains r && d.checked dir c sym && (own.re, own.im) != errOf here e then
    match d.checkOf m dir c sym here own.sub with
    | .pass => rodSpareGone dir r ((beamFault dir 3 c e r sym (rodRetire dir r d)).bmDirEvent L.BM_DEVENT_SPARE_FAULT dir r 3)
    | .located _ => located dir c sym here m d
    | .unlocated => d
  else d

/-! ## Meanings -/

/-- SYMBOL_COMMIT_POINT (R213, R217). -/
def execSymbolCommitPoint (i fn n : Nat) (s : State) : Host.Outcome State Fault Refusal :=
  actDev (.symbolCommitPoint i fn n) s (commitPoint i fn n)
/-- DL_SYMBOL_COMPUTE (R208, R215). -/
def execDlSymbolCompute (i fn n : Nat) (s : State) : Host.Outcome State Fault Refusal :=
  act (.dlSymbolCompute i fn n) s (dlCompute i fn n)
/-- ROD_LOCATED_FAULT (R222, R223). -/
def execRodLocatedFault (dir c sym : Nat) (errs : List RodErr) (s : State) : Host.Outcome State Fault Refusal :=
  act (.rodLocatedFault dir c sym errs) s (located dir c sym errs)
/-- BEAM_REPLAY_DONE (R222). -/
def execBeamReplayDone (dir c sym : Nat) (s : State) : Host.Outcome State Fault Refusal :=
  act (.beamReplayDone dir c sym) s (replayDone dir c sym)
/-- CHECK_UNLOCATED (R223, R224). -/
def execCheckUnlocated (dir c sym : Nat) (errs : List RodErr) (s : State) : Host.Outcome State Fault Refusal :=
  act (.checkUnlocated dir c sym errs) s (unlocated dir c sym errs)
/-- SPARE_ROD_MISMATCH (R221). -/
def execSpareRodMismatch (dir rod c sym : Nat) (own : RodErr) (errs : List RodErr) (s : State) : Host.Outcome State Fault Refusal :=
  act (.spareRodMismatch dir rod c sym own errs) s (spareMismatch dir rod c sym own errs)

end Sys2Proof.Machine
end

