-- ==== Sys2Proof/Machine/Rx.lean ====
section
/-! DEFINITION. The receive and observation converters: states, zones, attenuation, spare-slice rotation, slice faults and
coupler switches (R113–R137). -/
namespace Sys2Proof.Machine

/-- An event of a converter (CLASS 14, REG 0, RXCONV). -/
def Device.rxEvent (d : Device) (l : Nat → Loc) (n sev : Nat) : Device := d.event (l n) isleRXCONV 14 n 0 sev []

/-- The slice that holds position `p` (R122). -/
def Device.sliceAt (d : Device) (n p : Nat) : Nat := bitsOf (d.rd (A.RXADC_MAP n)) (4 * p) 4
/-- Position `p` held by a slice. -/
def setSlice (n p s : Nat) (d : Device) : Device := d.wr (A.RXADC_MAP n) (putBits (d.rd (A.RXADC_MAP n)) (4 * p) 4 s)
/-- The position a slice holds, if any. -/
def Device.posOf (d : Device) (n s : Nat) : Option Nat := (List.range 8).find? fun p => d.sliceAt n p == s
/-- The slice has been retired. -/
def Device.sliceFailed (d : Device) (n s : Nat) : Bool := bitsOf (d.get (L.RXADC_STAT_FAILED n)) s 1 == 1
/-- The converter samples. -/
def Device.rxSampling (d : Device) (n : Nat) : Bool := d.rxState n == 2 || d.rxState n == 3
/-- A spare slice is free to work: none is on its way to a faulty position. -/
def Device.spareFree (d : Device) (n : Nat) : Bool := d.on (L.RXADC_STAT_REDUND n) && (d.rxc n).takeover.isNone

/-! ## States -/

/-- The target of the next dwell (R127): the position named at 75 % of a range, else the one after the last taken, P0 first. -/
def RxCtl.target (c : RxCtl) : Nat :=
  c.nextTarget.getD (match c.taken with
    | some p => (p + 1) % 8
    | none => 0)

/-- CONVERGE is entered with the retained coefficients (R133); a new dwell starts where rotation is on, on the position after the
last one taken, before EN = 0 as after it (log 134).  A converter with no
spare slice resumes without rotation, so it is taken to RUN at once (R408; log 12). -/
def rxConverge (n : Nat) (d : Device) : Device :=
  let c := d.rxc n
  let rot := d.on (L.RXADC_CFG_ROT_EN n) && d.spareFree n
  let d := d.setRx n { c with
    phase := if rot then 1 else 0, spared := [], waiting := false, nextTarget := if rot then none else c.nextTarget }
  let d := d.when rot fun d => d.set (L.RXADC_STAT_TARGET n) c.target
  if d.on (L.RXADC_STAT_REDUND n) then (d.set (L.RXADC_STAT_STATE n) 2).set (L.RXADC_STAT_CONVERGED n) 0
  else (d.set (L.RXADC_STAT_STATE n) 3).set (L.RXADC_STAT_CONVERGED n) 1

/-- EN written 1 (R133): BIAS at once. -/
def rxEnable (n : Nat) (d : Device) : Device :=
  if d.rxState n = 0 then (d.set (L.RXADC_STAT_STATE n) 1).setRx n { d.rxc n with waiting := false } else d

/-- Bias has settled (R133): CONVERGE, or wait for the end of an outage. -/
def rxBiasDone (n : Nat) (d : Device) : Device :=
  if d.rxState n = 1 then
    if d.clk.outage then d.setRx n { d.rxc n with waiting := true } else rxConverge n d
  else d

/-- A sampler outage gates the converter (R127, R133). -/
def rxGate (n : Nat) (d : Device) : Device :=
  let st := d.rxState n
  if st = 1 || st = 2 || st = 3 then
    (d.setRx n { d.rxc n with before := st, phase := 0 }).set (L.RXADC_STAT_STATE n) 4
  else d

/-- The strobe that ends the outage (R127, R133): the state before GATED, a new dwell with the same target. -/
def rxUngate (n : Nat) (d : Device) : Device :=
  let c := d.rxc n
  if d.rxState n = 4 then
    let d := d.set (L.RXADC_STAT_STATE n) c.before
    let rot := d.on (L.RXADC_CFG_ROT_EN n) && d.spareFree n && d.rxSampling n
    d.setRx n { c with phase := if rot then 1 else 0 }
  else if d.rxState n = 1 && c.waiting then rxConverge n d
  else d

/-! ## Zone -/

/-- A write of ZONE (R117): 0 changes nothing and raises ZONE_ERR, and the write's other fields act all the same (log 114);
another zone is armed for the next LANE block, and the zone in force leaves none armed (log 114). -/
def rxZoneWrite (n old z : Nat) (d : Device) : Device :=
  let c := d.rxc n
  if z = 0 then (d.set (L.RXADC_CFG_ZONE n) old).rxEvent L.RXADC_EVENT_ZONE_ERR n 1
  else if z = c.zone then d.setRx n { c with zoneArmed := none }
  else d.setRx n { c with zoneArmed := some z }

/-- The armed zone at a LANE block boundary (R117): 1,536 samples carry VALID = 0 and the path's runs are marked (R183). -/
def rxZoneApply (n : Nat) (d : Device) : Device :=
  let c := d.rxc n
  match c.zoneArmed with
  | none => d
  | some z => rxSettle n 1536 0 (d.setRx n { c with zone := z, zoneArmed := none })

/-- Settling of a zone (0) or switch (1) change ends (R117, R135): the oldest run of that kind is over, and SETTLING falls with the
last of all. -/
def rxSettled (n what : Nat) (d : Device) : Device :=
  let l := (d.rxc n).settles
  rxSettlesKeep n (match l.find? fun x => x.2 == what with
    | some x => l.erase x
    | none => l) d

/-- At a LANE block boundary the settling runs whose samples have passed are over. -/
def rxSettleBlock (n : Nat) (d : Device) : Device :=
  let c := d.rxc n
  if c.settles.isEmpty then d else rxSettlesKeep n (c.settles.filter fun t => !d.samplesSince t.1 0) d

/-! ## Attenuation -/

/-- ATT codes 25–31 act as 24 (R118). -/
def attOf (a : Nat) : Nat := min a 24

/-- A RXADC_DSA write (R119): arms or replaces a change; an AT out of range changes no field. -/
def rxDsaWrite (n old : Nat) (d : Device) : Device :=
  let mode := d.get (L.RXADC_DSA_AT_MODE n)
  let at' := d.get (L.RXADC_DSA_AT n)
  let att := attOf (d.get (L.RXADC_DSA_ATT n))
  if mode = 1 && d.blockLimit ≤ at' then (d.wr (A.RXADC_DSA n) old).rxEvent L.RXADC_EVENT_DSA_ERR n 1
  else
    let late := mode == 1 && d.blockPast at'
    let when' : Option Nat := if mode = 0 then none else if late then some 65535 else some at'
    let d := (d.setRx n { d.rxc n with dsa := some (att, when') }).set (L.RXADC_DSA_PEND n) 1
    d.when late fun d => d.rxEvent L.RXADC_EVENT_LATE n 1

/-- The change applies (R120): nothing happens where it equals ACTIVE; else CHG marks the runs of R183 where a sample is taken
(R119: in an outage none flows; R133: none in OFF and BIAS). -/
def rxDsaTake (n att : Nat) (d : Device) : Device :=
  let d := (d.setRx n { d.rxc n with dsa := none }).set (L.RXADC_DSA_PEND n) 0
  if att = d.get (L.RXADC_DSA_ACTIVE n) then d
  else (d.set (L.RXADC_DSA_ACTIVE n) att).when (d.rxSampling n) fun d =>
    rxDisturb n 1 (if d.lowPower then 9 else 18) (d.setRxs n { d.rxs n with chg := (d.rxs n).chg ++ [d.laneNow] })

/-- A change under AT_MODE 0 applies at the first sample (R119). -/
def rxDsaApply (n : Nat) (d : Device) : Device :=
  match (d.rxc n).dsa with
  | some (att, none) => rxDsaTake n att d
  | _ => d

/-- A change under AT_MODE 1 applies at its LANE block; 65535 stands for the next one. -/
def rxDsaBlock (b n : Nat) (d : Device) : Device :=
  match (d.rxc n).dsa with
  | some (att, some k) => if k = b || k = 65535 then rxDsaTake n att d else d
  | _ => d

/-- A sample overranges (R121). -/
def rxOverrange (n : Nat) (d : Device) : Device :=
  (d.inc (L.RXADC_OVR_CNT_COUNT n)).eventLimited (L.RXADC_EVENT_OVR n) ticksPerMs isleRXCONV 14 n 0 2 []

/-! ## Rotation -/

/-- A write of ROT_EN (R127): 1 starts a new dwell on the position after the last one taken, at once or, in GATED, at the
strobe; 0 acts at the hand-over. -/
def rxRotWrite (n old new : Nat) (d : Device) : Device :=
  let c := d.rxc n
  if old = 0 && new = 1 && c.phase = 0 && (d.rxSampling n || d.rxState n == 4) && d.spareFree n then
    (d.setRx n { c with phase := if d.rxSampling n then 1 else 0, nextTarget := none }).set (L.RXADC_STAT_TARGET n) c.target
  else d

/-- The spare shadows its target from now on (R126). -/
def rxShadow (n : Nat) (d : Device) : Device :=
  let c := d.rxc n
  if c.phase = 1 && d.rxSampling n then d.setRx n { c with phase := 2 } else d

/-- The coefficient ranges of R123. -/
def coefRange (ofs gain skew bw : Int) : Bool :=
  ofs.natAbs ≤ 2047 && gain.natAbs ≤ 32767 && skew.natAbs ≤ 2047 && bw.natAbs ≤ 511

/-- A coefficient reaches 75 % of its range (R127). -/
def coefHigh (ofs gain skew bw : Int) : Bool :=
  3 * 2047 ≤ 4 * ofs.natAbs || 3 * 32767 ≤ 4 * gain.natAbs || 3 * 2047 ≤ 4 * skew.natAbs || 3 * 511 ≤ 4 * bw.natAbs

/-- The four coefficients of a slice (R123). -/
structure SliceCoef where
  ofs : Int
  gain : Int
  skew : Int
  bw : Int
deriving DecidableEq, Repr

/-- A value kept within ±`top`. -/
def clampTo (top : Nat) (v : Int) : Int := max (-(top : Int)) (min top v)

/-- The coefficients of slice `s` in force (R123). -/
def Device.coefOf (d : Device) (n s : Nat) : SliceCoef :=
  ⟨d.getS (L.RXADC_SOFS_OFS n s), d.getS (L.RXADC_SGAIN_GAIN n s), d.getS (L.RXADC_SSKEW_SKEW n s), d.getS (L.RXADC_SBW_BW n s)⟩

/-- The coefficients of slice `s` written, within their ranges. -/
def setCoef (n s : Nat) (k : SliceCoef) (d : Device) : Device :=
  (((d.set (L.RXADC_SOFS_OFS n s) (encodeSigned 12 (clampTo 2047 k.ofs))).set (L.RXADC_SGAIN_GAIN n s)
    (encodeSigned 16 (clampTo 32767 k.gain))).set (L.RXADC_SSKEW_SKEW n s) (encodeSigned 12 (clampTo 2047 k.skew))).set
    (L.RXADC_SBW_BW n s) (encodeSigned 10 (clampTo 511 k.bw))

/-- The coefficients of the nine slices. -/
def Device.coefs (d : Device) (n : Nat) : List SliceCoef := (List.range 9).map (d.coefOf n)

/-- The map and coefficients in force up to LANE sample `t` are noted before they change (R126, R129). -/
def rxEra (n t : Nat) (d : Device) : Device :=
  let c := d.rxc n
  d.setRx n { c with
    eras := c.eras ++ [⟨t, d.rd (A.RXADC_MAP n), (d.coefs n).map fun k => (k.ofs, k.gain, k.skew, k.bw)⟩] }

/-- LANE samples from the sampling instant of a failed check to its result: six slice cycles (R128). -/
def rxCheckLag : Nat := 12

/-- Position `p` is concealed from the sample that failed its check on (R129, R130). -/
def rxHide (n p : Nat) (d : Device) : Device :=
  let c := d.rxc n
  if c.hides.any fun h => h.1 == p && h.2.2.isNone then d
  else d.setRx n { c with hides := c.hides ++ [(p, d.laneNow - rxCheckLag, none)] }

/-- The concealment of position `p` is over (R129). -/
def rxUnhide (n p : Nat) (d : Device) : Device :=
  let c := d.rxc n
  d.setRx n { c with hides := c.hides.map fun h => if h.1 == p && h.2.2.isNone then (h.1, h.2.1, some d.laneNow) else h }

/-- The slice is retired and no spare remains (R129). -/
def rxRetire (n s : Nat) (d : Device) : Device :=
  d.set (L.RXADC_STAT_FAILED n) (putBits (d.get (L.RXADC_STAT_FAILED n)) s 1 1)

/-- What RXADC_FAULT reports (R128, R130). -/
def rxFaultReg (n s pos cause concealed : Nat) (d : Device) : Device :=
  ((((d.set (L.RXADC_FAULT_SLICE n) s).set (L.RXADC_FAULT_POS n) pos).set (L.RXADC_FAULT_CAUSE n) cause).set
    (L.RXADC_FAULT_CONCEALED n) (min concealed 65535))

/-- The events of a fault that used up the spare (R129): SUBST where a position changed slice. -/
def rxFaultEvents (n : Nat) (subst : Bool) (d : Device) : Device :=
  let d := (d.set (L.RXADC_STAT_SPARE n) 15).set (L.RXADC_STAT_REDUND n) 0
  let d := d.rxEvent L.RXADC_EVENT_SLICE_FAULT n 3
  let d := d.when subst fun d => d.rxEvent L.RXADC_EVENT_SUBST n 3
  d.rxEvent L.RXADC_EVENT_REDUND_LOST n 4

/-- Cause AMBIG also sets its own event (R128). -/
def rxAmbig (n cause : Nat) (d : Device) : Device := d.when (cause == 5) fun d => d.rxEvent L.RXADC_EVENT_AMBIG n 4

/-- A position has no slice left for it (R131): it is concealed for good, with SLICE_FAULT and the degraded-receiver record. -/
def rxConceal (n pos : Nat) (d : Device) : Device :=
  let c := d.rxc n
  let d := rxHide n pos (d.setRx n { c with concealed := if c.concealed.contains pos then c.concealed else c.concealed ++ [pos] })
  let d := d.rxEvent L.RXADC_EVENT_SLICE_FAULT n 3
  let d := d.log isleRXCONV 4 14 n (common 10) []
  d.when (n < 64 && d.on (L.PATH_CFG_RXDEG n)) (pathFlagClear 1 n 0)

/-- A faulty slice (R128–R132): substituted or retired as its place in the rotation says; a second fault is concealed for
good and recorded as degraded (R131).  The samples of a lasting concealment are counted as they pass (`rxConcealCount`).  A
spare that fails on its way to a faulty position leaves that position concealed (log 114). -/
def rxFault (n s cause : Nat) (d : Device) : Device :=
  if s < 9 && d.rxSampling n && !d.sliceFailed n s then
    let c := d.rxc n
    let spare := d.get (L.RXADC_STAT_SPARE n)
    let target := d.get (L.RXADC_STAT_TARGET n)
    let d := rxAmbig n cause (rxRetire n s d)
    if !d.on (L.RXADC_STAT_REDUND n) then
      let pos := (d.posOf n s).getD target
      rxConceal n pos (rxFaultReg n s pos cause 0 d)
    else if s = spare then
      let d := d.setRx n { c with phase := 0, takeover := none }
      match c.takeover with
      | some p => rxConceal n p (rxFaultEvents n false (rxFaultReg n s p cause 0 d))
      | none => rxFaultEvents n false (rxFaultReg n s target cause 0 d)
    else
      match d.posOf n s with
      | none => d
      | some p =>
        if c.takeover.isSome then rxConceal n p (rxFaultReg n s p cause 0 d)
        else if (c.phase = 2 || c.phase = 3) && p = target then
          rxFaultEvents n true (rxFaultReg n s p cause 0 (setSlice n p spare
            (rxEra n (d.laneNow - rxCheckLag) (d.setRx n { c with phase := 0 }))))
        else rxHide n p (rxFaultReg n s p cause 0 (d.setRx n { c with phase := 0, takeover := some p }))
  else d

/-- Eight slice cycles after retargeting, the spare takes the faulty position (R129); `count` samples were concealed.  Where a
later fault has come since, RXADC_FAULT keeps that one's report. -/
def rxTakeover (n count : Nat) (d : Device) : Device :=
  let c := d.rxc n
  match c.takeover with
  | none => d
  | some p =>
    let mine := d.get (L.RXADC_FAULT_SLICE n) == d.sliceAt n p
    let d := rxUnhide n p (rxEra n d.laneNow (d.setRx n { c with takeover := none }))
    let d := setSlice n p (d.get (L.RXADC_STAT_SPARE n)) d
    rxFaultEvents n true (d.when mine fun d => d.set (L.RXADC_FAULT_CONCEALED n) count)

/-- At a LANE block boundary: a lasting concealment of the last fault has gone on for the 512 samples that one position takes
in a block (R122, R130, R131). -/
def rxConcealCount (n : Nat) (d : Device) : Device :=
  let pos := d.get (L.RXADC_FAULT_POS n)
  d.when ((d.rxc n).concealed.contains pos && d.rxSampling n && d.sliceAt n pos == d.get (L.RXADC_FAULT_SLICE n)) fun d =>
    d.addSat (L.RXADC_FAULT_CONCEALED n) 512

/-- A takeover under way is completed, with up to 15 samples concealed, how many being open (R129; log 114). -/
def rxTakeoverEnd (n : Nat) (d : Device) : Device :=
  d.when (d.rxc n).takeover.isSome fun d =>
    let (v, d) := d.draw
    rxTakeover n (v % 16) d

/-- EN written 0 (R133): OFF; coefficients stay, and so does an armed zone.  A takeover under way is completed, with up to 15
samples concealed (R129; log 114).  A path in service loses RXS where the converter was in RUN (R259). -/
def rxDisable (n : Nat) (d : Device) : Device :=
  let d := rxTakeoverEnd n d
  let c := d.rxc n
  let wasRun := d.rxState n == 3 || (d.rxState n == 4 && c.before == 3)
  let d := d.setRx n { c with phase := 0, waiting := false, settles := [] }
  let d := ((d.set (L.RXADC_STAT_STATE n) 0).set (L.RXADC_STAT_CONVERGED n) 0).set (L.RXADC_STAT_SETTLING n) 0
  d.when wasRun (rxLeavesRun n)

/-! ## Correction coefficients -/

/-- Within the ranges of R123. -/
def SliceCoef.inRange (k : SliceCoef) : Bool := coefRange k.ofs k.gain k.skew k.bw
/-- A coefficient reaches 75 % of its range (R127). -/
def SliceCoef.high (k : SliceCoef) : Bool := coefHigh k.ofs k.gain k.skew k.bw

/-- The mean of nine values as a whole number; how the estimator rounds it is left open, so `up` decides (R124; log 114). -/
def meanOfNine (xs : List Int) (up : Nat) : Int :=
  let s := xs.foldl (· + ·) 0
  if s % 9 = 0 then s / 9 else s / 9 + (up : Int)

/-- Nine sets of coefficients less the mean of the nine, `up` deciding how each mean is rounded (R124). -/
def centred (ks : List SliceCoef) (up : Nat) : List SliceCoef :=
  let o := meanOfNine (ks.map SliceCoef.ofs) (bitsOf up 0 1)
  let g := meanOfNine (ks.map SliceCoef.gain) (bitsOf up 1 1)
  let k := meanOfNine (ks.map SliceCoef.skew) (bitsOf up 2 1)
  let b := meanOfNine (ks.map SliceCoef.bw) (bitsOf up 3 1)
  ks.map fun c => ⟨c.ofs - o, c.gain - g, c.skew - k, c.bw - b⟩

/-- Nine sets of coefficients come into force. -/
def setCoefs (n : Nat) (ks : List SliceCoef) (d : Device) : Device :=
  (ks.zip (List.range 9)).foldl (fun d x => setCoef n x.2 x.1 d) d

/-- The estimator offers nine new sets of coefficients: the mean of the nine is taken off (R124).  Where one would then leave its
range the sets in force stay (log 134). -/
def rxOffer (n : Nat) (ks : List SliceCoef) (d : Device) : Device :=
  let (v, d) := d.draw
  let new := centred ks v
  if new.all SliceCoef.inRange then setCoefs n new d else d

/-- Some coefficient of a slice reaches 75 % of its range with `new` and had not with `old` (R127). -/
def SliceCoef.rises (old new : SliceCoef) : Bool :=
  (new.high && !old.high) ||
    coefHigh new.ofs 0 0 0 && !coefHigh old.ofs 0 0 0 || coefHigh 0 new.gain 0 0 && !coefHigh 0 old.gain 0 0 ||
    coefHigh 0 0 new.skew 0 && !coefHigh 0 0 old.skew 0 || coefHigh 0 0 0 new.bw && !coefHigh 0 0 0 old.bw

/-- Where a coefficient has reached 75 % of its range that had not in `old`: EST_LIMIT; the position of its slice, the
lowest-numbered of several, is the next target (R127; log 134). -/
def rxEstLimit (n : Nat) (old d : Device) : Device :=
  match (List.range 9).find? fun s => (old.coefOf n s).rises (d.coefOf n s) with
  | none => d
  | some s =>
    let d := d.rxEvent L.RXADC_EVENT_EST_LIMIT n 2
    match d.posOf n s with
    | some p => d.setRx n { d.rxc n with nextTarget := some p }
    | none => d

/-- Free sets of coefficients of the slices that work, drawn one after another: temperature slope and blind estimator (R131). -/
def rxTracked (n : Nat) (d : Device) : List SliceCoef × Device :=
  (List.range 9).foldl (fun (t : List SliceCoef × Device) s =>
    if t.2.sliceFailed n s then (t.1 ++ [t.2.coefOf n s], t.2)
    else
      let (a, d) := t.2.draw
      let (b, d) := d.draw
      (t.1 ++ [⟨signedOf 12 a, signedOf 16 b, signedOf 12 (a / 2 ^ 12), signedOf 10 (b / 2 ^ 16)⟩], d)) ([], d)

/-- At a LANE block boundary a converter that runs without a spare has tracked its active slices, unless frozen (R127, R131); what
it finds is left open (log 114). -/
def rxTrack (n : Nat) (d : Device) : Device :=
  if d.rxSampling n && !d.on (L.RXADC_STAT_REDUND n) && !d.on (L.RXADC_CFG_FREEZE n) then
    let (ks, d) := rxTracked n d
    rxEstLimit n d (rxOffer n ks d)
  else d

/-- SKEW and BW rescaled to the sample period of a new mode (R137): the values are left open, but that a residual skew and a
side tap of 0 stay 0 (log 114), and that the mean of the nine stays zero (R124).  Under FREEZE = 1 they are rescaled too, for R137
leaves no converter out (log 134). -/
def rxRescale (n : Nat) (d : Device) : Device :=
  let ks := d.coefs n
  if ks.all fun c => c.skew == 0 && c.bw == 0 then d
  else
    let (new, d) := ks.foldl (fun (t : List SliceCoef × Device) c =>
      let (v, d) := t.2.draw
      (t.1 ++ [{ c with
        skew := if c.skew = 0 then 0 else signedOf 12 v
        bw := if c.bw = 0 then 0 else signedOf 10 (v / 2 ^ 12) }], d)) ([], d)
    rxEstLimit n d (rxOffer n new d)

/-- The end of a dwell (R126): unless frozen, the spare's coefficients are written with the mean taken off all nine (R124); where
one of the shadowing or the shadowed slice would fall outside its range, that is a fault of the slice that moved (R128); the spare
takes its target position.  Where one of another slice would, the nine sets stay (log 134). -/
def rxHandover (n : Nat) (ofs gain skew bw : Int) (moved : Nat) (d : Device) : Device :=
  let c := d.rxc n
  if c.phase = 2 && d.rxSampling n then
    let s := d.get (L.RXADC_STAT_SPARE n)
    let p := d.get (L.RXADC_STAT_TARGET n)
    let a := d.sliceAt n p
    let frozen := d.on (L.RXADC_CFG_FREEZE n)
    let (v, d) := if frozen then (0, d) else d.draw
    let new := centred ((d.coefs n).set s ⟨ofs, gain, skew, bw⟩) v
    let out := fun (x : Nat) => !((new.getD x ⟨0, 0, 0, 0⟩).inRange)
    if !frozen && (out s || out a) then
      if moved = 1 then rxFault n a 3 d else rxFault n s (if moved = 0 then 3 else 5) d
    else
      let old := d
      let d := rxEra n d.laneNow d
      let d := d.when (!frozen && new.all SliceCoef.inRange) (setCoefs n new)
      let d := (setSlice n p s d).set (L.RXADC_STAT_SPARE n) a
      rxEstLimit n old (d.setRx n { d.rxc n with phase := 3, outgoing := a, taken := some p })
  else d

/-- The check window ends (R125–R127): the holder's dwell counts towards CONVERGED, and the next dwell starts unless rotation
is off.  The second answer says whether RUN was entered. -/
def rxDwellStart (n : Nat) (d : Device) : Device × Bool :=
  let c := d.rxc n
  if c.phase = 3 && d.rxSampling n then
    let p := d.get (L.RXADC_STAT_TARGET n)
    let s := d.sliceAt n p
    let spared := tabPut c.spared s (tabGet c.spared 0 s + 1)
    let done := d.rxState n == 2 && (List.range 9).all fun k => 2 ≤ tabGet spared 0 k
    let rot := d.on (L.RXADC_CFG_ROT_EN n)
    let d := d.setRx n { c with
      phase := if rot then 1 else 0, spared := spared, nextTarget := if rot then none else c.nextTarget }
    let d := d.when rot fun d => d.set (L.RXADC_STAT_TARGET n) c.target
    if done then ((d.set (L.RXADC_STAT_STATE n) 3).set (L.RXADC_STAT_CONVERGED n) 1, true) else (d, false)
  else (d, false)

/-- |d| exceeded 64 LSB twice in the check window (R128): the new holder is faulty and its position returns. -/
def rxHandoverFail (n : Nat) (d : Device) : Device :=
  if (d.rxc n).phase = 3 then rxFault n (d.sliceAt n (d.get (L.RXADC_STAT_TARGET n))) 4 d else d

/-! ## Coupler switches -/

/-- A capture is in progress on OBS `k`. -/
def Device.capRuns (d : Device) (k : Nat) : Bool := (d.capc k).running.isSome

/-- A SEL write (R134, R135): refused values leave SEL; the switch moves at once or is held while a capture runs. -/
def obsSelWrite (k old sel : Nat) (d : Device) : Device :=
  if 19 ≤ sel || (sel = 18 && k ≠ 0) then
    (d.set (L.RXADC_OBS_SEL_SEL k) old).rxEvent L.RXADC_EVENT_SEL_ERR (64 + k) 1
  else if d.capRuns k then
    if sel = d.get (L.RXADC_OBS_SEL_ACTIVE k) && !d.on (L.RXADC_OBS_SEL_PEND k) then d
    else d.set (L.RXADC_OBS_SEL_PEND k) 1
  else if sel = d.get (L.RXADC_OBS_SEL_ACTIVE k) then d
  else obsMove k sel d

/-- The device itself sets a selection for a capture or a calibration step (R241, R290). -/
def obsSelect (k sel : Nat) (d : Device) : Device := obsSelWrite k (d.get (L.RXADC_OBS_SEL_SEL k)) sel (d.set (L.RXADC_OBS_SEL_SEL k) sel)

/-- A RXADC_CFG write: zone, rotation and enable, each by its own rule; the other fields by their access code. -/
def rxCfgWrite (n old : Nat) (d : Device) : Device :=
  let new := d.rd (A.RXADC_CFG n)
  let d := rxZoneWrite n (bitsOf old 4 2) (bitsOf new 4 2) d
  let d := rxRotWrite n (bitsOf old 6 1) (bitsOf new 6 1) d
  if bitsOf old 0 1 = 0 && bitsOf new 0 1 = 1 then rxEnable n d
  else if bitsOf old 0 1 = 1 && bitsOf new 0 1 = 0 then rxDisable n d
  else d

/-- A LANE block boundary at every converter: what the block brought, then the zone and the attenuation armed for block `b`. -/
def rxBlock (b : Nat) (d : Device) : Device :=
  d.each 72 fun n d => rxDsaBlock b n (rxZoneApply n (rxSettleBlock n (rxConcealCount n (rxTrack n d))))

/-! ## Meanings -/

/-- RXADC_BIAS_DONE (R133). -/
def execRxadcBiasDone (n : Nat) (s : State) : Host.Outcome State Fault Refusal :=
  actDev (.rxadcBiasDone n) s (rxBiasDone n)
/-- ZONE_SETTLING_END (R117). -/
def execZoneSettlingEnd (n : Nat) (s : State) : Host.Outcome State Fault Refusal :=
  actDev (.zoneSettlingEnd n) s (rxSettled n 0)
/-- DSA_APPLY (R119, R120). -/
def execDsaApply (n : Nat) (s : State) : Host.Outcome State Fault Refusal :=
  actDev (.dsaApply n) s (rxDsaApply n)
/-- SAMPLE_OVERRANGE (R121). -/
def execSampleOverrange (n : Nat) (s : State) : Host.Outcome State Fault Refusal :=
  actDev (.sampleOverrange n) s (rxOverrange n)
/-- SPARE_RETARGET_DONE (R126). -/
def execSpareRetargetDone (n : Nat) (s : State) : Host.Outcome State Fault Refusal :=
  actDev (.spareRetargetDone n) s (rxShadow n)
/-- SLICE_HANDOVER (R126–R129). -/
def execSliceHandover (n : Nat) (ofs gain skew bw : Int) (moved : Nat) (s : State) : Host.Outcome State Fault Refusal :=
  actDev (.sliceHandover n ofs gain skew bw moved) s (rxHandover n ofs gain skew bw moved)
/-- SLICE_CHECK_FAIL (R128–R132). -/
def execSliceCheckFail (n slice : Nat) (s : State) : Host.Outcome State Fault Refusal :=
  actDev (.sliceCheckFail n slice) s (rxFault n slice 1)
/-- SLICE_STUCK (R128–R132). -/
def execSliceStuck (n slice : Nat) (s : State) : Host.Outcome State Fault Refusal :=
  actDev (.sliceStuck n slice) s (rxFault n slice 2)
/-- HANDOVER_CHECK_FAIL (R128, R129). -/
def execHandoverCheckFail (n : Nat) (s : State) : Host.Outcome State Fault Refusal :=
  actDev (.handoverCheckFail n) s (rxHandoverFail n)
/-- SLICE_TAKEOVER (R129). -/
def execSliceTakeover (n count : Nat) (s : State) : Host.Outcome State Fault Refusal :=
  actDev (.sliceTakeover n count) s (rxTakeover n count)
/-- OBS_SETTLING_END (R135). -/
def execObsSettlingEnd (k : Nat) (s : State) : Host.Outcome State Fault Refusal :=
  actDev (.obsSettlingEnd k) s (rxSettled (64 + k) 1)
/-- INVALID_RUN_END (R184). -/
def execInvalidRunEnd (k : Nat) (s : State) : Host.Outcome State Fault Refusal :=
  actDev (.invalidRunEnd k) s (chanSettled k)
/-- DUC_SETTLING_END (R185). -/
def execDucSettlingEnd (p c : Nat) (s : State) : Host.Outcome State Fault Refusal :=
  actDev (.ducSettlingEnd p c) s (chanSettled (duc p c))

end Sys2Proof.Machine
end

