-- ==== Sys2Proof/Machine/Tx.lean ====
section
/-! DEFINITION. The transmit converters: states, NCO commits, mute requests, segment faults and substitution (R145–R158). -/
namespace Sys2Proof.Machine

/-- An event of a transmit converter (CLASS 15, REG 0, TXCONV). -/
def Device.txEvent (d : Device) (l : Nat → Loc) (p sev : Nat) : Device := d.event (l p) isleTXCONV 15 p 0 sev []

/-- A sampler outage or a transmit-only outage holds the TXCONV clock (R98, R112). -/
def Device.txStopped (d : Device) : Bool := d.clk.outage || d.clk.txOutage

/-- An outage discards what crosses to TXCONV at LANE sample `t` (R98, R112). -/
def Device.txStoppedAt (d : Device) (t : Nat) : Bool :=
  (d.clk.outage && d.clk.outageFrom ≤ t) || (d.clk.txOutage && d.clk.txOutageFrom ≤ t)

/-! ## Spares -/

/-- The segment has failed (R155). -/
def Device.segFailed (d : Device) (p s : Nat) : Bool := bitsOf (d.rd (A.TXDAC_SEGFAIL p (s / 32))) (s % 32) 1 == 1

/-- U63 or U64, not yet mapped in (R153). -/
def TxCtl.isSpare (c : TxCtl) (s : Nat) : Bool := 63 ≤ s && !c.mapped.contains s

/-- The active segments of path `p`, in ascending physical order (R153, R155): slot T1 is served by the first, and so on; a
failed segment serves its slot until its exclusion. -/
def Device.activeSegs (d : Device) (p : Nat) : List Nat :=
  (List.range 65).filter fun s => !(d.txc p).isSpare s && !d.segFailed p s

/-- The segment that serves slot T`k` of 1 to 63; none where the slot is unserved (R153, R155). -/
def Device.slotSeg (d : Device) (p k : Nat) : Option Nat := (d.activeSegs p)[k - 1]?

/-- Slots no segment serves (R155, R158). -/
def Device.unserved (d : Device) (p : Nat) : Nat := 63 - (d.activeSegs p).length

/-- The code from which a sample saturates for want of slots, in half-codes (R155, R158): 16,128, and 256 codes lower for every
unserved slot after the first. -/
def Device.satLimit (d : Device) (p : Nat) : Option Nat :=
  match d.unserved p with
  | 0 => none
  | n + 1 => some (2 * (16128 - 256 * n))

/-- A code in half-codes as the slots can carry it: at the limit or above it acts as the saturation code, one below the limit
(R143, R155). -/
def Device.codeOut (d : Device) (p code : Nat) : Nat :=
  match d.satLimit p with
  | none => code
  | some l => if l ≤ code then l - 2 else code

/-- The lowest-numbered spare that can be mapped in (R157). -/
def Device.spareOf (d : Device) (p : Nat) : Option Nat :=
  [63, 64].find? fun s => (d.txc p).isSpare s && !d.segFailed p s

/-- A segment is recorded as failed: SEGFAIL, FAILED_N, FAULT with no spare used yet, and SEG_FAULT (R155). -/
def segRetire (p s cause : Nat) (d : Device) : Device :=
  let a := A.TXDAC_SEGFAIL p (s / 32)
  let d := (d.wr a (putBits (d.rd a) (s % 32) 1 1)).inc (L.TXDAC_STAT_FAILED_N p)
  let d := ((d.set (L.TXDAC_FAULT_SEG p) s).set (L.TXDAC_FAULT_CAUSE p) cause).set (L.TXDAC_FAULT_SPARE_USED p) 0x7F
  d.txEvent L.TXDAC_EVENT_SEG_FAULT p 3

/-- One spare fewer; REDUND_LOST at 0 (R157). -/
def spareGone (p : Nat) (d : Device) : Device :=
  let n := d.get (L.TXDAC_STAT_SPARES p) - 1
  let d := (d.set (L.TXDAC_STAT_SPARES p) n).set (L.TXDAC_STAT_REDUND p) (bit (n != 0))
  d.when (n == 0) fun d => d.txEvent L.TXDAC_EVENT_REDUND_LOST p 4

/-- An exclusion with no spare to follow (R158, R259): the degraded record, and the path's count of them. -/
def txDegraded (p : Nat) (d : Device) : Device :=
  let d := d.log isleTXCONV 4 15 p (common 10) []
  let d := d.inc (L.PATH_STAT_TXDEG p)
  let n := d.get (L.PATH_CFG_TXDEG_N p)
  d.when (n != 0 && n ≤ d.get (L.PATH_STAT_TXDEG p)) (pathFlagClear 0 p 0)

/-- EXCL_PEND follows the slots that await a spare; slots no spare is left for are degraded (R158). -/
def exclSettle (p : Nat) (d : Device) : Device :=
  let c := d.txc p
  let n := d.get (L.TXDAC_STAT_SPARES p)
  let short := c.excluded.length - n
  let kept := c.excluded.take n
  let d := d.setTx p { c with excluded := kept, unspared := c.unspared + short }
  let d := d.set (L.TXDAC_STAT_EXCL_PEND p) (bit (!kept.isEmpty))
  d.each short fun _ d => txDegraded p d

/-! ## Faults -/

/-- A failure is found (R154): a spare is retired at once, an active segment waits for its exclusion.  CAL, which holds the first
sweep, monitors as RUN does (log 115).  A tick has 50 TXCONV cycles: whether two failures of one tick are of one cycle is left open
(log 135). -/
def segFault (p s cause : Nat) (d : Device) : Device :=
  let c := d.txc p
  if (d.txState p = 2 || d.txState p = 3) && s ≤ 64 && !d.segFailed p s && !c.failing.any (fun x => x.seg == s) then
    if c.isSpare s then
      exclSettle p (spareGone p (segRetire p s cause
        (d.setTx p { c with swap := if c.swap = some s then none else c.swap })))
    else
      let (cycle, d) := match c.failing.getLast? with
        | some x => if x.tick = d.ticks then let (v, d) := d.draw; (x.cycle + v % 2, d) else (0, d)
        | none => (0, d)
      d.setTx p { c with failing := c.failing ++ [⟨s, cause, d.ticks, cycle⟩] }
  else d

/-- 24 TXCONV cycles after the oldest failure, those of the same TXCONV cycle leave the slot order with it, in ascending order (R155,
R158); later ones wait for a SEGMENT_EXCLUDE of their own. -/
def segExclude (p : Nat) (d : Device) : Device :=
  let c := d.txc p
  match c.failing with
  | [] => d
  | x :: _ =>
    let now := c.failing.filter fun y => y.tick == x.tick && y.cycle == x.cycle
    let order := (List.range 65).filterMap fun s => now.find? fun y => y.seg == s
    let d := d.setTx p { c with
      failing := c.failing.filter fun y => !(y.tick == x.tick && y.cycle == x.cycle)
      excluded := c.excluded ++ order.map SegFail.seg
      gwRaised := c.gwRaised && !c.excluded.isEmpty }
    exclSettle p (order.foldl (fun d x => segRetire p x.seg x.cause d) d)

/-- The sweep measures its next segment (R154); its trim reaches the error (R284), or `drift` says it cannot. -/
def segSweep (p trim : Nat) (drift : Bool) (d : Device) : Device :=
  if d.txState p = 2 || d.txState p = 3 then
    let c := d.txc p
    let d := d.setTx p { c with sweep := (c.sweep + 1) % 65 }
    if drift then segFault p c.sweep 4 d else d.set (L.CAL_TXSEG_TRIM p c.sweep) trim
  else d

/-- A LANE sample may be a guard window (R156): GAP where it is at least the 64th of a run with g = 0; CP where it is enabled, this is
no GAP window, and none lies in the preceding 10 ms. -/
def Device.guardOpen (d : Device) (p : Nat) (cp : Bool) : Bool :=
  let c := d.txc p
  let gap := match c.zeroFrom with
    | some z => d.samplesSince z 63
    | none => false
  if cp then
    d.on (L.TXDAC_CFG_GW_MODE p) && !gap &&
      match c.lastGap with
      | some t => decide (10 * ticksPerMs ≤ d.ticks - t)
      | none => true
  else gap

/-- A guard window of R156 opens: with a slot waiting, the lowest spare starts its swap (R157).  The TXCONV clock is gated in
GATED. -/
def guardWindow (p : Nat) (cp : Bool) (d : Device) : Device :=
  if d.guardOpen p cp then
    let d := d.when (!cp) fun d => d.setTx p { d.txc p with lastGap := some d.ticks }
    let c := d.txc p
    if d.txState p ≠ 4 && d.on (L.TXDAC_STAT_EXCL_PEND p) && c.swap.isNone then d.setTx p { c with swap := d.spareOf p } else d
  else d

/-- The swap completes (R157): SUBST, one spare fewer, and a ramp up that waited for it (R151).  SPARE_USED is the last fault's. -/
def swapDone (p : Nat) (d : Device) : Device :=
  let c := d.txc p
  match c.swap with
  | none => d
  | some s =>
    let mine := c.excluded.head? == some (d.get (L.TXDAC_FAULT_SEG p))
    let d := d.setTx p { c with swap := none, mapped := c.mapped ++ [s], excluded := c.excluded.drop 1, gwRaised := false }
    let d := d.set (L.TXDAC_STAT_EXCL_PEND p) (bit (!(c.excluded.drop 1).isEmpty))
    let d := d.when mine fun d => d.set (L.TXDAC_FAULT_SPARE_USED p) s
    txMuteUpdate p (spareGone p (d.txEvent L.TXDAC_EVENT_SUBST p 3))

/-- 10 ms without a guard window (R156): GW_WAIT once. -/
def gwWait (p : Nat) (d : Device) : Device :=
  let c := d.txc p
  if d.on (L.TXDAC_STAT_EXCL_PEND p) && c.swap.isNone && !c.gwRaised then
    (d.setTx p { c with gwRaised := true }).txEvent L.TXDAC_EVENT_GW_WAIT p 2
  else d

/-- `n` samples have saturated for want of slots: they are counted, with CLIP (R155, R158). -/
def codesClip (p n : Nat) (d : Device) : Device :=
  d.when (n != 0) fun d =>
    (d.addSat (L.TXDAC_CLIP_CNT_COUNT p) n).eventLimited (L.TXDAC_EVENT_CLIP p) ticksPerMs isleTXCONV 15 p 0 2 []

/-- A sample's code, in half-codes, reaches the slots (R155, R158): one that the slots cannot carry is clipped and counted.  The
samples of a LANE block are counted as it ends (`txConvert`); the command stands for one that no stream of the model carries
(log 135). -/
def codeClip (p code : Nat) (d : Device) : Device := codesClip p (bit (d.codeOut p code != code)) d

/-! ## States -/

/-- EN written 1 (R152): BIAS. -/
def txEnable (p : Nat) (d : Device) : Device :=
  if d.txState p = 0 then (d.set (L.TXDAC_STAT_STATE p) 1).setTx p { d.txc p with waiting := false } else d

/-- EN written 0 (R152): OFF, output at zero; a path in service loses TXS where the converter was in RUN (R259). -/
def txDisable (p : Nat) (d : Device) : Device :=
  let c := d.txc p
  let wasRun := d.txState p == 3 || (d.txState p == 4 && c.before == 3)
  let d := d.setTx p { c with swap := none, waiting := false }
  let d := txMuteUpdate p (d.set (L.TXDAC_STAT_STATE p) 0)
  d.when wasRun (txLeavesRun p)

/-- Trims are loaded (R152): CAL and its first sweep, or wait for the end of an outage. -/
def txBiasDone (p : Nat) (d : Device) : Device :=
  if d.txState p = 1 then
    if d.txStopped then d.setTx p { d.txc p with waiting := true }
    else (d.set (L.TXDAC_STAT_STATE p) 2).setTx p { d.txc p with sweep := 0 }
  else d

/-- The first sweep is complete (R152): RUN. -/
def txCalDone (p : Nat) (d : Device) : Device :=
  if d.txState p = 2 then txMuteUpdate p (d.set (L.TXDAC_STAT_STATE p) 3) else d

/-- An outage gates the TXCONV clock (R152); a swap in progress completes before the gate (R157). -/
def txGate (p : Nat) (d : Device) : Device :=
  let st := d.txState p
  if st = 1 || st = 2 || st = 3 then
    let d := swapDone p d
    txMuteUpdate p ((d.setTx p { d.txc p with before := st }).set (L.TXDAC_STAT_STATE p) 4)
  else d

/-- The strobe that ends the outage (R152): the state before GATED, the sweep from its start. -/
def txUngate (p : Nat) (d : Device) : Device :=
  let c := d.txc p
  if d.txState p = 4 then
    let st := if c.before = 1 && c.waiting then 2 else c.before
    txMuteUpdate p ((d.setTx p { c with sweep := 0, waiting := false }).set (L.TXDAC_STAT_STATE p) st)
  else if d.txState p = 1 && c.waiting then
    (d.setTx p { c with sweep := 0, waiting := false }).set (L.TXDAC_STAT_STATE p) 2
  else d

/-! ## NCO -/

/-- The FTW and PHASE registers made to read given values. -/
def ncoShow (p ftw phase : Nat) (d : Device) : Device :=
  ((d.set (L.TXDAC_NCO_LO_FTW_LO p) ftw).set (L.TXDAC_NCO_HI_FTW_HI p) (ftw / 2 ^ 32)).set (L.TXDAC_NCO_HI_PHASE p) phase

/-- A commit of TXDAC_NCO (R147): the band, then the allow-list, then the change is armed.  A refused commit leaves the
registers at what they held, or at the NCO in force where the allow-list refuses and NCO_PEND clears (R307; log 14). -/
def ncoCommit (p oldLo oldHi : Nat) (d : Device) : Device :=
  let ftw := d.get (L.TXDAC_NCO_LO_FTW_LO p) + d.get (L.TXDAC_NCO_HI_FTW_HI p) * 2 ^ 32
  let phase := d.get (L.TXDAC_NCO_HI_PHASE p)
  let c := d.txc p
  if txMode d.lowPower ftw = 0 then
    ((d.wr (A.TXDAC_NCO_LO p) oldLo).wr (A.TXDAC_NCO_HI p) oldHi).txEvent L.TXDAC_EVENT_NCO_ERR p 1
  else if !d.ncoAllowed ftw then
    damperRefuse p ftw (ncoShow p c.ftw c.phase
      ((d.setTx p { c with armed := none }).set (L.TXDAC_STAT_NCO_PEND p) 0))
  else (d.setTx p { c with armed := some (ftw, phase, d.laneNow) }).set (L.TXDAC_STAT_NCO_PEND p) 1

/-- The NCO accumulator of path `p` at LANE sample `t`, in 2^-48 turns (R145, R148): from zero at the last strobe, as if the FTW
in force had run since. -/
def Device.txAcc (d : Device) (p t : Nat) : Nat := (d.txc p).ftw * d.laneTurns * (t - d.clk.txStrobeAt) % 2 ^ 48

/-- A LANE block boundary at one converter (R147): a settling block ends; a change committed at least 64 samples ago takes
effect and its settling block starts, and DUCs out of span stop (R162).  A change armed before a converter mode that leaves it
outside every band takes effect with MODE = NONE, and raises nothing (log 115). -/
def ncoBlock (p : Nat) (d : Device) : Device :=
  let c := d.txc p
  let d := d.set (L.TXDAC_STAT_SETTLING p) 0
  match c.armed with
  | some (ftw, phase, t) =>
    if d.samplesSince t 64 then
      let d := d.setTx p { c with ftw := ftw, phase := phase, armed := none }
      let d := (d.set (L.TXDAC_STAT_NCO_PEND p) 0).set (L.TXDAC_STAT_MODE p) (txMode d.lowPower ftw)
      txMuteUpdate p (ducSpanStop p (d.set (L.TXDAC_STAT_SETTLING p) 1))
    else txMuteUpdate p d
  | none => txMuteUpdate p d

/-- A change of converter mode at the strobe (R148): MODE follows the new bands; NCO_ERR where it becomes NONE.  A change between
NRZ and MIXED is no NCO change: no settling block follows (log 115). -/
def ncoModeCheck (p : Nat) (d : Device) : Device :=
  let m := txMode d.lowPower (d.txc p).ftw
  let was := d.get (L.TXDAC_STAT_MODE p)
  let d := txMuteUpdate p (d.set (L.TXDAC_STAT_MODE p) m)
  d.when (m == 0 && was != 0) fun d => d.txEvent L.TXDAC_EVENT_NCO_ERR p 1

/-! ## Mute ramp -/

/-- The ramp reaches its end (R150): MUTED at g = 0, and a run of zero gain counts from the sample at which g reached 0 (R156). -/
def rampFinished (p : Nat) (r : MuteRamp) (d : Device) : Device :=
  let d := d.setTx p { (d.txc p).follow none with zeroFrom := if r.up then none else some (min d.laneNow (r.start + r.pos)) }
  (d.set (L.TXDAC_STAT_RAMPING p) 0).set (L.TXDAC_STAT_MUTED p) (bit (!r.up))

/-- MUTE_RAMP_DONE: a ramp that the sample count shows still on its way has been reversed since, and goes on (R151). -/
def muteRampDone (p : Nat) (d : Device) : Device :=
  match (d.txc p).ramp with
  | none => d
  | some r => if r.ended d.laneNow || d.laneNow == r.start then rampFinished p r d else d

/-- At a LANE block boundary a ramp whose samples have passed is over, and the ramps of the block that ends are done with. -/
def rampBlock (p : Nat) (d : Device) : Device :=
  let d := match (d.txc p).ramp with
    | none => d
    | some r => if r.ended d.laneNow then rampFinished p r d else d
  if (d.txc p).was.isEmpty then d else d.setTx p { d.txc p with was := [] }

/-- A TXDAC_CFG write: EN by R152, the rest by its access code. -/
def txCfgWrite (p old : Nat) (d : Device) : Device :=
  let en := d.get (L.TXDAC_CFG_EN p)
  if bitsOf old 0 1 = 0 && en = 1 then txEnable p d
  else if bitsOf old 0 1 = 1 && en = 0 then txDisable p d
  else d

/-! ## Meanings -/

/-- TXDAC_BIAS_DONE (R152). -/
def execTxdacBiasDone (p : Nat) (s : State) : Host.Outcome State Fault Refusal :=
  actDev (.txdacBiasDone p) s (txBiasDone p)
/-- MUTE_RAMP_DONE (R150). -/
def execMuteRampDone (p : Nat) (s : State) : Host.Outcome State Fault Refusal :=
  actDev (.muteRampDone p) s (muteRampDone p)
/-- SEGMENT_FAULT (R154, R155). -/
def execSegmentFault (p seg cause : Nat) (s : State) : Host.Outcome State Fault Refusal :=
  actDev (.segmentFault p seg cause) s (segFault p seg cause)
/-- SEGMENT_SWEEP_STEP (R154). -/
def execSegmentSweepStep (p trim : Nat) (drift : Bool) (s : State) : Host.Outcome State Fault Refusal :=
  actDev (.segmentSweepStep p trim drift) s (segSweep p trim drift)
/-- SEGMENT_EXCLUDE (R155, R158). -/
def execSegmentExclude (p : Nat) (s : State) : Host.Outcome State Fault Refusal :=
  actDev (.segmentExclude p) s (segExclude p)
/-- GUARD_WINDOW (R156, R157). -/
def execGuardWindow (p : Nat) (cp : Bool) (s : State) : Host.Outcome State Fault Refusal :=
  actDev (.guardWindow p cp) s (guardWindow p cp)
/-- SEGMENT_SWAP_DONE (R157). -/
def execSegmentSwapDone (p : Nat) (s : State) : Host.Outcome State Fault Refusal :=
  actDev (.segmentSwapDone p) s (swapDone p)
/-- GW_WAIT_TIMEOUT (R156). -/
def execGwWaitTimeout (p : Nat) (s : State) : Host.Outcome State Fault Refusal :=
  actDev (.gwWaitTimeout p) s (gwWait p)
/-- TX_CODE_CLIP (R155). -/
def execTxCodeClip (p code : Nat) (s : State) : Host.Outcome State Fault Refusal :=
  actDev (.txCodeClip p code) s (codeClip p code)

end Sys2Proof.Machine
end

