-- ==== Sys2Proof/Machine/TxSig.lean ====
section
/-! DEFINITION. The transmit samples of a LANE block: what enters the DUCs, the chains, the carrier sum, predistortion and the
converter to its codes (R140–R150, R162–R170, R182, R189, R202, R203, R232–R239, R283, R287). -/
namespace Sys2Proof.Machine

/-! ## The block that ends -/

/-- Samples of the block that ends: 1,024, or fewer where a frame marker or a strobe ends it (R51, R527). -/
def Device.blockLen (d : Device) : Nat := d.clk.blockTo - d.clk.blockFrom

/-- From a LANE sample's count to its place in the frame. -/
def Device.frameShift (d : Device) : Int := 1024 * (d.block : Int) - d.clk.blockFrom

/-- The frame the block in progress belongs to: its end may lie in the next. -/
def Device.blockFrame (d : Device) : Nat :=
  let late := d.blocksPerFrame ≤ 2 * d.block
  if late && d.halfNo < 10 then (d.frameNo + 1023) % 1024
  else if !late && 10 ≤ d.halfNo then (d.frameNo + 1) % 1024 else d.frameNo

/-- Frames from frame `b` to frame `a`, at most half the ring away (R340). -/
def frameDiff (a b : Nat) : Int := let k := (a + 1024 - b) % 1024; if k < 512 then k else (k : Int) - 1024

/-- What a word of two parts in the banks of an object in force gives now: the active bank's, or the blend of R54. -/
def Device.inForce (d : Device) (o : XfObj) (read : Nat → Cx) : Cx :=
  let a := read (d.xfActive o)
  match (d.xfc o).fade with
  | none => a
  | some f =>
    let b := read f.target
    let w := f.weight f.step
    (blendCoef w a.1 b.1, blendCoef w a.2 b.2)

/-! ## What enters a DUC (R189, R202, R203, R354) -/

/-- The samples of path `p` in the symbols that went through `m` adapter stages, by their place in frame `fn`. -/
def wavesSig (ws : List TxWave) (m fn p : Nat) : Sig := fun q =>
  cxSum (ws.filterMap fun w =>
    if w.m = m then
      let at' := q - w.start - frameDiff w.fn fn * ((w.fs * 19200 : Nat) : Int)
      (tabGet? w.rows p).map fun r => (tabOf 0 r).sig at'
    else none)

/-- `m` interpolating adapter stages, phased to the frame (R189). -/
def adaptUp : Nat → Sig → Sig
  | 0, f => f
  | m + 1, f => interp2 hb23 (adaptUp m f)

/-- Output samples of DUC[p][c] in a frame (R168). -/
def Device.ducFrame (d : Device) (p c : Nat) : Nat := foutOf (chanCfg (duc p c) (d.chn (duc p c)).cfg).rate * 19200

/-- The section that supplies sample `g` of frame `fn` on DUC[p][c], with the sample's offset in it: of that frame or the next
(R203, R344). -/
def Device.tdHit (d : Device) (p c fn : Nat) (g : Int) : Option (TdSection × Nat) :=
  let len : Int := d.ducFrame p c
  (d.tdSecs.find? fun s =>
    let k := g - frameDiff s.fn fn * len - s.start
    s.path == p && s.carrier == c && 0 ≤ k && k < 12 * s.nblk).map fun s => (s, (g - frameDiff s.fn fn * len - s.start).toNat)

/-- Sample `g` of a frame in the time-domain sections of DUC[p][c] (R203, R344), with how many of its parts saturate in
decompression (R346): zero where none supplies it (R354) or where it carries no signal (R349). -/
def Device.tdValue (d : Device) (p c fn : Nat) (g : Int) : Cx × Nat :=
  match d.tdHit p c fn g with
  | some (s, k) =>
    if s.inv then (cx0, 0) else let v := blockValue s.mw s.body (k / 12) (k % 12); ((v.1, v.2.1), v.2.2)
  | none => (cx0, 0)

/-- The time-domain source of DUC[p][c] is in force: its carrier, and the path in the mask (R203, R205). -/
def Device.tdSource (d : Device) (p c : Nat) : Bool := let g := d.grd c; g.of.en && g.of.td && g.of.has p

/-- Latency of `m` interpolating stages in output samples: 11 at each stage's output rate (R189; log 137). -/
def upLag (m : Nat) : Nat := 11 * (2 ^ m - 1)

/-- Input samples `lo` to `lo + n − 1` of DUC[p][c] in the frame of the block: of the carrier's symbols, the adapter's latency
removed (R191), held to 16 bits, or of its sections.  A path outside the mask receives zeros (R203, R205). -/
def Device.ducInput (d : Device) (p c : Nat) (lo : Int) (n : Nat) : List Cx :=
  let g := d.grd c
  let fn := d.blockFrame
  if g.of.en && g.of.td then
    if g.of.has p && d.tdSecs.any (fun s => s.path == p && s.carrier == c) then
      quiet (sigList (fun k => (d.tdValue p c fn k).1) lo n)
    else []
  else
    let ms := (List.range 5).filter fun m => g.waves.any fun w => w.m == m && (tabGet? w.rows p).isSome
    if ms.isEmpty then []
    else quiet (sigList (fun q => cxSum (ms.map fun m =>
      cxMap sat16 (cxRound (2 ^ (24 * m)) (adaptUp m (wavesSig g.waves m fn p) (q + upLag m))))) lo n)

/-- Sample `q` of a frame carries VALID = 0 for a symbol on its way: an interpolating stage marks output k where an input i with
2 i ≤ k ≤ 2 i + 22 is marked, each stage the marks of the one before it (R189, R202, R206). -/
def TxWave.voidAt (w : TxWave) (fn p : Nat) (q : Int) : Bool :=
  let s := w.start + frameDiff w.fn fn * ((w.fs * 19200 : Nat) : Int)
  let k := q + upLag w.m
  let lo := -((22 * (2 ^ w.m - 1) - k) / 2 ^ w.m)
  w.void.contains p && lo < s + w.len && s ≤ k / 2 ^ w.m

/-- The input samples from `lo` on that carry VALID = 0, by offset: those of invalid symbols (R202), or of sections with INV = 1
(R349). -/
def Device.ducVoid (d : Device) (p c : Nat) (lo : Int) (n : Nat) : List Nat :=
  let fn := d.blockFrame
  let bad : Int → Bool := fun q =>
    if d.tdSource p c then (match d.tdHit p c fn q with | some x => x.1.inv | none => false)
    else (d.grd c).waves.any fun w => w.voidAt fn p q
  let any := if d.tdSource p c then d.tdSecs.any (·.inv) else (d.grd c).waves.any fun w => w.void.contains p
  if any then (List.range n).filter fun (k : Nat) => bad (lo + k) else []

/-- The blocks of 12 samples that begin among the inputs and of which some sample has no section: TD_GAP counts each (R354); and the
parts of the inputs that saturate in decompression (R346). -/
def tdCounts (p c : Nat) (lo : Int) (n : Nat) (d : Device) : Device :=
  if !d.tdSource p c then d
  else
    let fn := d.blockFrame
    let len : Int := d.ducFrame p c
    let gaps := (List.range n).filter fun (k : Nat) =>
      let q := (lo + k) % len
      q % 12 == 0 && (List.range (min 12 (len - q).toNat)).any fun (j : Nat) => (d.tdHit p c fn (lo + k + j)).isNone
    let excess := ((List.range n).map fun (k : Nat) => (d.tdValue p c fn (lo + k)).2).foldl (· + ·) 0
    (d.addSat (L.GST_CNT_COUNT 13) gaps.length).addSat (L.GST_CNT_COUNT 15) excess

/-! ## A DUC (R163–R170, R172) -/

/-- The phase of a chain's mixer at LANE sample `t` in 2^-48 turn, for an offset word and a settings word (R164, R165): the
accumulator since the strobe and PHASE; the second answer is the delay term of R170, in which D_F has no part on a wide channel. -/
def Device.mixPhase (d : Device) (k : Nat) (off : Int) (t : Nat) : Int × Int :=
  let c := d.chn k
  let x := bitsOf c.delay 8 8 * 256 + if isWide k then 0 else bitsOf c.delay 0 8
  let turns : Int := d.laneTurns
  (off * turns * ((t : Int) - d.clk.strobeAt) + c.phase * 2 ^ 32,
    off * turns * bitsOf c.delay 8 8 - (c.ftw : Int) * turns * x / 256)

/-- GAIN / 16,384 on a sample (R169): saturated, and whether it was. -/
def chanGain (gain : Nat) (x : Cx) : Cx × Bool :=
  let y := cxRound 16384 (cxScale gain x)
  (cxMap satFs y, beyondFs y)

/-- The gain stage saturated `n` times in the block: SAT (R169). -/
def gainSat (k n : Nat) (d : Device) : Device :=
  d.when (n != 0) fun d => d.eventLimited (L.CH_EVENT_SAT k) ticksPerMs isleLANE 16 (chanSrc k) (chanReg k) 2 []

/-- Sample `i` at the FIR rate of the resampler of a chain (R163, R168, R170): `shift` turns a LANE sample's count into its place
in the frame, in which input sample `g` lies at LANE sample g den / 2^rate; it enters ahead by the group delays of the DUC (R191). -/
def resampleUp (cfg : ChanCfg) (den : Nat) (shift : Int) (df : Nat) (f : Sig) : Sig := fun i =>
  let num := (256 * (i * cfg.decim + shift) + 128 * (ducLead2 cfg den : Int) - df) * ((2 ^ cfg.rate : Nat) : Int)
  let den' : Int := ((256 * den : Nat) : Int)
  firAt (resampleTaps (num % den' * 2 ^ 32 / den').toNat) f (num / den')

/-- The filters of a DUC: resampler, ROM FIR, half-band, droop compensator and CIC (R163, R166, R167), its samples in 2^-s; `lo`
and `len` are the span wanted. -/
def ducFilter (cfg : ChanCfg) (den : Nat) (shift : Int) (df : Nat) (lo : Int) (len : Nat) (f : Sig) : Sig × Nat :=
  let r := (memoAt cfg.decim 240 lo len (resampleUp cfg den shift df f)).sig
  let fir := (memoAt cfg.decim 40 lo len (firAt (linearTaps (kindRom cfg.fir) (romTaps cfg.fir)) r)).sig
  let hb := (memoAt cfg.r 32 lo len (if cfg.hb then interp2 hb23 fir else fir)).sig
  let comp := (memoAt cfg.r 20 lo len (firAt (linearTaps (kindDroop cfg.order cfg.r) 9) hb)).sig
  let taps := cicTaps cfg.r cfg.order
  let cic : Sig := fun n => cicScale cfg.order cfg.r (cxScale cfg.r (firAt taps (stuff cfg.r comp) n))
  (cic, 24 * (if cfg.hb then 4 else 3) + 15)

/-- The samples of DUC[p][c] in the block: gain, filters, mixer, integer delay.  A DUC that does not run contributes none
(R182). -/
def ducBlock (p c : Nat) (d : Device) : List Cx × Device :=
  let k := duc p c
  if d.get (L.CH_STAT_STATE k) ≠ 1 then ([], d)
  else
    let ctl := d.chn k
    let cfg := chanCfg k ctl.cfg
    let s := d.sig k
    let t0 := d.clk.blockFrom
    let n := d.blockLen
    let lead : Int := (ducLead2 cfg (if d.lowPower then 25 else 50) : Int)
    let g0 := d.gridAt k cfg t0 lead
    let g1 := d.gridAt k cfg (t0 + n) lead
    let len := (g1 - g0).toNat
    let gained := (d.ducInput p c g0 len).map (chanGain ctl.gain)
    let void := d.ducVoid p c g0 len
    let d := tdCounts p c g0 len (gainSat k (gained.filter (·.2)).length d)
    let fresh := gained.map (·.1)
    if fresh.isEmpty && s.ins.isEmpty && s.line.isEmpty then
      if void == s.void then ([], d)
      else if void.isEmpty && s.outs.isEmpty && s.runs.isEmpty then ([], { d with chanSig := tabDel d.chanSig k })
      else ([], d.setSig k { s with void := void })
    else
      let fresh := if fresh.isEmpty then List.replicate len cx0 else fresh
      let ins := s.ins ++ fresh
      let den := if d.lowPower then 25 else 50
      let (y, bits) := ducFilter cfg den d.frameShift (bitsOf ctl.delay 0 8) t0 n (tabOf (g0 - s.ins.length) ins).sig
      let off : Int := (ctl.ftw : Int) - (d.txc p).ftw
      let mix : Sig := fun t =>
        let ph := d.mixPhase k off t.toNat
        cxRound (2 ^ (bits + 30)) (cxMul (y t) (ncoPhasor (ph.1 + ph.2)))
      let line := s.line ++ sigList mix t0 n
      let out := sigList (tabOf ((t0 : Int) - s.line.length) line).sig ((t0 : Int) - bitsOf ctl.delay 8 8) n
      (quiet out, d.setSig k { s with ins := lastOf 512 ins, line := lastOf 256 line, void := void })

/-! ## TXINJ (R286, R287) -/

/-- The path carries the Pilot in place of its DUC outputs: it is the transmitter that the run in progress measures. -/
def Device.txInjected (d : Device) (p : Nat) : Bool := d.calTxPath == some p && d.get L.CAL_RSTAT_STATE == 3

/-- F_P of the Pilot as a tuning word (R286). -/
def Device.pilotFtw (d : Device) : Nat := d.get L.CAL_PILOT_LO_FTW_LO + d.get L.CAL_PILOT_HI_FTW_HI * 2 ^ 32

/-- The Pilot at LANE sample `t` about F_RF of path `p`, at CAL_ALIGN.TXLVL: 2^CM tones CSP × 1.5 MHz apart about F_P, their phases
free (R286); a tone turns by CSP / 1,024 of a turn for each LANE sample at full rate. -/
def Device.pilotSample (d : Device) (p t : Nat) : Cx :=
  let off : Int := ((d.pilotFtw : Int) - (d.txc p).ftw) * (d.laneTurns * t : Nat)
  let n := 2 ^ min 6 (d.get L.CAL_PILOT_CM)
  let sp := max 1 (d.get L.CAL_PILOT_CSP)
  let amp := isqrt (32767 ^ 2 * dbPower 2 (-(d.get L.CAL_ALIGN_TXLVL : Int)) / (n * 2 ^ 60))
  let tones := (List.range n).map fun (k : Nat) =>
    turnExact ((2 * (k : Int) - (n - 1 : Nat)) * sp * t * 2 ^ 37 * (d.laneTurns / 8 : Nat) + off + Config.tap 4095 k)
  cxRound (2 ^ 50) (cxScale amp (cxSum tones))

/-! ## Carrier sum (R182, R283) -/

/-- Samples a transmit path holds. -/
def Device.txs (d : Device) (p : Nat) : TxSig := tabGet d.txSig ⟨[], [], [], []⟩ p
/-- Replace them. -/
def Device.setTxs (d : Device) (p : Nat) (c : TxSig) : Device := { d with txSig := tabPut d.txSig p c }

/-- TXG of a path in force, Q2.14 (R282). -/
def Device.txGain (d : Device) (p : Nat) : Cx := d.inForce (.lane p) fun b => iqOf (d.rd (A.CAL_LANE_TXG p b))

/-- The samples summed: TXG on each, then the sum; saturated, with how many samples were (R182, R283). -/
def carrierSum (n : Nat) (g : Cx) (outs : List (List Cx)) : List Cx × Nat :=
  let sums := (List.range n).map fun k => cxSum (outs.map fun o => cxRound 16384 (cxMul g (o.getD k cx0)))
  (quiet (sums.map (cxMap satFs)), (sums.filter beyondFs).length)

/-- The carrier sum of path `p` over the block: its four DUCs, or the Pilot in their place (R182, R287). -/
def sumBlock (p : Nat) (d : Device) : List Cx × Device :=
  let (outs, d) := (List.range 4).foldl (fun (t : List (List Cx) × Device) c =>
    let (o, d) := ducBlock p c t.2
    (if o.isEmpty then t.1 else t.1 ++ [o], d)) ([], d)
  let outs := if d.txInjected p then
      [(List.range d.blockLen).map fun k => d.pilotSample p (d.clk.blockFrom + k - d.clk.strobeAt)]
    else outs
  if outs.isEmpty then ([], d)
  else
    let (u, clips) := carrierSum d.blockLen (d.txGain p) outs
    (u, d.when (clips != 0) fun d => d.addSat (L.CH_SUMCLIP_COUNT p) clips)

/-! ## Predistortion (R232–R239) -/

/-- |e| in 2^-32, of a sample divided by 32,768 (R232). -/
def envelope (e : Cx) : Nat := isqrt (cxNorm e * 2 ^ 34)

/-- |e|^K in 2^-32: products held with 32 fractional bits, their rounding open (R232). -/
def envPower (m : Nat) : Nat → Int
  | 0 => 2 ^ 32
  | k + 1 => roundOpen (2 ^ 32) (envPower m k * m)

/-- One term at sample `n`, in 2^-32 (R232, R234, R237): `u` is the carrier sum of a path. -/
def termAt (u : Nat → Sig) (p map desc coef : Nat) (n : Int) : Cx :=
  let slot := bitsOf map (8 * bitsOf desc 28 2) 7
  let s := u (if bitsOf desc 30 1 = 1 then slot else p)
  let e := u (if bitsOf desc 27 1 = 1 then slot else p)
  let at' := n - bitsOf desc 20 4
  let env := envPower (envelope (e (at' - signedOf 4 (bitsOf desc 16 4)))) (bitsOf desc 24 3)
  let c : Cx := (unitPart (bitsOf coef 0 16), unitPart (bitsOf coef 16 16))
  cxScale (2 ^ bitsOf desc 8 4) (cxRound (2 ^ 30) (cxScale env (cxMul c (s at'))))

/-- The sum of the enabled terms of bank `b`, in 2^-32 (R232). -/
def Device.dpdTerms (d : Device) (u : Nat → Sig) (p b : Nat) (n : Int) : Cx :=
  cxSum (((List.range 32).filter fun t => bitsOf (d.dpdTerm p b t) 31 1 == 1).map fun t =>
    termAt u p (d.dpdMap p b) (d.dpdTerm p b t) (d.rd (A.DPD_BANK p b (2 * t + 1))) n)

/-- The output of bank `b` at sample `n`, and whether it saturated (R232): round(u + 32,768 Σ T), halves up. -/
def Device.dpdBankOut (d : Device) (u : Nat → Sig) (p b : Nat) (n : Int) : Cx × Bool :=
  let x := u p n
  let t := d.dpdTerms u p b n
  let v := cxMap (roundNear (2 ^ 17)) (cxAdd (cxScale (2 ^ 17) x) t)
  (cxMap satFs v, beyondFs v)

/-- The predistorter's output at sample `n` (R236, R239): u itself while disabled; both banks blended in a fade, a sample that
either saturates counted once (log 117). -/
def Device.dpdOut (d : Device) (u : Nat → Sig) (p : Nat) (n : Int) : Cx × Bool :=
  if tabGet? d.dpdOn p ≠ some true then (u p n, false)
  else
    let a := d.dpdBankOut u p (d.xfActive (.dpd p)) n
    match (d.xfc (.dpd p)).fade with
    | none => a
    | some f =>
      let b := d.dpdBankOut u p f.target n
      let w := f.weight f.step
      ((blendCoef w a.1.1 b.1.1, blendCoef w a.1.2 b.1.2), a.2 || b.2)

/-- A term of a bank in use at path `p` has a nonzero coefficient: without one, zeros in give zeros out. -/
def Device.dpdActive (d : Device) (p : Nat) : Bool := tabGet? d.dpdOn p == some true

/-- The predistorter of path `p` over the block: v, and CLIP for each saturated sample (R232). -/
def dpdSamples (u : Nat → Sig) (p : Nat) (d : Device) : List Cx × Nat × Device :=
  let out := (List.range d.blockLen).map fun (k : Nat) => d.dpdOut u p (d.clk.blockFrom + k : Nat)
  let n := (out.filter (·.2)).length
  (quiet (out.map (·.1)), n, d.when (n != 0) fun d =>
    (d.addSat (L.DPD_PCNT_CLIP p) n).eventLimited (L.DPD_PEVENT_CLIP p) ticksPerMs isleLANE 19 p 0 2 [])

/-! ## The converter (R142–R150) -/

/-- The word that crosses to TXCONV: I at [15:0], Q at [31:16], VALID at [32] (R142). -/
def txWord (valid : Bool) (x : Cx) : Nat := encodeSigned 16 x.1 + encodeSigned 16 x.2 * 2 ^ 16 + bit valid * 2 ^ 32

/-- What the converter takes from a word: zero where VALID = 0 (R142). -/
def txTake (w : Nat) : Cx := if bitsOf w 32 1 = 1 then iqOf w else cx0

/-- The gain g of the mute ramp at a position, in 2^-40: a raised cosine (R150). -/
def rampGainAt (pos len : Nat) : Int := (2 ^ 40 - (turnExact ((pos * 2 ^ 47 / max 1 len : Nat) : Int)).1) / 2

/-- g at LANE sample `t` of the block that ends, in 2^-40 (R150, R151): of the last ramp that has begun, else what it began
from, else as MUTED says. -/
def Device.muteGain (d : Device) (p t : Nat) : Int :=
  let c := d.txc p
  let all' := c.was ++ c.ramp.toList
  match (all'.filter fun r => r.start ≤ t).getLast?, all'.head? with
  | some r, _ => rampGainAt (r.posAt t) r.len
  | none, some r => rampGainAt r.pos r.len
  | none, none => if d.on (L.TXDAC_STAT_MUTED p) then 0 else 2 ^ 40

/-- The output response before correction at a frequency in 2^-48 of 12.288 GHz, times that frequency: |sin(π f / Fdac)| in NRZ,
sin²(π f / 2 Fdac) in MIXED, in 2^-40 (R149). -/
def dacResponse (mode : Nat) (lp : Bool) (f : Int) : Nat :=
  if mode = 2 then
    let s := (turnExact (if lp then f / 2 else f / 4)).2.natAbs
    s * s / 2 ^ 40
  else (turnExact (if lp then f else f / 2)).2.natAbs

/-- The gain of a list of taps at an offset of `o` in 2^-48 of the LANE rate, in 2^-64, squared and in 2^-64 again. -/
def tapsPower (taps : List Cx) (o : Int) : Nat :=
  let g := cxSum ((taps.zip (List.range taps.length)).map fun x => cxMul x.1 (turnExact (-(o * (x.2 : Int)))))
  cxNorm g / 2 ^ 64

/-- The bounds of R149 at 21 frequencies of the composite passband: flat within ±0.1 dB against the output response, and a gain of
−0.1 to +2.0 dB; `ftw` is F_RF, and the passband ±0.4 of the LANE rate. -/
def sincMeets (mode ftw : Nat) (lp : Bool) (taps : List Cx) : Bool :=
  (List.range 21).all fun (k : Nat) =>
    let o : Int := (4 * 2 ^ 48 / 100) * ((k : Int) - 10)
    let f : Int := (ftw : Int) + o / (if lp then 16 else 8)
    let g := tapsPower taps o
    let r := (dacResponse mode lp f * ftw) ^ 2
    let r0 := (dacResponse mode lp ftw * f.natAbs) ^ 2
    9772 * 2 ^ 64 ≤ 10000 * g && 10000 * g ≤ 15849 * 2 ^ 64 &&
      9772 * r0 * 2 ^ 64 ≤ 10000 * g * r && 10000 * g * r ≤ 10233 * r0 * 2 ^ 64

/-- The 15 taps of the sinc corrector for a mode, tuning word and converter mode, unity gain at F_RF (R149): free values within the
bounds; taps that break them count as the bypass, whose gain keeps its range (log 135). -/
def sincTaps (mode ftw : Nat) (lp : Bool) : List Cx :=
  let kind := 4096 * (ftw + 1) + mode + 4 * bit lp
  let side := (List.range 14).map fun k => (Config.tap kind (2 * k), Config.tap kind (2 * k + 1))
  let rest := cxSum side
  let taps := side.take 7 ++ [cxSub (2 ^ 24, 0) rest] ++ side.drop 7
  if sincMeets mode ftw lp taps then taps else List.replicate 7 cx0 ++ [(2 ^ 24, 0)] ++ List.replicate 7 cx0

/-- The sinc corrector, or its bypass at the same latency (R149). -/
def Device.sincAt (d : Device) (p : Nat) (f : Sig) : Sig :=
  if d.on (L.TXDAC_CFG_SINC_EN p) then
    let taps := sincTaps (d.get (L.TXDAC_STAT_MODE p)) (d.txc p).ftw d.lowPower
    fun n => cxRound (2 ^ 24) (cxSum ((List.range 15).map fun (k : Nat) => cxMul (taps.getD k cx0) (f (n - k))))
  else fun n => f (n - 7)

/-- HB1 and HB2 of a stream, then HB3 of what they put out (R144), in 2^-72; `lo` and `len` are the span wanted. -/
def interpTx (lo : Int) (len : Nat) (f : Sig) : Memo :=
  let a := (memo (2 * lo - 20) (2 * len + 22) (interp2 (halfBandTaps kindHb1 55) f)).sig
  let b := (memo (4 * lo - 8) (4 * len + 10) (interp2 (halfBandTaps kindHb2 23) a)).sig
  memo (8 * lo) (8 * len) (interp2 (halfBandTaps kindHb3 11) b)

/-- The output mixer at converter sample `n` of LANE sample count `t` (R145): at F_RF, or at Fdac − F_RF on the conjugate; a real
sample in 2^-102. -/
def Device.txMix (d : Device) (p : Nat) (x : Cx) (n : Int) : Int :=
  let c := d.txc p
  let step : Int := c.ftw * (d.laneTurns / 8)
  let phase : Int := (c.phase : Int) * 2 ^ 32
  if d.get (L.TXDAC_STAT_MODE p) = 2 then (cxMul (cxConj x) (ncoPhasor ((2 ^ 48 - step) * n - phase))).1
  else (cxMul x (ncoPhasor (step * n + phase))).1

/-- The core code of a real sample in 2^-s, in half-codes (R143): 8,191.5 + y × 7,935.5 / 32,767 to the nearest half-code, from 0
to 16,383.5. -/
def coreCode (s : Nat) (y : Int) : Nat :=
  let c := 16383 + roundNear (32767 * 2 ^ s) (y * 15871)
  (max 0 (min 32767 c)).toNat

/-- Slots that a code turns on, and the binary section's part in half-codes (R143): floor(c / 256), c mod 256. -/
def thermoSlots (code : Nat) : Nat × Nat := (code / 512, code % 512)

/-- The core codes of a block from the sinc corrector's output: none while nothing but zeros goes in (R143, R152). -/
def Device.coreCodes (d : Device) (p : Nat) (f : Sig) : List Nat :=
  let y := (interpTx d.clk.blockFrom d.blockLen f).sig
  (List.range (8 * d.blockLen)).map fun (k : Nat) =>
    let n : Int := 8 * (d.clk.blockFrom : Int) + k
    coreCode 102 (d.txMix p (y n) (n - 8 * d.clk.txStrobeAt))

/-- The codes as the slots carry them (R155, R158). -/
def Device.txCodes (d : Device) (p : Nat) (codes : List Nat) : List Nat := codes.map (d.codeOut p)

/-- The converter over the block (R140): `v` is the Damper's output.  In a settling block, with MODE = NONE or in a state other than
RUN the output is zero (R145, R147, R152); the codes of a quiet path are not listed.  Codes that the
slots cannot carry count as clipped (R155, R158). -/
def txConvert (p : Nat) (v : List Cx) (d : Device) : Device :=
  let s := d.txs p
  let t0 := d.clk.blockFrom
  if v.isEmpty && s.ramp.isEmpty && s.sinc.isEmpty then
    if s.codes.isEmpty then d else d.setTxs p { s with codes := [] }
  else
    let n := d.blockLen
    let words := (List.range n).map fun k => txTake (txWord (!d.txStoppedAt (t0 + k)) (v.getD k cx0))
    let ramped := ((List.range n).zip words).map fun x => cxRound (2 ^ 40) (cxScale (d.muteGain p (t0 + x.1)) x.2)
    let ramp := s.ramp ++ ramped
    let sinc := s.sinc ++ sigList (d.sincAt p (tabOf ((t0 : Int) - s.ramp.length) ramp).sig) t0 n
    let dead := d.txState p != 3 || d.get (L.TXDAC_STAT_MODE p) == 0 || d.on (L.TXDAC_STAT_SETTLING p)
    let core := if dead then [] else d.coreCodes p (tabOf ((t0 : Int) - s.sinc.length) sinc).sig
    let d := codesClip p (core.filter fun c => d.codeOut p c != c).length d
    d.setTxs p { s with ramp := lastOf 16 ramp, sinc := lastOf 64 sinc, codes := d.txCodes p core }

/-! ## The block -/

/-- Paths that may carry a signal: those with a DUC committed, the Pilot, samples held, or predistortion enabled. -/
def Device.txPaths (d : Device) : List Nat :=
  (List.range 64).filter fun p =>
    (tabGet? d.txSig p).isSome || tabGet? d.dpdOn p == some true || d.calTxPath == some p ||
      d.chan.any fun x => x.1 / 8 == p && isDuc x.1

/-- The carrier sums of the block by path. -/
def sumsBlock (d : Device) : List (Nat × List Cx) × Device :=
  d.txPaths.foldl (fun (t : List (Nat × List Cx) × Device) p =>
    let (u, d) := sumBlock p t.2
    (if u.isEmpty then t.1 else t.1 ++ [(p, u)], d)) ([], d)

/-- The stream of carrier sums of a path: those held, then the block's (R233). -/
def Device.sumSig (d : Device) (us : List (Nat × List Cx)) (p : Nat) : Sig :=
  let h := (d.txs p).sum
  (tabOf ((d.clk.blockFrom : Int) - h.length) (h ++ tabGet us [] p)).sig

/-- The predistorter outputs of the block by path, with the samples saturated in each. -/
def dpdsBlock (us : List (Nat × List Cx)) (d : Device) : List (Nat × List Cx × Nat) × Device :=
  let u := d.sumSig us
  d.txPaths.foldl (fun (t : List (Nat × List Cx × Nat) × Device) p =>
    let quietIn := (tabGet us [] p).isEmpty && !d.dpdActive p
    if quietIn then t
    else
      let (v, n, d) := dpdSamples u p t.2
      (if v.isEmpty && n = 0 then t.1 else t.1 ++ [(p, v, n)], d)) ([], d)

/-- The last 16 carrier sums are held (R234); a path that holds nothing leaves the table. -/
def sumsHold (us : List (Nat × List Cx)) (d : Device) : Device :=
  d.txPaths.foldl (fun d p =>
    let s := d.txs p
    let h := s.sum ++ (let u := tabGet us [] p; if u.isEmpty then List.replicate (min 16 d.blockLen) cx0 else u)
    let s' : TxSig := { s with sum := lastOf 16 h }
    if s' == ⟨[], [], [], []⟩ then { d with txSig := tabDel d.txSig p } else d.setTxs p s') d

/-- The Damper forces the output of path `p` to zero at LANE sample `t` (R311–R313). -/
def Device.forcedAt (d : Device) (p t : Nat) : Bool :=
  (d.on (L.DMP_PSTAT_FORCED p) && (d.dmpc p).since ≤ t) || (d.dmpc p).spans.any fun s => s.1 ≤ t && t < s.2

/-- Samples from LANE sample `t0` on, those at which `zero` holds made zero. -/
def blanked (t0 : Nat) (zero : Nat → Bool) (v : List Cx) : List Cx :=
  ((List.range v.length).zip v).map fun x => if zero (t0 + x.1) then cx0 else x.2

/-- The Damper's output of a path over the block that ends: zero where it forces (R311–R313). -/
def Device.damped (d : Device) (p : Nat) (v : List Cx) : List Cx :=
  let c := d.dmpc p
  if d.on (L.DMP_PSTAT_FORCED p) && c.since ≤ d.clk.blockFrom then []
  else if !d.on (L.DMP_PSTAT_FORCED p) && c.spans.isEmpty then v
  else blanked d.clk.blockFrom (d.forcedAt p) v

/-- What the Damper measures of samples from LANE sample `t0` on: zeros while it forces, and in an outage (R112, R304, R313). -/
def Device.damperSees (d : Device) (p t0 : Nat) (v : List Cx) : List Cx :=
  if d.on (L.DMP_PSTAT_FORCED p) || !(d.dmpc p).spans.isEmpty || d.txStopped then
    blanked t0 (fun t => d.forcedAt p t || d.txStoppedAt t) v
  else v

end Sys2Proof.Machine
end

