-- ==== Sys2Proof/Machine/RxSig.lean ====
section
/-! DEFINITION. The receive samples of a LANE block: the output words of the converters, the ÷4 stages, the chains and wide
channels with their invalid marks, and the power windows (R121–R123, R130, R160, R161, R163–R170, R175–R181, R183, R283). -/
namespace Sys2Proof.Machine

/-! ## Output words (R121–R123, R130)

A sample enters the crossing 36 LANE cycles after its instant (R114), so that by the end of a block a converter has taken the
samples of 36 LANE cycles more than its words of the block carry. -/

/-- Samples taken ahead of the words (R114). -/
def rxAhead : Nat := 144

/-- The slice map and coefficients that a converter had at LANE sample `t` of the block that ends (R122, R123, R126). -/
def Device.rxEraAt (d : Device) (n t : Nat) : RxEra :=
  match (d.rxc n).eras.find? fun e => t < e.upTo with
  | some e => e
  | none => ⟨0, d.rd (A.RXADC_MAP n), (d.coefs n).map fun k => (k.ofs, k.gain, k.skew, k.bw)⟩

/-- Position `p` is concealed at LANE sample `t` (R129–R131). -/
def RxCtl.hidden (c : RxCtl) (p t : Nat) : Bool :=
  c.hides.any fun h => h.1 == p && h.2.1 ≤ t && (match h.2.2 with
    | some e => decide (t < e)
    | none => true)

/-- The samples taken for a block, from LANE sample `t0` on, each with the coefficients of the slice that took it and whether its
position is concealed (R122, R123, R130): sample `first` + j of the stream is taken at position (first + j) mod 8. -/
def Device.rxTaken (d : Device) (n t0 first len : Nat) (codes : List Int) : List (Int × (Int × Int × Int × Int) × Bool) :=
  let c := d.rxc n
  (List.range len).map fun j =>
    let pos := (first + j) % 8
    let t := t0 + j / 4
    let e := d.rxEraAt n t
    (codes.getD j 0, e.coefs.getD (bitsOf e.map (4 * pos) 4) (0, 0, 0, 0), c.hidden pos t)

/-- The arithmetic of correction: fs per 10^9 sample periods, the zone, the converter mode, and the samples taken from stream
sample `base` on. -/
structure RxFix where
  rate : Int
  zone : Nat
  lp : Bool
  base : Int
  taken : List (Int × (Int × Int × Int × Int) × Bool)

/-- A sample taken. -/
def RxFix.at (f : RxFix) (m : Int) : Int × (Int × Int × Int × Int) × Bool :=
  if m < f.base then (0, (0, 0, 0, 0), false) else f.taken.getD (m - f.base).toNat (0, (0, 0, 0, 0), false)

/-- The coefficients of the slice that took a sample. -/
def RxFix.coef (f : RxFix) (m : Int) : SliceCoef := let k := (f.at m).2.1; ⟨k.1, k.2.1, k.2.2.1, k.2.2.2⟩

/-- Steps 1 and 2: OFS subtracted, times 1 + GAIN; in 2^-23 LSB. -/
def RxFix.gained (f : RxFix) (m : Int) : Int := (16 * (f.at m).1 - (f.coef m).ofs) * (2 ^ 19 + (f.coef m).gain)

/-- The derivative estimate of a 15-tap FIR over the interleaved stream, per sample period, in 2^-47 LSB. -/
def RxFix.slope (f : RxFix) (m : Int) : Int :=
  (List.range 7).foldl (fun t (k : Nat) => t + Config.tap 5 k * (f.gained (m + 1 + k) - f.gained (m - 1 - k))) 0

/-- Step 3: SKEW × the derivative subtracted; in 2^-47 × 10^-9 LSB. -/
def RxFix.aligned (f : RxFix) (m : Int) : Int := f.gained m * (2 ^ 24 * 10 ^ 9) - (f.coef m).skew * f.rate * f.slope m

/-- Step 4: the symmetric 3-tap filter with side tap BW; its middle tap is left open.  In 2^-61 × 10^-9 LSB. -/
def RxFix.flat (f : RxFix) (m : Int) : Int :=
  let bw := (f.coef m).bw
  (2 ^ 14 + Config.tap 6 (bw + 512).toNat) * f.aligned m + bw * (f.aligned (m - 1) + f.aligned (m + 1))

/-- The corrected sample before saturation, in 1/4 LSB. -/
def RxFix.value (f : RxFix) (m : Int) : Int := roundOpen (2 ^ 59 * 10 ^ 9) (f.flat m)

/-- The 16 nearest samples of other positions, 8 before and 8 after (R130). -/
def concealOffsets : List Int := [-9, -7, -6, -5, -4, -3, -2, -1, 1, 2, 3, 4, 5, 6, 7, 9]

/-- The sample a concealed one is replaced by: a band-pass interpolation centred on the middle of the usable band in use, which the
zone and the converter mode name (R116, R130). -/
def RxFix.filled (f : RxFix) (m : Int) : Int :=
  let kind := if f.lp then 12 + f.zone else 8 + f.zone
  roundOpen (2 ^ 24) ((concealOffsets.zip (List.range 16)).foldl (fun t x => t + Config.tap kind x.2 * f.value (m + x.1)) 0)

/-- Sample `m` as it leaves the converter: value, overranged, concealed (R121). -/
def RxFix.out (f : RxFix) (m : Int) : Int × Bool × Bool :=
  let (code, _, hid) := f.at m
  let v := if hid then f.filled m else f.value m
  (sat16 v, code ≤ -8192 || 8191 ≤ code || beyond16 v, hid)

/-- The 77-bit output word of four samples, with CHG and VALID; without VALID the samples are zero (R121). -/
def rxWord (s : List (Int × Bool × Bool)) (chg : Nat) (valid : Bool) : Nat :=
  let x := fun k => s.getD k (0, false, false)
  let part := fun k => encodeSigned 16 (if valid then (x k).1 else 0) * 2 ^ (16 * k) + bit (x k).2.1 * 2 ^ (64 + k) + bit (x k).2.2 * 2 ^ (68 + k)
  part 0 + part 1 + part 2 + part 3 + chg % 16 * 2 ^ 72 + bit valid * 2 ^ 76

/-- The four samples of a word. -/
def rxWordSamples (w : Nat) : List Int := (List.range 4).map fun k => signedOf 16 (bitsOf w (16 * k) 16)

/-- Converter `n` sampled at LANE sample `t`: one that is gated did so until the gating began (R112, R133). -/
def Device.rxLive (d : Device) (n t : Nat) : Bool :=
  if d.rxState n = 4 then 2 ≤ (d.rxc n).before && t < d.clk.outageFrom else d.rxSampling n

/-- The word of LANE sample `t` carries VALID (R117, R133, R135). -/
def Device.rxValid (d : Device) (n t : Nat) : Bool := d.rxLive n t && (d.rxs n).gaps.all fun g => t < g.1 || g.2 ≤ t

/-- The output word of LANE sample `t`. -/
def Device.rxWordAt (d : Device) (n : Nat) (f : RxFix) (t : Nat) : Nat :=
  rxWord ((List.range 4).map fun (k : Nat) => f.out (4 * (t : Int) + k)) (bit ((d.rxs n).chg.contains t)) (d.rxValid n t)

/-! ## The ÷4 stage (R160, R161, R283) -/

/-- The centre in the sampled domain, in turns of 2^-48 per sample: inverted in zone 2 (R115, R161). -/
def Device.centreStep (d : Device) (n : Nat) : Int :=
  let f : Int := ((centreFtw (d.chanCentre n) * (d.laneTurns / 4) : Nat) : Int)
  if (d.rxc n).zone = 2 then -f else f

/-- RXG of a path in force, Q2.14; an OBS has none (R282, R283). -/
def Device.rxGain (d : Device) (n : Nat) : Cx := if n < 64 then d.inForce (.lane n) fun b => iqOf (d.rd (A.CAL_LANE_RXG n b)) else (16384, 0)

/-- The ÷4 stage at LANE sample `t` over the samples of the words: mix, conjugate in zone 2, 97 taps about the sample 12 LANE samples
back (R174), decimate by 4; a full-scale sine gives 32,767.  RXG follows. -/
def Device.frontAt (d : Device) (n : Nat) (x : Int → Int) (t : Nat) : Cx :=
  let step := d.centreStep n
  let mixed : Sig := fun m =>
    let y := cxScale (x m) (cxConj (ncoPhasor (step * (m - 4 * (d.clk.strobeAt : Int)))))
    if (d.rxc n).zone = 2 then cxConj y else y
  let y := cxRound (32766 * 2 ^ 54) (cxScale 65534 (firAt (linearTaps kindFront 97) mixed (4 * (t : Int))))
  cxMap satFs (cxRound 16384 (cxMul (d.rxGain n) (cxMap satFs y)))

/-- LANE samples for which a stretch of VALID = 0 is remembered: the segments of a calibration step (R291, R294). -/
def gapsKept : Nat := 20 * 4096

/-- The maps, coefficients and concealments of the block that ends are done with (R126, R129). -/
def rxErasDone (n : Nat) (d : Device) : Device :=
  let c := d.rxc n
  if c.eras.isEmpty && c.hides.isEmpty then d
  else d.setRx n { c with eras := [], hides := c.hides.filter fun h => h.2.2.isNone }

/-- Converter `n` over the block that ends: samples taken, output words, ÷4 stage.  A converter with nothing but zeros is left
out. -/
def rxSamples (n : Nat) (codes : List Int) (d : Device) : Device :=
  let s := d.rxs n
  let t0 := d.clk.blockFrom
  let len := d.blockLen
  let gaps := s.gaps.filter fun g => t0 < g.2 + gapsKept
  if codes.all (· == 0) && s.codes.isEmpty && s.words.isEmpty && s.front.isEmpty then
    if gaps.isEmpty then { d with rxSig := tabDel d.rxSig n } else d.setRxs n { s with gaps := gaps, chg := [] }
  else
    let taken := s.codes ++ d.rxTaken n t0 (4 * t0 + rxAhead) (4 * len) codes
    let f : RxFix := ⟨if d.lowPower then 3072 else 6144, (d.rxc n).zone, d.lowPower,
      4 * (t0 : Int) + rxAhead - s.codes.length, taken⟩
    let fresh := (List.range len).flatMap fun k => rxWordSamples (d.rxWordAt n f (t0 + k))
    let words := s.words ++ fresh
    let base : Int := 4 * (t0 : Int) - s.words.length
    let arr := words.toArray
    let x := fun m : Int => if m < base then 0 else arr.getD (m - base).toNat 0
    let front := s.front ++ (List.range len).map fun k => d.frontAt n x (t0 + k)
    let still := fun (l : List Int) => if l.all (· == 0) then [] else l
    d.setRxs n ⟨if taken.all (·.1 == 0) then [] else taken.drop (taken.length - 192), still (words.drop (words.length - 96)),
      lastOf 5632 front, gaps, []⟩

/-! ## Receive chains (R163–R170, R175, R176) -/

/-- What a chain's mixer puts out at LANE sample `t`, in 2^-30: the ÷4 output behind the integer delay, turned by the phase in
force and the delay term (R164, R165, R170; log 118). -/
def Device.chainMix (d : Device) (k : Nat) (front : Sig) (t : Int) : Cx :=
  let c := d.chn k
  let off : Int := (c.ftw : Int) - centreFtw (d.chanCentre (d.chanInput k))
  let ph := d.mixPhase k off t.toNat
  cxMul (front (t - bitsOf c.delay 8 8)) (ncoPhasor (ph.2 - ph.1))

/-- The CIC and the droop compensator at their output index (R163, R166), `f` being the mixer's output by place in the frame; a
wide channel with R = 1 bypasses both (R175).  `lo` and `len` are the span of LANE samples that is wanted. -/
def cicStage (wide : Bool) (cfg : ChanCfg) (lo : Int) (len : Nat) (f : Sig) : Sig × Nat :=
  if wide && cfg.r ≤ 1 then (f, 0)
  else
    let taps := cicTaps cfg.r cfg.order
    let cic := (memoAt cfg.r 480 lo len fun i => cicScale cfg.order cfg.r (firAt taps f (i * cfg.r))).sig
    ((memoAt cfg.r 460 lo len (firAt (linearTaps (kindDroop cfg.order cfg.r) 9) cic)).sig, 39)

/-- The optional half-band at its output index. -/
def halfStage (cfg : ChanCfg) (lo : Int) (len : Nat) (f : Sig) : Sig × Nat :=
  if cfg.hb then ((memoAt (2 * cfg.r) 220 lo len (decim2 hb23 f)).sig, 24) else (f, 0)

/-- Coefficients of a wide channel's FIR in force, 16 fraction bits (R54, R176). -/
def Device.wideTaps (d : Device) (w taps : Nat) : List Int :=
  (List.range taps).map fun j => (d.inForce (.wch w) fun b => (signedOf 18 (d.get (L.WCH_COEF_C w b j)), 0)).1

/-- Output sample `g` of a chain's frame before the gain (R163, R168, R170, R175), the latency of R174 removed: `f` is the mixer's output by place in the
frame, in 2^-30; `lo` and `len` are the span wanted.  The second answer is how many bits lie below the sample. -/
def Device.chainOut (d : Device) (k : Nat) (lo : Int) (len : Nat) (f : Sig) : Sig × Nat :=
  let cfg := chanCfg k (d.chn k).cfg
  let (a, s) := cicStage (isWide k) cfg lo len f
  let (b, s') := halfStage cfg lo len a
  if isWide k then (firAt (d.wideTaps (wideOf k) cfg.taps) b, 30 + s + s' + 16)
  else
    let fir := (memoAt cfg.decim 20 lo len (firAt (linearTaps (kindRom cfg.fir) (romTaps cfg.fir)) b)).sig
    let den : Int := if d.lowPower then 25 else 50
    let unit : Int := ((256 * 2 ^ cfg.rate * cfg.decim : Nat) : Int)
    let out : Sig := fun g =>
      let num := 256 * den * g + ((128 * chanLag2 k cfg * 2 ^ cfg.rate : Nat) : Int) - ((bitsOf (d.chn k).delay 0 8 * 2 ^ cfg.rate : Nat) : Int)
      firAt (resampleTaps (num % unit * 2 ^ 32 / unit).toNat) fir (num / unit)
    (out, 30 + s + s' + 48)

/-- The cause of the mark on output sample `g` of the block's frame: of the run in progress, of a sampler outage in progress, else of
a run that another has overtaken (R112, R183, R184). -/
def Device.markOf (d : Device) (k : Nat) (g : Int) : Nat :=
  let c := d.chn k
  let from' := d.gridIndex k (chanCfg k c.cfg) c.runFrom
  if c.runLen != 0 && from' ≤ g && g < from' + c.runLen then d.get (L.CH_INVAL_CAUSE k)
  else if d.outageMark k g ≠ 0 then d.outageMark k g
  else
    let first := fun (t : Nat) => d.gridIndex k (chanCfg k c.cfg) t
    match (d.sig k).runs.find? fun r => first r.1 ≤ g && g < first r.1 + r.2.1 with
    | some r => r.2.2
    | none => 0

/-! ## Channel samples held (R168) -/

/-- Output samples of a receive chain in a frame (R168, R175). -/
def Device.chanFrame (d : Device) (k : Nat) : Nat :=
  let c := chanCfg k (d.chn k).cfg
  if isWide k then (if d.lowPower then 7680000 else 15360000) / max 1 c.decim else 19200 * foutOf c.rate

/-- Where sample `q` of frame `fn` lies in a stretch of output. -/
def ChanOut.place (o : ChanOut) (frame fn : Nat) (q : Int) : Int := q - o.start - frameDiff o.fn fn * (frame : Int)

/-- The last stretch that holds sample `q` of frame `fn`, and where. -/
def outHit (frame fn : Nat) (q : Int) (l : List ChanOut) : Option (ChanOut × Nat) :=
  l.foldl (fun r o =>
    let t := o.place frame fn q
    if 0 ≤ t && t.toNat < max o.vals.length o.marks.length then some (o, t.toNat) else r) none

/-- The output samples of chain `k` by their place in frame `fn`; zero where none is held. -/
def Device.outSig (d : Device) (k fn : Nat) : Sig := fun q =>
  match outHit (d.chanFrame k) fn q (d.sig k).outs with
  | some (o, t) => o.vals.getD t cx0
  | none => cx0

/-- The cause of the invalid mark of sample `q` of frame `fn`, 0 for none. -/
def Device.outMark (d : Device) (k fn : Nat) (q : Int) : Nat :=
  match outHit (d.chanFrame k) fn q (d.sig k).outs with
  | some (o, t) => o.marks.getD t 0
  | none => 0

/-- Output samples a receive chain keeps: those of an uplink symbol until it departs, and of a power window. -/
def outsKept : Nat := 65536

/-- The stretches that reach into what is kept, where sample `g` of frame `fn` is the next. -/
def Device.keepOuts (d : Device) (k fn : Nat) (g : Int) (l : List ChanOut) : List ChanOut :=
  l.filter fun o => o.place (d.chanFrame k) fn g ≤ ((outsKept + max o.vals.length o.marks.length : Nat) : Int)

/-- A receive chain over the block that ends (R163, R173): what it puts out, with SAT where the gain stage saturates (R169).  One
that does not run puts out nothing, and one that has only zeros and no mark is left out. -/
def chainBlock (k : Nat) (d : Device) : Device :=
  if isDuc k then d
  else if d.get (L.CH_STAT_STATE k) ≠ 1 then
    let s := d.sig k
    if s.outs.isEmpty then d
    else d.setSig k { s with outs := d.keepOuts k d.blockFrame (d.gridIndex k (chanCfg k (d.chn k).cfg) d.clk.blockFrom) s.outs }
  else
    let ctl := d.chn k
    let cfg := chanCfg k ctl.cfg
    let s := d.sig k
    let t0 := d.clk.blockFrom
    let len := d.blockLen
    let held := (d.rxs (d.chanInput k)).front
    let front := (tabOf ((t0 + len : Nat) - (held.length : Int)) held).sig
    let fresh := if held.isEmpty then [] else sigList (d.chainMix k front) t0 len
    let lag : Int := -(chanLag2 k cfg : Int)
    let g0 := d.gridAt k cfg t0 lag
    let n := (d.gridAt k cfg (t0 + len) lag - g0).toNat
    let marks := (List.range n).map fun (j : Nat) => d.markOf k (g0 + j)
    let marks := if marks.all (· == 0) then [] else marks
    let ins := s.ins ++ if fresh.isEmpty && !s.ins.isEmpty then List.replicate len cx0 else fresh
    let (y, bits) := d.chainOut k (1024 * (d.block : Int)) len (tabOf ((t0 + len : Nat) - (ins.length : Int) + d.frameShift) ins).sig
    let gained := if (quiet ins).isEmpty then [] else
      (sigList y g0 n).map fun x => chanGain ctl.gain (cxMap satFs (cxRound (2 ^ bits) x))
    let vals := quiet (gained.map (·.1))
    let d := gainSat k (gained.filter (·.2)).length d
    let out : ChanOut := ⟨d.blockFrame, g0, vals, marks⟩
    let outs := d.keepOuts k d.blockFrame (g0 + n) (if vals.isEmpty && marks.isEmpty then s.outs else s.outs ++ [out])
    let late := s.runs.filter fun r => g0 + n < d.gridIndex k cfg r.1 + r.2.1
    let s' : ChanSig := { s with ins := lastOf 16384 ins, outs := outs, runs := late }
    if s' == ⟨[], [], [], [], []⟩ then { d with chanSig := tabDel d.chanSig k } else d.setSig k s'

/-- Every converter, then every receive chain, over the block that ends; `rxs` are the quantiser codes of the converters that
have any (R35). -/
def rxAll (rxs : List RxBlock) (d : Device) : Device :=
  let d := d.each 72 fun n d => rxErasDone n (rxSamples n (((rxs.find? fun r => r.conv == n).map (·.codes)).getD []) d)
  d.chan.foldl (fun d x => chainBlock x.1 d) d

/-! ## Power windows (R179–R181) -/

/-- The integer delay that DDC[p][0] has in force: the coarse path takes its samples behind it (R179). -/
def Device.coarseDelay (d : Device) (p : Nat) : Nat := bitsOf (d.chn (ddc p 0)).delay 8 8

/-- Coarse window `j` of 64 LANE samples of the block that ended, of the 16 a block has (R179): the ÷4 output after RXG, behind the
delay line. -/
def Device.coarseSamples (d : Device) (p j : Nat) : List Cx :=
  let held := (d.rxs p).front
  sigList (tabOf ((d.clk.blockFrom : Int) - held.length) held).sig
    ((d.clk.blockFrom : Int) - 1024 + 64 * (j : Nat) - d.coarseDelay p) 64

/-- Every word of that window carried VALID (R180). -/
def Device.coarseValid (d : Device) (p j : Nat) : Bool :=
  (List.range 64).all fun k => d.rxValid p (d.clk.blockFrom + 64 * j + k - 1024 - d.coarseDelay p)

/-- Output samples in a fine window of chain `k` (R180). -/
def Device.fineLen (d : Device) (k : Nat) : Nat := 2 ^ max 4 (min 16 (d.get (L.CH_PCFG_WIN k)))

/-- The first output sample of chain `k` that the blocks so far have not brought, in the frame of the block in progress. -/
def Device.fineEnd (d : Device) (k : Nat) : Int :=
  let c := chanCfg k (d.chn k).cfg
  d.gridAt k c d.clk.blockFrom (-(chanLag2 k c : Int))

/-- Where the next fine window begins, in the frame of the block in progress (R180): at the end of the last, where that is held and
the window is complete; the first window is the last complete stretch of its length (log 136). -/
def Device.fineStart (d : Device) (k : Nat) : Int :=
  let n : Int := (d.fineLen k : Int)
  match (d.chn k).fine with
  | some (fn, i) =>
    let at' := i + frameDiff fn d.blockFrame * (d.chanFrame k : Int)
    if at' ≤ d.fineEnd k && d.fineEnd k ≤ at' + (outsKept : Int) then at' else d.fineEnd k - n
  | none => d.fineEnd k - n

/-- The next fine window is complete in what the blocks so far have brought. -/
def Device.fineDue (d : Device) (k : Nat) : Bool := d.fineStart k + (d.fineLen k : Int) ≤ d.fineEnd k

/-- The fine window of 2^WIN output samples that follows the last (R180), with the causes of their marks. -/
def Device.fineSamples (d : Device) (k : Nat) : List (Cx × Nat) :=
  let g := d.fineStart k
  (List.range (d.fineLen k)).map fun (j : Nat) => (d.outSig k d.blockFrame (g + j), d.outMark k d.blockFrame (g + j))

/-- The fine window is complete, no sample of it is invalid, and its converter samples (R180, R133, R183). -/
def Device.fineValid (d : Device) (k : Nat) : Bool :=
  d.fineDue k && d.rxSampling (d.chanInput k) && (d.fineSamples k).all fun x => x.2 == 0

/-- The window that has ended is done with: the next follows it without a gap (R180). -/
def fineNext (k : Nat) (d : Device) : Device :=
  if d.fineDue k then d.setChn k { d.chn k with fine := some (d.blockFrame, d.fineStart k + (d.fineLen k : Int)) } else d

/-- FINE_POWER_WINDOW (R180, R181). -/
def execFinePowerWindow (k : Nat) (s : State) : Host.Outcome State Fault Refusal :=
  actDev (.finePowerWindow k) s fun d => fineNext k (fineWindow k (meanDb ((d.fineSamples k).map (·.1))) (d.fineValid k) d)

end Sys2Proof.Machine
end

