-- ==== Sys2Proof/Machine/Dpd.lean ====
section
/-! DEFINITION. Captures, trials and the solver of the predistorter (R48, R49, R236–R255). -/
namespace Sys2Proof.Machine

/-! ## Capture requests -/

/-- WCHk meets R241: enabled, R = 1, no half-band. -/
def Device.wchCaptures (d : Device) (k : Nat) : Bool :=
  let c := chanCfg (wch k) (d.chn (wch k)).cfg
  d.get (L.CH_STAT_STATE (wch k)) == 1 && c.r == 1 && !c.hb

/-- PEND shows a requested capture in the queue. -/
def capPend (k : Nat) (d : Device) : Device :=
  d.set (L.DPD_CAPSTAT_PEND k) (bit ((d.capc k).queue.any fun r => r.kind == .requested))

/-- A request joins the queue of its OBS. -/
def capAsk (r : CapReq) (d : Device) : Device :=
  let k := r.path / 8
  let c := d.capc k
  capPend k (d.setCap k { c with queue := c.queue ++ [r] })

/-- Requests of a path and kind leave the queue. -/
def capWithdraw (p : Nat) (kind : CapKind) (d : Device) : Device :=
  let k := p / 8
  let c := d.capc k
  capPend k (d.setCap k { c with queue := c.queue.filter fun r => !(r.path == p && r.kind == kind) })

/-- The captures of a path and kind count for nothing any more (R251, R252, R281): those waiting leave the queue, one that runs
or awaits its results has lapsed. -/
def capLapse (p : Nat) (kind : CapKind) (d : Device) : Device :=
  let d := capWithdraw p kind d
  let k := p / 8
  let c := d.capc k
  let lapse := fun (r : CapReq) => if r.path == p && r.kind == kind then { r with kind := .lapsed } else r
  d.setCap k { c with running := c.running.map lapse, done := c.done.map fun x => { x with req := lapse x.req } }

/-- The priority of R49. -/
def CapKind.priority : CapKind → Nat
  | .cal => 1
  | .judge => 2
  | .routine => 3
  | .requested => 3
  | .mismatch => 4
  | .bgCal => 5
  | .lapsed => 2

/-- The kind is stored in a slot (R247). -/
def CapKind.stored : CapKind → Bool
  | .routine => true
  | .requested => true
  | _ => false

/-- Slot 2k + s is full. -/
def Device.slotFull (d : Device) (k s : Nat) : Bool :=
  d.on (if s = 0 then L.DPD_CAPSTAT_FULL0 k else L.DPD_CAPSTAT_FULL1 k)

/-- The lower-numbered free slot of an OBS (R247). -/
def Device.freeSlot (d : Device) (k : Nat) : Option Nat := [0, 1].find? fun s => !d.slotFull k s

/-- A free slot of OBS `k` is left beside those that captures already taken, or in progress, will use (R247). -/
def Device.slotRoom (d : Device) (k : Nat) : Bool :=
  let c := d.capc k
  (c.done.filter fun x => x.req.kind.stored).length + bit (c.running.any fun r => r.kind.stored)
    < ([0, 1].filter fun s => !d.slotFull k s).length

/-- A free slot of OBS `k` is left for a refusal, beside those that captures before it will use. -/
def Device.refusalRoom (d : Device) (k : Nat) : Bool :=
  let c := d.capc k
  (c.done.filter fun x => x.req.kind.stored && x.status != 6).length + bit (c.running.any fun r => r.kind.stored)
    < ([0, 1].filter fun s => !d.slotFull k s).length

/-- A waiting request may be granted (R242, R247): while a trial runs on the path, no routine capture and no mismatch measurement
(R250, R279).  A judgement capture that WCHk could not take would be refused and asked for
again without end (R241, R251): it waits (log 124). -/
def Device.capEligible (d : Device) (k : Nat) (r : CapReq) : Bool :=
  match r.kind with
  | .cal => true
  | .bgCal => true
  | _ => d.txState r.path == 3 && d.gainOne r.path && !d.clk.outage && (!r.kind.stored || d.slotRoom k)
    && (r.kind != .judge || d.wchCaptures k)
    && (d.get (L.DPD_TRIAL_RES_TSTATE r.path) == 0 || (r.kind != .mismatch && r.kind != .routine))

/-- The best of the eligible requests: lowest priority number, first of equals; a judgement capture that waited as a calibration
step ended goes first (R49). -/
def bestReq (afterCal : Bool) : List CapReq → Option CapReq
  | [] => none
  | r :: rs =>
    let rank := fun (x : CapReq) => if afterCal && x.kind == .judge then 0 else x.kind.priority
    match bestReq afterCal rs with
    | some b => if rank r ≤ rank b then some r else some b
    | none => some r

/-- The bank of a path in force for a capture, 3 during a fade (R246). -/
def Device.capBank (d : Device) (p : Nat) : Nat :=
  if (d.xfc (.dpd p)).fade.isSome then 3 else d.xfActive (.dpd p)

/-- The coupler position a calibration step starts at (R290, R299): the path's CPF node, CAL_IN for ALIGN_TX, and the first
of the nodes OBS_MATCH takes in turn. -/
def Device.calSel (d : Device) (path : Nat) : Nat :=
  match d.cal.running with
  | some r => if r.kind = 6 then 18 else if r.kind = 4 then 0 else 2 * (path % 8)
  | none => 2 * (path % 8)

/-- An OBS grants a waiting capture (R49, R241): its switch is set, then the capture holds the OBS.  The judgement captures that
wait as a calibration step ends all go before the next. -/
def capGrant (k : Nat) (d : Device) : Device :=
  let c := d.capc k
  let judges := (c.queue.filter fun r => r.kind == .judge).length
  let due := if c.afterCal then judges else min c.due judges
  if c.running.isSome then d
  else match bestReq (due != 0) (c.queue.filter (d.capEligible k)) with
    | none => d
    | some r =>
      let isCal := r.kind.isCal
      let d := obsSelect k (if isCal then d.calSel r.path else 2 * (r.path % 8) + r.input) d
      let c := d.capc k
      capPend k (d.setCap k { c with
        queue := c.queue.erase r, running := some r, damped := false, afterCal := isCal,
        due := if r.kind == .judge then due - 1 else due, bank := d.capBank r.path,
        map := d.dpdMap r.path (d.xfActive (.dpd r.path)), take := { CapTake.idle with asked := d.laneNow } })

/-- A capture has taken its samples (R242); before it has, nothing happens. -/
def capEnd (k : Nat) (d : Device) : Device :=
  let c := d.capc k
  match c.running, c.take.n0 with
  | some r, some n => if n + r.kind.len ≤ d.laneNow then capStop k (if c.damped then 2 else 0) d else d
  | _, _ => d

/-! ## Streams of a capture (R242, R243) -/

/-- The loop delay in 1/256 LANE sample (R243): 67 of the 152 samples are latencies the model does not have (log 123). -/
def Device.loopDelay (d : Device) (k p : Nat) : Nat :=
  let c := d.chn (wch k)
  256 * (152 - 67 + bitsOf c.delay 8 8) + 128 * ((chanCfg (wch k) c.cfg).taps - 1) + d.get (L.DPD_ALIGN_EXT p)

/-- The streams of a capture of request `r` on OBS `k` over the block that ends: `us` are the carrier sums, `vs` the outputs of
the predistorters. -/
def capFeed (us : List (Nat × List Cx)) (vs : List (Nat × List Cx)) (k : Nat) (r : CapReq) (map : Nat) (t : CapTake) (d : Device) :
    CapTake :=
  let t0 := d.clk.blockFrom
  let stop := t0 + d.blockLen
  let first := t.n0.orElse fun _ => ((List.range d.blockLen).map (t0 + ·)).find? fun x => t.asked ≤ x && d.rxValid (64 + k) x
  match first with
  | none => t
  | some n0 =>
    let fresh := t.n0.isNone
    let lo := max n0 t0
    let hi := min stop (t.stop.getD (n0 + r.kind.len))
    let u := d.sumSig us
    let here := (List.range (hi - lo)).map (lo + ·)
    let v := d.damped r.path (tabGet vs [] r.path)
    let delay := d.loopDelay k r.path
    let hiY := min stop (if t.stop.isSome then max hi (n0 + r.kind.len + delay / 256 + 9) else n0 + r.kind.len + delay / 256 + 9)
    let index := fun (x : Nat) => d.gridIndex (wch k) (chanCfg (wch k) (d.chn (wch k)).cfg) x
    let seen := (List.range (hiY - lo)).map (lo + ·)
    let used := seen.filter fun x => n0 + delay / 256 ≤ x + 7
    { t with
      n0 := some n0
      time := if fresh then (d.counter - (stop - n0) * 125 * (if d.lowPower then 2 else 1) * 2 ^ 32 / 192) / 2 ^ 32 else t.time
      block := if fresh then d.block else t.block
      u := t.u ++ here.map fun x => u r.path (x : Nat)
      v := t.v ++ here.map fun x => v.getD (x - t0) cx0
      y := t.y ++ seen.map fun x => d.outSig (wch k) d.blockFrame (index x)
      n := (List.range 4).map fun j =>
        if slotOn map j then t.n.getD j [] ++ here.map fun x => u (bitsOf map (8 * j) 7) (x : Nat) else []
      forced := t.forced || here.any (d.forcedAt r.path)
      bad := t.bad || used.any fun x => !d.rxValid (64 + k) x || d.outMark (wch k) d.blockFrame (index x) != 0
      clips := t.clips + (if tabGet? d.dpdOn r.path = some true then (here.filter fun x => (d.dpdOut u r.path (x : Nat)).2).length else 0) }

/-- A capture still takes samples: one that has ended early does not. -/
def CapDone.feeds (x : CapDone) : Bool := x.status == 0 || x.status == 2

/-- Every capture over the block that ends: the one in progress, and those whose Y still follows.  The bank and neighbour map are
those of the block of its first sample (R243, R246). -/
def capBlock (us : List (Nat × List Cx)) (vs : List (Nat × List Cx)) (d : Device) : Device :=
  d.each 8 fun k d =>
    let c := d.capc k
    let isCal := match c.running with
      | some r => r.kind.isCal
      | none => true
    if isCal && c.done.isEmpty then d
    else
      let begun := c.take.n0.isSome
      let map := match c.running with
        | some r => if begun then c.map else d.dpdMap r.path (d.xfActive (.dpd r.path))
        | none => c.map
      let bank := match c.running with
        | some r => if begun then c.bank else d.capBank r.path
        | none => c.bank
      let take := match c.running with
        | some r => if isCal then c.take else capFeed us vs k r map c.take d
        | none => c.take
      d.setCap k { c with
        take := take
        map := map
        bank := bank
        done := c.done.map fun x => if x.feeds then { x with take := capFeed us vs k x.req x.map x.take d } else x }

/-! ## Results (R243–R245, R249) -/

/-- What a capture measured: loop gain in 1/64 dB and phase, residual delay in 1/256 LANE sample, metric and mean powers in 1/64
dB, the mean power of V below MIN_PWR, and the correlation peak at the edge. -/
structure CapRes where
  gainDb : Int
  gainPh : Nat
  res : Int
  metric : Int
  pv : Int
  py : Int
  quiet : Bool
  edge : Bool
deriving DecidableEq, Repr

/-- Y aligned to V (R243): the loop delay removed by the 16-tap interpolator, and rotated by F_RF − F_c (log 123). -/
def Device.alignedY (d : Device) (k p n0 : Nat) (y : List Cx) (n : Nat) : List Cx :=
  let delay := d.loopDelay k p
  let taps := resampleTaps (delay % 256 * 2 ^ 24)
  let f := (tabOf 0 y).sig
  let off : Int := ((d.txc p).ftw : Int) - (d.chn (wch k)).ftw
  (List.range n).map fun (i : Nat) =>
    let x := firAt taps f ((i + delay / 256 + 8 : Nat) : Int)
    cxMap satFs (cxRound (2 ^ 54) (cxMul x (ncoPhasor (-(off * d.laneTurns * ((n0 + i : Nat) - d.clk.strobeAt))))))

/-- Σ a_i b_i*. -/
def innerSum (a b : List Cx) : Cx := cxSum ((a.zip b).map fun x => cxMul x.1 (cxConj x.2))

/-- 10 log10 (a / b) in 1/64 dB, to the unit below or above (log 116). -/
def ratioDb (a b : Nat) : Int :=
  let r := greatest (dbAtLeast a b) 16 (-32768)
  if Config.roundsUp 64 r then min 32767 (r + 1) else r

/-- A level; where the ratio has none, a free value (log 124). -/
def Device.levelOr (d : Device) (a b : Nat) : Int × Device :=
  if a = 0 || b = 0 then let (v, d) := d.draw; (signedOf 16 (v % 65536), d) else (ratioDb a b, d)

/-- |Σ Y_(i+τ) V_i*|² (R244). -/
def crossPower (y v : List Cx) (tau : Int) : Nat :=
  cxNorm (innerSum (y.drop tau.toNat) (v.drop (-tau).toNat))

/-- The peak of the cross-correlation over ±8 samples, the first of equals, and its parabolic refinement in 1/256 sample (R244);
beyond the edge there is nothing to refine with: a free value within half a sample of it (log 124). -/
def Device.residual (d : Device) (y v : List Cx) : Int × Bool × Device :=
  let c := (List.range 17).map fun (j : Nat) => (isqrt (crossPower y v ((j : Int) - 8)) : Nat)
  let at' := fun (j : Nat) => ((c.getD j 0 : Nat) : Int)
  let peak := (List.range 17).foldl (fun b j => if at' b < at' j then j else b) 0
  let whole : Int := 256 * ((peak : Int) - 8)
  if peak = 0 || peak = 16 then let (x, d) := d.draw; (whole + (x % 257 : Nat) - 128, true, d)
  else
    let num := 128 * (at' (peak + 1) - at' (peak - 1))
    let den := 2 * at' peak - at' (peak - 1) - at' (peak + 1)
    (whole + (if den ≤ 0 then 0 else roundOpen den.toNat num), false, d)

/-- The bins from `lo` to `hi`, of the sum over 16 Hann-windowed blocks of 1,024 samples (R249; log 123). -/
def bandPower (y : List Cx) (lo hi : Int) : Nat :=
  if (quiet y).isEmpty then 0 else
  let turns := ((List.range 1024).map fun (k : Nat) => turnExact ((k : Int) * 2 ^ 38)).toArray
  let at' := fun (k : Int) => turns.getD (k % 1024).toNat cx0
  let xs := y.toArray
  let win := ((List.range 16384).map fun (i : Nat) => cxScale (2 ^ 40 - (at' i).1) (xs.getD i cx0)).toArray
  let bin := fun (s : Nat) (b : Int) => (List.range 1024).foldl (fun t (j : Nat) => cxAdd t (cxMul (win.getD (1024 * s + j) cx0) (at' (-(b * j))))) cx0
  ((List.range (hi + 1 - lo).toNat).map fun (b : Nat) => ((List.range 16).map fun s => cxNorm (bin s (lo + b))).foldl (· + ·) 0).foldl (· + ·) 0

/-- The metric of path `p` (R249). -/
def Device.metricOf (d : Device) (p : Nat) (y : List Cx) : Int × Device :=
  let lo := d.getS (L.DPD_MASK_LO p)
  let hi := d.getS (L.DPD_MASK_HI p)
  let gap : Int := d.get (L.DPD_MASK_GAP p)
  let wid : Int := max 1 (d.get (L.DPD_MASK_WID p))
  d.levelOr (max (bandPower y (lo - gap - wid) (lo - gap - 1)) (bandPower y (hi + gap + 1) (hi + gap + wid))) (bandPower y lo hi)

/-- The results of a capture (R244, R246, R249). -/
def Device.capCompute (d : Device) (x : CapDone) (y : List Cx) : CapRes × Device :=
  let p := x.req.path
  let v := x.take.v
  let full := v.length * 32767 ^ 2
  let power := fun (l : List Cx) => (l.map cxNorm).foldl (· + ·) 0
  let num := innerSum y v
  let (gainDb, d) := d.levelOr (cxNorm num) (power v ^ 2)
  let (ph, d) := if num == cx0 then d.draw else (angle16 num, d)
  let (res, edge, d) := d.residual y v
  let (metric, d) := d.metricOf p y
  let (pv, d) := d.levelOr (power v) full
  let (py, d) := d.levelOr (power y) full
  (⟨gainDb, ph % 65536, res, metric, pv, py, !dbAtLeast (power v) full (d.getS (L.DPD_PCFG_MIN_PWR p)), edge⟩, d)

/-- The status of a capture (R245): the first that applies. -/
def CapDone.final (x : CapDone) (r : CapRes) : Nat :=
  if x.status = 6 then 6
  else if x.status = 1 || x.take.bad then 1
  else if x.status = 3 then 3
  else if x.status = 2 || x.take.forced then 2
  else if r.quiet then 4
  else if r.edge then 5 else 0

/-- Every sample of Y is there, or the capture ended early. -/
def Device.capComplete (d : Device) (k : Nat) (x : CapDone) : Bool :=
  !x.feeds || x.req.kind.len + d.loopDelay k x.req.path / 256 + 9 ≤ x.take.y.length

/-! ## Stored captures (R246, R247) -/

/-- Where slot `j` lies. -/
def slotBase (j : Nat) : Nat := 0x16000000 + j * 0x80000

/-- Words stored from an address. -/
def storeWords (a : Nat) : List Nat → Device → Device
  | [], d => d
  | w :: ws, d => storeWords (a + 4) ws (d.storeWord a w)

/-- A sample as a word (R246). -/
def sampleWord (x : Cx) : Nat := encodeSigned 16 x.1 + encodeSigned 16 x.2 * 2 ^ 16

/-- A capture takes a slot (R246, R247): its header and the samples taken are written, FULL sets and a record is written.  A
disabled neighbour's stream is zero throughout; words of samples not taken stay as they were (log 124). -/
def capStore (k : Nat) (x : CapDone) (status : Nat) (c : CapRes) (y : List Cx) (d : Device) : Device :=
  match d.freeSlot k with
  | none => d
  | some s =>
    let j := 2 * k + s
    let b := slotBase j
    let p := x.req.path
    let t := x.take
    let seq := (d.get (L.DPD_CAPSTAT_SEQ k) + 1) % 65536
    let id := seq * 65536 + status * 4096 + x.bank * 1024 + x.req.input * 512 + bit (x.req.kind == .requested) * 256 + p
    let e16 := encodeSigned 16
    let d := storeWords b [t.time, t.time / 2 ^ 32, id, x.map, e16 c.res * 65536 + e16 c.metric,
      e16 c.gainDb * 65536 + c.gainPh, e16 c.pv * 65536 + e16 c.py, min 65535 t.clips * 65536 + t.block] d
    let streams := [t.u, t.v, y] ++ (List.range 4).map fun j =>
      if slotOn x.map j then t.n.getD j [] else List.replicate 16384 cx0
    let d := ((List.range 7).zip streams).foldl (fun d q => storeWords (b + 0x10000 * (q.1 + 1)) (q.2.map sampleWord) d) d
    let d := (d.set (if s = 0 then L.DPD_CAPSTAT_FULL0 k else L.DPD_CAPSTAT_FULL1 k) 1).set (L.DPD_CAPSTAT_SEQ k) seq
    d.log isleLANE 0 19 j 32 []

/-- A refusal takes a slot once one is free beside those of captures before it (R241, R247): no samples; the header alone reports
STATUS = WCH, its measures free values (log 19). -/
def capRefusals (k : Nat) (d : Device) : Device :=
  let c := d.capc k
  match c.done.find? fun x => x.status == 6 with
  | some x =>
    if d.refusalRoom k then
      let free := fun (n : Nat) => signedOf 16 (Config.freeValue (d.drawn + n)).toNat
      let r : CapRes := ⟨free 0, (Config.freeValue (d.drawn + 1)).toNat % 65536, free 2, free 3, free 4, free 5, true, true⟩
      capStore k x 6 r [] { d.setCap k { c with done := c.done.erase x } with drawn := d.drawn + 6 }
    else d
  | none => d

/-- A capture is refused for its WCH settings (R241). -/
def capRefused (k : Nat) (r : CapReq) (d : Device) : Device :=
  let c := d.capc k
  let x : CapDone := ⟨r, 6, d.capBank r.path, d.dpdMap r.path (d.xfActive (.dpd r.path)),
    { CapTake.idle with time := d.tai, block := d.block }⟩
  capRefusals k (d.setCap k { c with done := c.done ++ [x] })

/-- GO in DPD_CAPREQ (R248). -/
def capRequest (k input m : Nat) (d : Device) : Device :=
  let r : CapReq := ⟨8 * k + m, input, .requested⟩
  if d.wchCaptures k then capAsk r d else capRefused k r d

/-- A path is in the routine rota (R248). -/
def Device.inRota (d : Device) (p : Nat) : Bool :=
  bitsOf (d.get (L.DPD_OCFG_MASK (p / 8))) (p % 8) 1 == 1 && d.on (L.DPD_PCFG_EN p) && d.on (L.DPD_PCFG_RT_EN p) &&
    (tabGet? d.trial p).isNone

/-- The routine scheduler is due (R247, R248): the next path of the rota is requested, or skipped while both slots are full. -/
def routineTick (k : Nat) (d : Device) : Device :=
  let c := d.capc k
  if d.get (L.DPD_OCFG_INTERVAL k) = 0 then d
  else match (List.range 8).find? fun n => d.inRota (8 * k + (c.rota + 1 + n) % 8) with
    | none => d
    | some n =>
      let m := (c.rota + 1 + n) % 8
      let d := d.setCap k { c with rota := m }
      if d.slotFull k 0 && d.slotFull k 1 then d.inc (L.DPD_CAPSTAT_SKIP k)
      else if d.wchCaptures k then capAsk ⟨8 * k + m, 0, .routine⟩ d
      else capRefused k ⟨8 * k + m, 0, .routine⟩ d

/-! ## Trials (R250–R253) -/

/-- TSTATE of a path. -/
def Device.trialState (d : Device) (p : Nat) : Nat := d.get (L.DPD_TRIAL_RES_TSTATE p)

/-- A trial is over with a result. -/
def trialOver (p result cause : Nat) (d : Device) : Device :=
  let d := capLapse p .judge { d with trial := tabDel d.trial p }
  ((d.set (L.DPD_TRIAL_RES_RESULT p) result).set (L.DPD_TRIAL_RES_CAUSE p) cause).set (L.DPD_TRIAL_RES_TSTATE p) 0

/-- CAUSE, M_BASE and M_CAND, as the records of R253 carry them. -/
def Device.trialItems (d : Device) (p : Nat) : List (Nat × Nat) :=
  [(d.get (L.DPD_TRIAL_RES_CAUSE p), 4), (d.get (L.DPD_TRIAL_MET_M_BASE p), 16), (d.get (L.DPD_TRIAL_MET_M_CAND p), 16)]

/-- A rollback starts (R251, R252): the bank the trial began with is requested. -/
def trialRollback (p cause : Nat) (d : Device) : Device :=
  match tabGet? d.trial p with
  | none => d
  | some t =>
    let d := capLapse p .judge { d with trial := tabPut d.trial p { t with cause := cause } }
    let d := (d.set (L.DPD_TRIAL_RES_TSTATE p) 5).set (L.DPD_TRIAL_RES_CAUSE p) cause
    xfRequest (.dpd p) t.orig (d.get (L.DPD_TRIAL_RB_FADE p)) 0 0 d

/-- A cause that acts at once (R252, R253): BASE is abandoned, FADE, HOLD and JUDGE roll back. -/
def trialBreak (p cause : Nat) (d : Device) : Device :=
  let st := d.trialState p
  if st = 1 then
    if cause = 4 then d
    else (trialOver p 3 cause d).dpdEvent L.DPD_PEVENT_ABANDON p 2 []
  else if st = 2 || st = 3 || st = 4 then trialRollback p cause d
  else d

/-- A phase of judgement captures starts. -/
def trialPhase (p st : Nat) (d : Device) : Device :=
  match tabGet? d.trial p with
  | none => d
  | some t =>
    let d := { d with trial := tabPut d.trial p { t with metrics := [], gains := [] } }
    capAsk ⟨p, 0, .judge⟩ ((d.set (L.DPD_TRIAL_RES_TSTATE p) st).set (L.DPD_TRIAL_RES_NOK p) 0)

/-- GO in DPD_TRIAL (R250): the first failing check refuses it; else BASE begins. -/
def trialGo (p : Nat) (d : Device) : Device :=
  let lo := d.getS (L.DPD_MASK_LO p)
  let hi := d.getS (L.DPD_MASK_HI p)
  let gap : Int := d.get (L.DPD_MASK_GAP p)
  let out : Int := gap + max 1 (d.get (L.DPD_MASK_WID p))
  let c := d.xfc (.dpd p)
  let cand := d.get (L.DPD_PSTAT_CAND p)
  let e :=
    if d.get (L.DPD_TRIAL_J p) = 0 || 8 < d.get (L.DPD_TRIAL_FADE p) || 8 < d.get (L.DPD_TRIAL_RB_FADE p) then 1
    else if !d.dpdBankOk p cand then 2
    else if (tabGet? d.trial p).isSome || c.armed.isSome || c.fade.isSome || c.pend.isSome then 3
    else if min (lo - out) (hi + gap + 1) < -409 || 409 < max (hi + out) (lo - gap - 1) then 4
    else if !d.on (L.DPD_PCFG_EN p) || d.txState p != 3 then 5
    else if !d.wchCaptures (p / 8) then 6
    else 0
  if e ≠ 0 then
    ((d.set (L.DPD_PSTAT_ERRC p) e).set (L.DPD_TRIAL_RES_RESULT p) 4).dpdEvent L.DPD_PEVENT_ERR p 1 []
  else
    let t : TrialCtl := ⟨d.get (L.DPD_PSTAT_ACT p), cand, [], [], 0, 0, 0, 0⟩
    let d := { d with trial := tabPut d.trial p t }
    trialPhase p 1 ((d.set (L.DPD_TRIAL_RES_RESULT p) 0).set (L.DPD_TRIAL_RES_CAUSE p) 0)

/-- The mean of a list, in whole units.  The spec does not say how an inexact mean is rounded: the lower or the upper of its
neighbours, by a free value (log 20). -/
def Device.meanOf (d : Device) (xs : List Int) : Int × Device :=
  let n : Int := xs.length
  let sum := xs.foldl (· + ·) 0
  if n = 0 || sum % n = 0 then (sum / (max n 1), d)
  else
    let (v, d) := d.draw
    (sum / n + (v % 2 : Nat), d)

/-- A judgement capture has its results (R251, R252): one whose status is not OK is repeated.  A path that the Damper forces to
zero as FADE begins rolls back at once. -/
def trialResult (p status : Nat) (metric gain : Int) (d : Device) : Device :=
  match tabGet? d.trial p with
  | none => d
  | some t =>
    let st := d.trialState p
    if st ≠ 1 && st ≠ 4 then d
    else if status ≠ 0 then capAsk ⟨p, 0, .judge⟩ d
    else
      let t := { t with metrics := t.metrics ++ [metric], gains := t.gains ++ [gain] }
      let d := ({ d with trial := tabPut d.trial p t }).set (L.DPD_TRIAL_RES_NOK p) t.metrics.length
      let base := d.getS (L.DPD_TRIAL_MET_M_BASE p)
      let spike := st = 4 && base + d.get (L.DPD_TRIAL_LIM_SPIKE p) < metric
      if t.metrics.length < d.get (L.DPD_TRIAL_J p) then
        if spike then trialRollback p 2 d else capAsk ⟨p, 0, .judge⟩ d
      else
        let (mean, d) := d.meanOf t.metrics
        let gains : Int := t.gains.foldl (· + ·) 0
        if st = 1 then
          let d := d.set (L.DPD_TRIAL_MET_M_BASE p) (encodeSigned 16 mean)
          let d := { d with trial := tabPut d.trial p { t with baseGain := gains, baseN := t.gains.length } }
          let d := xfRequest (.dpd p) t.cand (d.get (L.DPD_TRIAL_FADE p)) 0 0 (d.set (L.DPD_TRIAL_RES_TSTATE p) 2)
          d.when (d.on (L.DMP_PSTAT_FORCED p)) (trialRollback p 4)
        else
          let d := d.set (L.DPD_TRIAL_MET_M_CAND p) (encodeSigned 16 mean)
          let n := t.gains.length
          let tol := d.get (L.DPD_TRIAL_LIM_GAIN_TOL p) * n * t.baseN
          if base + d.get (L.DPD_TRIAL_LIM_TOL p) < mean then trialRollback p 1 d
          else if spike then trialRollback p 2 d
          else if tol < (gains * (t.baseN : Int) - t.baseGain * (n : Int)).natAbs then trialRollback p 3 d
          else
            let d := (trialOver p 1 0 d).inc (L.DPD_PCNT_ADOPT p)
            d.dpdEvent L.DPD_PEVENT_ADOPT p 0 (d.trialItems p)

/-- A change of the path's bank has completed (R251). -/
def trialFaded (p : Nat) (d : Device) : Device :=
  match tabGet? d.trial p with
  | none => d
  | some t =>
    let st := d.trialState p
    let act := d.xfActive (.dpd p)
    if st = 2 && act = t.cand then
      ({ d with trial := tabPut d.trial p { t with hold := d.get (L.DPD_TRIAL_HOLDOFF p) } }).set (L.DPD_TRIAL_RES_TSTATE p) 3
    else if st = 5 && act = t.orig then
      let d := (trialOver p 2 t.cause d).inc (L.DPD_PCNT_ROLLBACK p)
      d.dpdEvent L.DPD_PEVENT_ROLLBACK p 2 (d.trialItems p)
    else d

/-- HOLDOFF blocks have passed (R251): JUDGE. -/
def trialHoldEnd (p : Nat) (d : Device) : Device :=
  match tabGet? d.trial p with
  | some t => if d.trialState p = 3 && t.hold = 0 then trialPhase p 4 d else d
  | none => d

/-- J captures have not been collected within TIMEOUT (R252, R253). -/
def trialTimeout (p : Nat) (d : Device) : Device :=
  if d.trialState p = 1 || d.trialState p = 4 then trialBreak p 5 d else d

/-- A write of DPD_TRIAL: GO first, then ABORT. -/
def trialWrite (p go abort : Nat) (d : Device) : Device :=
  let d := d.when (go == 1) (trialGo p)
  d.when (abort == 1) (trialBreak p 8)

/-- A write of DPD_XF_REQ (R239, R250): refused with BUSY while a trial runs. -/
def dpdXfWrite (p target fade atMode at' : Nat) (d : Device) : Device :=
  if (tabGet? d.trial p).isSome then
    let d := xfRefuse (.dpd p) target fade (if atMode = 1 then at' else 0) d
    (d.set (L.DPD_PSTAT_ERRC p) 3).dpdEvent L.DPD_PEVENT_ERR p 1 []
  else xfRequest (.dpd p) target fade atMode at' d

/-- An XF_REQ write with GO (R52, R55, R58). -/
def xfWrite (o : XfObj) (target fade atMode at' : Nat) (d : Device) : Device :=
  match o with
  | .dpd p => dpdXfWrite p target fade atMode at' d
  | _ => xfRequest o target fade atMode at' d

/-- The predistorters at a LANE block boundary (R236, R240, R251). -/
def dpdBlock (b : Nat) (d : Device) : Device :=
  d.each 64 fun p d =>
    let d := { d with dpdOn := tabPut d.dpdOn p (d.on (L.DPD_PCFG_EN p)) }
    let d := match tabGet? d.trial p with
      | some t => { d with trial := tabPut d.trial p { t with hold := t.hold - 1 } }
      | none => d
    let (d, done) := xfBoundary (.dpd p) b d
    let c := d.capc (p / 8)
    let d := match c.running with
      | some r => if r.path = p && (d.xfc (.dpd p)).fade.isSome then d.setCap (p / 8) { c with bank := 3 } else d
      | none => d
    if done.isSome then trialFaded p d else d

/-! ## Results taken -/

/-- A mismatch capture has its results (R279): CPF, then CPR; one that is not OK is taken again in the next burst, which may
have come already as the results do. -/
def mismatchCapture (x : CapDone) (status : Nat) (y : List Cx) (d : Device) : Device :=
  let r := x.req
  let c := d.pathc r.path
  let sum := innerSum y x.take.v
  if status ≠ 0 then
    if x.take.n0.getD x.take.asked < c.endedAt then capAsk r d else d.setPath r.path { c with again := some r.input }
  else if r.input = 0 then capAsk { r with input := 1 } (d.setPath r.path { c with cpf := some sum })
  else d.setPath r.path { c with cpr := some sum }

/-- The results of the capture that ended first, once its last samples are there (R244–R247): RES, then stored or judged.  A
refusal that waits for a slot holds nothing up. -/
def capResults (k : Nat) (d : Device) : Device :=
  let cc := d.capc k
  match cc.done.find? fun x => x.status != 6 with
  | none => capRefusals k d
  | some x =>
    let rest := cc.done.erase x
    if !d.capComplete k x then d
    else
      let p := x.req.path
      let y := d.alignedY k p (x.take.n0.getD 0) x.take.y x.take.v.length
      let (r, d) := (d.setCap k { cc with done := rest }).capCompute x y
      let status := x.final r
      let d := d.set (L.DPD_ALIGN_RES p) (encodeSigned 16 r.res)
      let d := match x.req.kind with
        | .routine => capStore k x status r y d
        | .requested => capStore k x status r y d
        | .judge => trialResult p status r.metric r.gainDb d
        | .mismatch => mismatchCapture x status y d
        | _ => d
      capRefusals k d

/-! ## Solver (R254, R255) -/

/-- POS of every queued job. -/
def solverPos (d : Device) : Device :=
  ((List.range d.solver.length).zip d.solver).foldl (fun d (n, j) => d.set (L.DPD_SSTAT_POS j.master) n) d

/-- A master's status. -/
def solverStatus (m st errc : Nat) (d : Device) : Device :=
  (d.set (L.DPD_SSTAT_STATE m) st).set (L.DPD_SSTAT_ERRC m) errc

/-- GO in DPD_SJOB (R255). -/
def solverGo (m desc : Nat) (d : Device) : Device :=
  if m < 1 || 11 < m then d.log isleLANE 1 19 m (common 18) [(0, 4), (0, 4), (A.DPD_SJOB, 24)]
  else if d.solver.any fun j => j.master == m then solverStatus m 4 2 d
  else solverPos (solverStatus m 1 0 { d with solver := d.solver ++ [⟨m, desc⟩] })

/-- The job at the head leaves the solver; slot releases that waited take effect. -/
def solverLeave (d : Device) : Device :=
  let d := d.slotHeld.foldl (fun d j =>
    capRefusals (j / 2) (d.set (if j % 2 = 0 then L.DPD_CAPSTAT_FULL0 (j / 2) else L.DPD_CAPSTAT_FULL1 (j / 2)) 0)) d
  solverPos { d with solver := d.solver.drop 1, solving := false, slotHeld := [] }

/-- A word of shared SRAM at a byte offset from 0x1000_0000. -/
def Device.sram (d : Device) (m : List Host.Cell) (off : Nat) : Nat :=
  (memWord (memPutAll m d.memOut) (0x10000000 + off)).toNat

/-- A range of shared SRAM that the solver can access: whole words within it (R255; log 127). -/
def sramRange (off len : Nat) : Bool := off % 4 = 0 && off + len ≤ 2 ^ 25

/-- No word of a range has an uncorrectable error (R402). -/
def Device.sramClean (d : Device) (off len : Nat) : Bool :=
  d.eccBad.all fun a => a + 8 ≤ 0x10000000 + off || 0x10000000 + off + len ≤ a

/-- The solver starts the next job (R255): its descriptor is read and checked.  A refused MODE has no ERRC of its own: a free
value (log 21). -/
def solverStart (m : List Host.Cell) (d : Device) : Device :=
  match d.solver with
  | [] => d
  | j :: _ =>
    if d.solving then d
    else
      let at' := fun o => d.sram m (64 * j.desc + o)
      let slot := bitsOf (at' 0) 0 4
      let terms := (List.range 32).map fun t => d.sram m (at' 4 + 8 * t)
      let map := d.sram m (at' 4 + 0x100)
      let header := fun o => (memWord (memPutAll m d.memOut) (slotBase slot + o)).toNat
      if !d.sramClean (64 * j.desc) 64 then solverLeave (solverStatus j.master 4 6 d)
      else if bitsOf (at' 0) 8 2 = 3 then
        let (v, d) := d.draw
        solverLeave (solverStatus j.master 4 v d)
      else if !d.slotFull (slot / 2) (slot % 2) then solverLeave (solverStatus j.master 4 3 d)
      else if !sramRange (at' 4) 0x104 || !d.sramClean (at' 4) 0x104 then solverLeave (solverStatus j.master 4 6 d)
      else if !termsOk (some (bitsOf (header 8) 0 6)) terms map || map ≠ header 12 then solverLeave (solverStatus j.master 4 4 d)
      else (solverStatus j.master 2 0 { d with solving := true }).set (L.DPD_SSTAT_POS j.master) 0

/-- The slot a running job reads. -/
def Device.solverSlot (d : Device) (m : List Host.Cell) : Option Nat :=
  match d.solver with
  | j :: _ => if d.solving then some (bitsOf (d.sram m (64 * j.desc)) 0 4) else none
  | [] => none

/-- FULL written 1 (R247): the slot is free, at once or when the job that reads it ends (R255). -/
def slotRelease (j : Nat) (m : List Host.Cell) (d : Device) : Device :=
  if d.solverSlot m = some j then { d with slotHeld := if d.slotHeld.contains j then d.slotHeld else d.slotHeld ++ [j] }
  else capRefusals (j / 2) (d.set (if j % 2 = 0 then L.DPD_CAPSTAT_FULL0 (j / 2) else L.DPD_CAPSTAT_FULL1 (j / 2)) 0)

/-! ## Meanings -/

/-- ROUTINE_CAPTURE_TICK (R247, R248). -/
def execRoutineCaptureTick (k : Nat) (s : State) : Host.Outcome State Fault Refusal :=
  actDev (.routineCaptureTick k) s (routineTick k)
/-- OBS_CAPTURE_GRANT (R49, R241, R242). -/
def execObsCaptureGrant (k : Nat) (s : State) : Host.Outcome State Fault Refusal :=
  actDev (.obsCaptureGrant k) s (capGrant k)
/-- CAPTURE_END (R242, R245). -/
def execCaptureEnd (k : Nat) (s : State) : Host.Outcome State Fault Refusal :=
  actDev (.captureEnd k) s (capEnd k)
/-- CAPTURE_RESULTS_READY (R244–R247). -/
def execCaptureResultsReady (k : Nat) (s : State) : Host.Outcome State Fault Refusal :=
  actDev (.captureResultsReady k) s (capResults k)
/-- TRIAL_HOLDOFF_END (R251). -/
def execTrialHoldoffEnd (p : Nat) (s : State) : Host.Outcome State Fault Refusal :=
  actDev (.trialHoldoffEnd p) s (trialHoldEnd p)
/-- TRIAL_TIMEOUT (R252, R253). -/
def execTrialTimeout (p : Nat) (s : State) : Host.Outcome State Fault Refusal :=
  actDev (.trialTimeout p) s (trialTimeout p)
/-- SOLVER_JOB_START (R255). -/
def execSolverJobStart (s : State) : Host.Outcome State Fault Refusal :=
  act .solverJobStart s solverStart

end Sys2Proof.Machine
end

