-- ==== Sys2Proof/Machine/Path.lean ====
section
/-! DEFINITION. The path machines: service states, bursts, front-end programs, coexistence ports, tuner buses, mismatch
measurements and tuner searches (R257–R281). -/
namespace Sys2Proof.Machine

/-! ## The air pattern (R260–R262) -/

/-- FDD (R262). -/
def AirPat.fdd (a : AirPat) : Bool := bitsOf a.cfg 30 1 == 1
/-- Half-subframes in a period (R260). -/
def AirPat.halves (a : AirPat) : Nat :=
  match bitsOf a.cfg 20 4 with
  | 0 => 1 | 1 => 2 | 2 => 4 | 3 => 5 | 4 => 10 | _ => 20
/-- The reference grid (R190, R260). -/
def AirPat.grid (a : AirPat) : OfSet := ⟨bitsOf a.cfg 26 2 * 2 ^ 22, 0, 0, 0, 0⟩
/-- Symbols in a period. -/
def AirPat.nsym (a : AirPat) : Nat := a.grid.perHalf * a.halves
/-- The symbol at index `n` of the frame is marked D. -/
def AirPat.isD (a : AirPat) (n : Nat) : Bool :=
  let i := n % a.nsym
  bitsOf (a.syms.getD (i / 16) 0) (2 * (i % 16)) 2 == 1
/-- The bursts of a frame: runs of D symbols as first symbol and the symbol after the last (R261). -/
def AirPat.bursts (a : AirPat) : List (Nat × Nat) :=
  let f := fun (acc : List (Nat × Nat)) n =>
    if a.isD n then
      match acc with
      | (x, y) :: t => if y = n then (x, n + 1) :: t else (n, n + 1) :: acc
      | [] => [(n, n + 1)]
    else acc
  ((List.range a.grid.perFrame).foldl f []).reverse
/-- Start and end of burst `b` in 245.76 MHz ticks from its frame boundary, where it exists. -/
def AirPat.burst? (a : AirPat) (b : Nat) : Option (Nat × Nat) :=
  if a.fdd then (if b = 0 then some (0, 2457600) else none)
  else (a.bursts[b]?).map fun (x, y) =>
    (a.grid.frameTicks x, if y = a.grid.perFrame then 2457600 else a.grid.frameTicks y)

/-- The pattern the next frame will have: at its boundary a commit is at least 100 µs old (R260). -/
def Device.airAhead (d : Device) : AirPat :=
  match d.airNext with
  | some (a, t) => if ticksPerUs 100 ≤ d.ticks - t + (frameLen - d.inFrame) / 15625 then a else d.air
  | none => d.air

/-- The pattern of frame `fn`: a pending one holds from the next boundary it meets. -/
def Device.airOf (d : Device) (fn : Nat) : AirPat :=
  let n := d.framesTo fn
  if n ≤ 0 then d.air
  else if n = 1 then d.airAhead
  else match d.airNext with
    | some (a, _) => a
    | none => d.air

/-- The burst numbered `b` whose start comes next: its key, and its start and end from now in 1/3,840 ns. -/
def Device.burstAhead (d : Device) (b : Nat) : Option (Nat × Int × Int) :=
  let at' := fun (s : Nat × Nat) (frame : Int) =>
    (((s.1 * 15625 : Nat) : Int) + frame - d.inFrame, ((s.2 * 15625 : Nat) : Int) + frame - d.inFrame)
  let here := (d.air.burst? b).map fun s => (d.frameNo * 1024 + b, at' s 0)
  let there := (d.airAhead.burst? b).map fun s => ((d.frameNo + 1) % 1024 * 1024 + b, at' s frameLen)
  match here with
  | some (k, s, e) => if 0 ≤ s then some (k, s, e) else there
  | none => there

/-- The burst with key `k`: start and end from now. -/
def Device.burstSpan (d : Device) (k : Nat) : Option (Int × Int) :=
  ((d.airOf (k / 1024)).burst? (k % 1024)).map fun s =>
    let f := d.framesTo (k / 1024) * frameLen - d.inFrame
    (((s.1 * 15625 : Nat) : Int) + f, ((s.2 * 15625 : Nat) : Int) + f)

/-- The burst after `k`: the next of its frame, else the first of the next frame. -/
def Device.burstAfter (d : Device) (k : Nat) : Option Nat :=
  let next := (k / 1024 + 1) % 1024
  if ((d.airOf (k / 1024)).burst? (k % 1024 + 1)).isSome then some (k + 1)
  else if ((d.airOf next).burst? 0).isSome then some (next * 1024) else none

/-- FE ticks between the largest OFF and the smallest ON offset of the programs in force (R261). -/
def PathCtl.mergeGap (c : PathCtl) : Int :=
  let on := fun w => signedOf 16 (w / 65536)
  let off := fun w => signedOf 16 w
  max (off c.pa) (max (off c.tr) (off c.lna)) - min (on c.pa) (min (on c.tr) (on c.lna))

/-- The burst after `k` follows so closely that the lines stay at burst level (R261). -/
def Device.merges (d : Device) (c : PathCtl) (k : Nat) : Bool :=
  match d.burstAfter k with
  | some k' =>
    match d.burstSpan k, d.burstSpan k' with
    | some (_, e), some (s, _) => (s - e) * 768 < c.mergeGap * (1000 * 3840 : Nat)
    | _, _ => false
  | none => false

/-- AIR_CFG.GO (R260): the staged pattern is refused or waits for its frame boundary. -/
def airGo (d : Device) : Device :=
  let a : AirPat := ⟨d.rd A.AIR_CFG, (List.range 35).map fun w => d.rd (A.AIR_PAT w)⟩
  if 5 < bitsOf a.cfg 20 4 || bitsOf a.cfg 26 2 = 3 then d.event L.AIR_STAT_ERR isleLANE 10 0 2 1 []
  else { d with airNext := some (a, d.ticks) }.set L.AIR_STAT_PEND 1

/-- In FDD each frame is a burst of its own (R262): one in progress goes on under the key of the frame that begins, for the
path and for the ports that request it. -/
def fddRenew (d : Device) : Device :=
  let old := (d.frameNo + 1023) % 1024 * 1024
  let new := d.frameNo * 1024
  let next := fun (k : Option Nat) => if k == some old then some new else k
  if d.air.fdd then
    let d := d.each 64 fun p d =>
      let c := d.pathc p
      if d.pathState p = 3 && c.cur == some old then
        (d.setPath p { c with cur := some new, last := next c.last }).set (L.PATH_STAT_BURST p) 0
      else d
    d.each 4 fun k d =>
      let c := d.coexc k
      if c.reqs.contains old then d.setCoex k { c with reqs := (c.reqs.filter (· != new)).map fun r => if r = old then new else r } else d
  else d

/-- A frame boundary: a pattern committed at least 100 µs ago takes effect (R260). -/
def airFrame (d : Device) : Device :=
  match d.airNext with
  | some (a, t) =>
    if ticksPerUs 100 ≤ d.ticks - t then
      ({ d with air := a, airNext := none }.set L.AIR_STAT_PEND 0).set L.AIR_STAT_NSYM a.nsym
    else d
  | none => d

/-! ## Front-end programs (R263–R267) -/

/-- PATH_CTL.FE_GO (R265). -/
def feGo (p : Nat) (d : Device) : Device :=
  let on := fun (w : Nat) => signedOf 16 (w / 65536)
  let off := fun (w : Nat) => signedOf 16 w
  let pa := d.rd (A.PATH_FE_PA p)
  let tr := d.rd (A.PATH_FE_TR p)
  let lna := d.rd (A.PATH_FE_LNA p)
  let ramp : Int := (d.rampLen p : Nat)
  if on lna ≤ on tr && on tr ≤ on pa && off pa ≤ off tr && off tr ≤ off lna && on pa ≤ -ramp && ramp ≤ off pa
      && -(on lna) ≤ d.get L.AIR_CFG_CHK_LEAD then
    (d.setPath p { d.pathc p with next := some (pa, tr, lna) }).set (L.PATH_STAT_FE_PEND p) 1
  else d.pathEvent L.PATH_EVENT_FE_ERR p 1 []

/-- The committed program is in force from the burst now checked (R265). -/
def feTake (p : Nat) (d : Device) : Device :=
  let c := d.pathc p
  match c.next with
  | some (a, t, l) => (d.setPath p { c with pa := a, tr := t, lna := l, next := none }).set (L.PATH_STAT_FE_PEND p) 0
  | none => d

/-- A line's level: 0 FE_PA, 1 FE_TR, 2 FE_LNA. -/
def feLine (p line v : Nat) (d : Device) : Device :=
  match line with
  | 0 => d.set (L.PATH_STAT_PA p) v
  | 1 => d.set (L.PATH_STAT_TR p) v
  | _ => d.set (L.PATH_STAT_LNA p) v

/-- The measurement interval of a calibration run withdraws the mute request of path `p`: in every state but OFF and HOLD (R257,
R295). -/
def Device.calSends (d : Device) (p : Nat) : Bool :=
  d.calTxPath == some p && d.get L.CAL_RSTAT_STATE == 3 && d.pathState p != 0 && d.pathState p != 4

/-- It drives the lines of path `p` as a burst would (R295). -/
def Device.calDrives (d : Device) (p : Nat) : Bool := d.calSends p && d.pathState p != 3

/-- FE_LNA at its rest level unless a TDD burst, a measurement or a state with all lines low holds it (R257, R263, R267,
R295). -/
def lnaRefresh (p : Nat) (d : Device) : Device :=
  let st := d.pathState p
  if d.calDrives p && !d.air.fdd then d
  else if st = 1 || st = 2 || st = 4 || (st = 3 && d.air.fdd) then d.set (L.PATH_STAT_LNA p) (d.lnaRest p) else d

/-- CP_HI in REST drives FE_LNA low (R267). -/
def lnaBypass (p : Nat) (d : Device) : Device :=
  if d.on (L.PATH_CFG_LNA_PROT p) && d.pathState p = 2 then
    (lnaRefresh p (d.set (L.PATH_STAT_LNA_BYP p) 1)).eventLimited (L.PATH_EVENT_LNA_PROT p) ticksPerMs isleLANE 11 p 0 2 []
  else d

/-- LNA_HOLD µs after the last CP_HI (R267). -/
def lnaBypassEnd (p : Nat) (d : Device) : Device :=
  if d.on (L.PATH_STAT_LNA_BYP p) then lnaRefresh p (d.set (L.PATH_STAT_LNA_BYP p) 0) else d

/-! ## Admission (R268) -/

/-- The port withholds its grant (R268). -/
def Device.coexRefuses (d : Device) (k : Nat) : Bool :=
  match d.get (L.COEX_CFG_ROLE k) with
  | 1 => d.on (L.COEX_CFG_GATE k) && !d.coexIn k 1
  | 2 => d.coexIn k 1
  | _ => true

/-- The bit of the first condition of R268 that fails for path `p`. -/
def Device.burstCause (d : Device) (p : Nat) : Option Nat :=
  if d.get L.CLK_STAT_MSTATE != 4 || d.clk.outage || d.clk.txOutage || (!d.lowPower && !d.on L.CLK_STAT_DBL_LOCK) then some 0
  else if d.txState p != 3 || d.on (L.TXDAC_STAT_SETTLING p) || d.on (L.TXDAC_STAT_NCO_PEND p) then some 1
  else if (List.range 4).any fun c =>
      (chanCfg (duc p c) (d.chn (duc p c)).cfg).en &&
        (d.get (L.CH_STAT_STATE (duc p c)) != 1 || d.on (L.CH_STAT_SETTLING (duc p c))) then some 2
  else if (List.range 4).any fun k => d.gated k p && d.coexRefuses k then some 3
  else if d.on L.DMP_STAT_INHIBIT then some 4
  else none

/-! ## Withholding (R269) -/

/-- A downlink symbol is withheld whole: its sections are discarded and counted (R269, R352). -/
def symWithhold (i fn n : Nat) (d : Device) : Device :=
  let c := d.symc i fn n
  let d := (d.setSym i fn n { c with withheld := true, secs := [], used := 0 }).addSat (L.GST_CNT_COUNT 7) (c.held + c.used)
  let g := d.grd i
  d.setGrd i { g with waves := g.waves.map fun w => if w.fn = fn && w.n = n then { w with rows := [] } else w }

/-- Path `p` withholds burst `k` from now on: symbols of the carriers all of whose paths withhold it are discarded. -/
def withhold (p k : Nat) (d : Device) : Device :=
  let d := d.setPath p { d.pathc p with wh := some k }
  match d.burstSpan k with
  | none => d
  | some (s, e) =>
    d.each 4 fun i d =>
      let g := d.grd i
      if g.of.live && g.of.has p && g.of.paths.all fun q => (d.pathc q).wh == some k then
        ((d.nearSyms i).filter fun x => max s 0 ≤ d.airIn i x.1 x.2 && d.airIn i x.1 x.2 < e).foldl
          (fun d x => symWithhold i x.1 x.2 d) d
      else d

/-- The start of burst `key` has not passed. -/
def Device.burstToCome (d : Device) (key : Nat) : Bool :=
  match d.burstSpan key with
  | some (s, _) => 0 ≤ s
  | none => false

/-- REQ falls for the bursts nothing of the gated set sends or will send (R274). -/
def coexReqSettle (k : Nat) (d : Device) : Device := coexKeep d.burstToCome k d

/-- The ports after a change of what the paths send. -/
def coexSettle (d : Device) : Device := d.each 4 coexReqSettle

/-- NO_GRANT: a check failed on this port (R274), once for a burst. -/
def coexNoGrant (p key : Nat) (d : Device) : Device :=
  d.each 4 fun k d =>
    let c := d.coexc k
    if d.gated k p && d.get (L.COEX_CFG_ROLE k) = 1 && d.coexRefuses k && c.noGrant != some key then
      ((d.setCoex k { c with noGrant := some key }).inc (L.COEX_CNT_NO_GRANT k)).event (L.COEX_EVENT_NO_GRANT k) isleLANE 10 k 0 1 []
    else d

/-- Burst `key` of path `p` is refused, or cut once its mute request has been withdrawn (R268–R270). -/
def burstReport (p key cause : Nat) (cut : Bool) (d : Device) : Device :=
  let d := d.set (L.PATH_WHY_CAUSE p) (2 ^ cause)
  let d := d.inc (if cut then L.PATH_WHY_CUT p else L.PATH_WHY_WITHHELD p)
  let d := d.pathEvent (if cut then L.PATH_EVENT_TX_CUT else L.PATH_EVENT_TX_NOT_READY) p 1
    [(p, 6), (key % 1024, 16), (2 ^ cause, 5)]
  withhold p key (d.when (!cut && cause == 3) (coexNoGrant p key))

/-- The burst admitted has started: what ends it now is a cut, no refusal (R268, R270). -/
def Device.burstBegun (d : Device) (p : Nat) : Bool :=
  match (d.pathc p).cur with
  | some k =>
    match d.burstSpan k with
    | some (s, _) => s ≤ 0
    | none => (d.pathc p).sending
  | none => false

/-- The admitted bursts of a path end with a cause (R258, R268): where a burst is cut FE_PA is low at once and the other lines
follow the OFF program; where one is refused after an ON edge, all three follow it. -/
def burstStop (p cause : Nat) (d : Device) : Device :=
  let c := d.pathc p
  if c.cur.isNone && c.nxt.isNone then d
  else
    let begun := d.burstBegun p
    let d := d.setPath p { c with cur := none, nxt := none, sending := false, sendNxt := false }
    let d := match c.cur with | some k => burstReport p k cause begun d | none => d
    let d := match c.nxt with | some k => burstReport p k cause false d | none => d
    let d := setPathMute p true d
    let d := d.when (d.pathState p == 3 && c.offRun == 0) fun d =>
      if begun then feOff p 6 (d.set (L.PATH_STAT_PA p) 0) else feOff p 7 d
    coexSettle d

/-- The conditions of R268 are held against the admitted bursts of a path. -/
def burstRecheck (p : Nat) (d : Device) : Device :=
  let c := d.pathc p
  if c.cur.isNone && c.nxt.isNone then d
  else match d.burstCause p with
    | some b => burstStop p b d
    | none => d

/-- The step in progress is broken off: its lines return to rest, the Pilot stops, and the run waits for the next window (R289,
R294). -/
def calWaitAgain (d : Device) : Device :=
  let d := (pilotOff (calObsFree (calUnmute (calTxOff d)))).set L.CAL_RSTAT_STATE 2
  { d with cal := { d.cal with second := false } }

/-- A condition of R268 fails during a TX segment of a calibration run (R294): the segment waits for the next window. -/
def calRecheck (d : Device) : Device :=
  match d.calTxPath with
  | some p => if d.get L.CAL_RSTAT_STATE = 3 && (d.burstCause p).isSome then calWaitAgain d else d
  | none => d

/-- OBS_MATCH takes its nodes in turn (R290): after each segment the switch moves to the next, at the LANE block boundary that
follows; a segment begins after the settling. -/
def calNodes (d : Device) : Device :=
  match d.cal.running with
  | some r =>
    let k := r.path / 8
    let node := min 15 ((d.laneNow - d.cal.segFrom) / 4480)
    if r.kind = 4 && d.get L.CAL_RSTAT_STATE = 3 && d.get (L.RXADC_OBS_SEL_ACTIVE k) < node then obsMove k node d else d
  | none => d

/-- The conditions held against every admitted burst and the TX segment in progress. -/
def burstRecheckAll (d : Device) : Device := calRecheck (d.each 64 burstRecheck)

/-! ## Bursts -/

/-- The path takes bursts (R258, R272). -/
def Device.takesBursts (d : Device) (p : Nat) : Bool :=
  let st := d.pathState p
  d.on (L.PATH_STAT_TXS p) && !(d.pathc p).offWait &&
    (st == 2 || (st == 1 && d.get (L.PATH_STAT_STEP p) == 4) || (st == 3 && !d.air.fdd))

/-- The check instant of burst `b` (R268). -/
def burstCheck (p b : Nat) (d : Device) : Device :=
  match d.burstAhead b with
  | none => d
  | some (k, _, _) =>
    let d := feTake p d
    if d.takesBursts p then
      let c := d.pathc p
      let d := d.setPath p { c with last := some k }
      match d.burstCause p with
      | none => d.setPath p (if c.cur.isNone then { d.pathc p with cur := some k } else { d.pathc p with nxt := some k })
      | some cause =>
        let d := burstReport p k cause false d
        coexSettle (d.when (d.pathState p == 3 && c.cur.isNone && c.offRun == 0) (feOff p 7))
    else d

/-- PATH_STAT.BURST shows the burst in progress (R261). -/
def burstShow (p : Nat) (d : Device) : Device :=
  match (d.pathc p).cur with
  | some k => d.set (L.PATH_STAT_BURST p) (k % 1024)
  | none => d

/-- 2^RAMP samples before burst start, or before a measurement interval, the mute request is withdrawn (R266, R295). -/
def burstWithdraw (p : Nat) (d : Device) : Device :=
  let c := d.pathc p
  let d := d.when (d.calSends p) (setPathMute p false)
  let d := if d.pathState p = 3 && d.on (L.PATH_STAT_TXS p) && c.cur.isSome then setPathMute p false d else d
  if d.pathState p = 3 && c.cur.isSome then
    (burstShow p d).setPath p (if c.sending then { d.pathc p with sendNxt := c.nxt.isSome } else { d.pathc p with sending := true })
  else d

/-- RETURN completes when both ramps read IN (R272): RETURNED, and REST unless a burst is in progress. -/
def returnedCheck (p : Nat) (d : Device) : Device :=
  let c := d.pathc p
  let st := d.pathState p
  if d.rampsBoth p 1 && ((st = 1 && d.get (L.PATH_STAT_STEP p) = 4) || (st = 3 && c.fromReturn)) then
    let d := d.setPath p { c with returning := false, fromReturn := false, outageReturn := false }
    let d := d.set (L.PATH_STAT_STEP p) 0
    (d.when (st == 1) fun d => d.set (L.PATH_STAT_STATE p) 2).pathEvent L.PATH_EVENT_RETURNED p 0 []
  else d

/-- A ramp has moved: OUT_GO that waited, and RETURN at step RAMP. -/
def rampsMoved (p : Nat) (d : Device) : Device :=
  if (d.pathc p).outWait && d.rampsBoth p 0 then coexSettle (pathEnterOut p d) else returnedCheck p d

/-- Every path after ramps have moved. -/
def rampsMovedAll (d : Device) : Device := d.each 64 rampsMoved

/-- The path is OFF (R258): flags clear, lines low. -/
def pathEnterOff (p : Nat) (d : Device) : Device :=
  let d := (pathEnterOut p d).set (L.PATH_STAT_STATE p) 0
  coexSettle (d.setPath p { d.pathc p with offWait := false })

/-- EN written 1 in OFF (R258): OUT, the element's ramps out in both directions. -/
def pathOn (p : Nat) (d : Device) : Device := pathEnterOut p (rampStart 1 p 0 0 (rampStart 0 p 0 0 d))

/-- The last OFF instant has passed (R258).  EN written 1 while the OFF program ran acts as the path is OFF (log 128). -/
def feOffDone (p : Nat) (d : Device) : Device :=
  let c := { d.pathc p with offs := (d.pathc p).offs + bit (!(d.pathc p).offWait && (d.pathState p == 3 || d.pathState p == 4)) }
  let d := d.setPath p c
  if c.offWait then (pathEnterOff p d).when (d.on (L.PATH_CFG_EN p)) (pathOn p)
  else if d.pathState p = 3 then
    let d := d.set (L.PATH_STAT_STATE p) (if c.fromReturn then 1 else 2)
    coexSettle (lnaRefresh p (d.setPath p { c with fromReturn := false }))
  else coexSettle d

/-- An ON or OFF instant of a line (R264), about a burst or a measurement interval (R295).  A line whose burst level is its rest level makes no edge. -/
def feEdge (p line : Nat) (on : Bool) (d : Device) : Device :=
  let c := d.pathc p
  let st := d.pathState p
  if on then
    match c.cur with
    | none =>
      if d.calDrives p && c.offRun = 0 then
        coexOutAll (feLine p line (if line < 2 then 1 else if d.air.fdd then d.lnaRest p else 0) d)
      else d
    | some k =>
      if c.offRun = 0 && (st = 1 || st = 2 || st = 3) then
        let d := d.when (st != 3) fun d =>
          ((d.set (L.PATH_STAT_STATE p) 3).setPath p { c with fromReturn := st == 1 }).set (L.PATH_STAT_BURST p) (k % 1024)
        let level := if line = 0 then d.get (L.PATH_STAT_TXS p)
          else if line = 1 then 1 else if d.air.fdd then d.lnaRest p else 0
        coexOutAll (feLine p line level (burstShow p d))
      else d
  else if bitsOf c.offRun line 1 = 1 then
    let left := c.offRun - 2 ^ line
    let rest := if line = 2 && st != 0 && st != 5 then d.lnaRest p else 0
    let d := coexOutAll (feLine p line rest (d.setPath p { c with offRun := left }))
    d.when (left == 0) (feOffDone p)
  else d

/-! ## Tuner buses (R277, R278) -/

/-- LEVEL follows the FIFO. -/
def tunSet (k : Nat) (q : List TunEntry) (d : Device) : Device :=
  { d with tuners := tabPut d.tuners k q }.set (L.TUN_STAT_LEVEL k) q.length

/-- The next burst whose start is to come. -/
def Device.burstNext (d : Device) : Option Nat :=
  let here := d.frameNo * 1024
  let ahead := (List.range 560).find? fun b => match d.burstSpan (here + b) with | some (s, _) => 0 ≤ s | none => false
  match ahead with
  | some b => some (here + b)
  | none => if (d.airAhead.burst? 0).isSome then some ((d.frameNo + 1) % 1024 * 1024) else none

/-- Bits of a word on bus `k`, and FE ticks in a CLK period (R277). -/
def Device.tunLen (d : Device) (k : Nat) : Nat := max 8 (min 32 (d.get (L.TUN_CFG_LEN k)))
/-- FE ticks in a CLK period. -/
def Device.tunDiv (d : Device) (k : Nat) : Nat := max 31 (d.get (L.TUN_CFG_DIV k))

/-- What an entry waits for (R278): with WHEN = 1 the next burst of its path, which has none without TXS (R259); with WHEN = 2
the end of the next burst, not of one in progress (log 128). -/
def Device.tunDue (d : Device) (k whenV m : Nat) : Option Nat :=
  let p := 8 * k + m
  match whenV with
  | 1 => if d.on (L.PATH_STAT_TXS p) then d.burstNext else none
  | 2 => some ((d.pathc p).offs + if d.pathState p = 3 then 2 else 1)
  | _ => none

/-- A push (R278): WHEN 3 is refused, a full FIFO refuses with OVF. -/
def tunPush (k word' whenV m : Nat) (d : Device) : Device :=
  let q := tabGet d.tuners [] k
  if whenV = 3 then d
  else if q.length < 16 then tunSet k (q ++ [⟨word', whenV, m, d.tunDue k whenV m⟩]) d
  else d.event (L.TUN_STAT_OVF k) isleLANE 10 (4 + k) 1 1 []

/-- Time until an entry must start so that STB falls LEAD µs before the first ON edge of burst `key`, in 1/3,840 ns (R277,
R278). -/
def Device.tunLeft (d : Device) (k m key : Nat) : Option Int :=
  let c := d.pathc (8 * k + m)
  let on := fun w => signedOf 16 (w / 65536)
  let first := min (on c.pa) (min (on c.tr) (on c.lna))
  let word' : Int := ((d.tunLen k + 1) * d.tunDiv k : Nat)
  (d.burstSpan key).map fun x => x.1 + (first - word') * 5000 - ((d.get (L.TUN_CFG_LEAD k) * 3840000 : Nat) : Int)

/-- The first of the bursts from `key` on whose instant has not passed by more than a tick, within 1,024 of them. -/
def Device.tunBurst (d : Device) (k m : Nat) : Nat → Nat → Nat
  | 0, key => key
  | fuel + 1, key =>
    match d.tunLeft k m key with
    | some t => if t < -15625 then (match d.burstAfter key with | some next => d.tunBurst k m fuel next | none => key) else key
    | none => key

/-- The word of an entry starts shifting (R277): its low LEN bits, most significant first. -/
def tunShift (k : Nat) (e : TunEntry) (q : List TunEntry) (d : Device) : Device :=
  let n := d.tunLen k
  let word' : TunWord := ⟨(List.range n).map fun i => e.word.testBit (n - 1 - i), d.tunDiv k, d.ticks⟩
  { tunSet k q d with tunWire := tabPut d.tunWire k word' }.set (L.TUN_STAT_BUSY k) 1

/-- The head entry of a free bus starts at its instant (R278), before which nothing happens: with WHEN = 1 the instant for its
burst, or, where that has passed, for the next burst after it, with LATE; with WHEN = 2 once the burst it waits for is over. -/
def tunStart (k : Nat) (d : Device) : Device :=
  match tabGet d.tuners [] k with
  | [] => d
  | e :: q =>
    if !d.on (L.TUN_CFG_EN k) || d.on (L.TUN_STAT_BUSY k) then d
    else match e.when with
      | 1 =>
        match e.due.orElse fun _ => d.tunDue k 1 e.m with
        | none => d
        | some key =>
          let key' := d.tunBurst k e.m 1024 key
          let d := d.when (key' != key) fun d => d.event (L.TUN_STAT_LATE k) isleLANE 10 (4 + k) 1 1 []
          match d.tunLeft k e.m key' with
          | some t => if t ≤ 15625 then tunShift k e q d else tunSet k ({ e with due := some key' } :: q) d
          | none => d
      | 2 => if e.due.getD 0 ≤ (d.pathc (8 * k + e.m)).offs then tunShift k e q d else d
      | _ => tunShift k e q d

/-- FE ticks since the word on bus `k` started. -/
def Device.tunAge (d : Device) (w : TunWord) : Nat := (d.ticks - w.start) * 25 / 8

/-- The levels of CLK, DAT and STB on bus `k` (R277): DAT changes as CLK falls, CLK is high for the last floor(DIV / 2) FE ticks
of a period, STB for the period after the last bit; an idle or disabled bus holds all three low. -/
def Device.tunLines (d : Device) (k : Nat) : Bool × Bool × Bool :=
  match tabGet? d.tunWire k with
  | some w =>
    let age := d.tunAge w
    let i := age / w.div
    if !d.on (L.TUN_CFG_EN k) || !d.on (L.TUN_STAT_BUSY k) then (false, false, false)
    else (i < w.bits.length && w.div ≤ age % w.div + w.div / 2, w.bits.getD i false, i == w.bits.length)
  | none => (false, false, false)

/-- The word and its strobe have been sent (R277). -/
def tunDone (k : Nat) (d : Device) : Device := d.set (L.TUN_STAT_BUSY k) 0

/-! ## Mismatch and search (R279–R281) -/

/-- A measurement of path `p` is requested: CPF first.  Captures of an earlier one count for nothing. -/
def mismatchAsk (p : Nat) (d : Device) : Device :=
  let d := capLapse p .mismatch d
  capAsk ⟨p, 0, .mismatch⟩ (d.setPath p { d.pathc p with cpf := none, cpr := none, again := none })

/-- Every INTERVAL ms (R280). -/
def mismatchTick (p : Nat) (d : Device) : Device :=
  if d.get (L.PATH_MM_INTERVAL p) != 0 && d.on (L.PATH_STAT_TXS p) && d.trialState p = 0 && (d.pathc p).search.isNone &&
      (d.pathc p).again.isNone &&
      !(((d.capc (p / 8)).queue ++ (d.capc (p / 8)).running.toList ++ (d.capc (p / 8)).done.map (·.req)).any fun r =>
        r.path == p && r.kind == .mismatch) then mismatchAsk p d
  else d

/-- Entry `e` of the tuner table is written with WHEN = 1 (R281); in FDD each write lands at once. -/
def tunWrite (p e : Nat) (d : Device) : Device :=
  tunPush (p / 8) (d.get (L.PATH_TUNTAB_WORD p e)) (if d.air.fdd then 0 else 1) (p % 8) d

/-- The search's present entry is written, or waits while a trial runs (R281). -/
def searchWrite (p : Nat) (s : Search) (d : Device) : Device :=
  let paused := d.trialState p != 0
  let d := d.setPath p { d.pathc p with search := some { s with unwritten := paused, midBurst := d.burstBegun p } }
  d.when (!paused) (tunWrite p s.entry)

/-- PATH_SRCH.GO (R281). -/
def searchGo (p : Nat) (d : Device) : Device :=
  if (d.pathc p).search.isSome then d.pathEvent L.PATH_EVENT_CMD_ERR p 1 []
  else
    searchWrite p ⟨0, 0, none, false, false, false⟩ (d.set (L.PATH_SRCH_SSTATE p) 1)

/-- The search goes to its next entry, or ends (R281). -/
def searchNext (p : Nat) (s : Search) (d : Device) : Device :=
  if s.entry < d.get (L.PATH_SRCH_N p) then
    searchWrite p { s with entry := s.entry + 1, bursts := 0, asked := false } d
  else
    let d := d.setPath p { d.pathc p with search := none }
    let d := match s.best with
      | some (e, _) => (tunWrite p e (d.set (L.PATH_SRCH_BEST p) e)).set (L.PATH_SRCH_SSTATE p) 2
      | none => (tunWrite p (d.get (L.PATH_SRCH_CUR p)) d).set (L.PATH_SRCH_SSTATE p) 3
    d.pathEvent L.PATH_EVENT_SRCH_DONE p 0 []

/-- TSETTLE µs after a tuner entry lands (R281); a trial pauses the search. -/
def searchSettled (p : Nat) (d : Device) : Device :=
  match (d.pathc p).search with
  | some s =>
    if d.trialState p = 0 && !s.asked && !s.unwritten then
      mismatchAsk p (d.setPath p { d.pathc p with search := some { s with asked := true } })
    else d
  | none => d

/-- A burst of a searched path has ended: four that began after the entry was written, without a measurement, score nothing
(R281). -/
def searchBurst (p : Nat) (d : Device) : Device :=
  match (d.pathc p).search with
  | some s =>
    if d.trialState p != 0 then d
    else if s.unwritten then searchWrite p s d
    else if s.midBurst then d.setPath p { d.pathc p with search := some { s with midBurst := false } }
    else if s.bursts < 3 then d.setPath p { d.pathc p with search := some { s with bursts := s.bursts + 1 } }
    else searchNext p s (capLapse p .mismatch (d.setPath p { d.pathc p with again := none }))
  | none => d

/-- The CPF-to-CPR correction of a sum over CPR (R279, R301): CAL_OBSCOR, and the phase of CAL_OBSDLY at F_RF (log 125); in
2^-54. -/
def Device.obsCorrected (d : Device) (p : Nat) (x : Cx) : Cx :=
  let turn : Int := ((d.txc p).ftw : Int) * d.getS (L.CAL_OBSDLY_DLY p) * 12288 / 10 ^ 7
  cxMul (cxMul x (iqOf (d.rd (A.CAL_OBSCOR p)))) (turnExact turn)

/-- RL and the phase of Γ from the sums over CPF and CPR (R279).  Where the ratio has no level, or one that the unsigned field
does not hold, RL is a free value, and so is the phase of a zero (log 125). -/
def Device.mismatchRatio (d : Device) (p : Nat) (f r : Cx) : Nat × Nat × Device :=
  let num := d.obsCorrected p r
  let a := cxNorm f * 2 ^ 108
  let b := cxNorm num
  let rl := ratioDb a b
  let (rl, d) := if a = 0 || b = 0 || rl < 0 then let (v, d) := d.draw; (v % 65536, d) else (rl.toNat, d)
  let g := cxMul num (cxConj f)
  let (ph, d) := if g == cx0 then let (v, d) := d.draw; (v % 65536, d) else (angle16 g, d)
  (rl, ph, d)

/-- A capture pair is complete (R279–R281): RL and the phase of Γ.  During a search only a measurement it has asked for scores. -/
def mismatchResult (p : Nat) (d : Device) : Device :=
  let c := d.pathc p
  match c.cpf, c.cpr with
  | some f, some r =>
    let (rl, phase, d) := d.mismatchRatio p f r
    let d := (d.set (L.PATH_MMRES_RL p) rl).set (L.PATH_MMRES_PHASE p) phase
    let d := d.setPath p { c with cpf := none, cpr := none }
    match c.search with
    | some s =>
      if !s.asked then d else
      let better : Bool := match s.best with | some (_, b) => decide (b < rl) | none => true
      searchNext p { s with best := if better then some (s.entry, rl) else s.best } d
    | none =>
      let low := if rl < d.get (L.PATH_MM_RL_MIN p) then min 2 (c.lowRl + 1) else 0
      let d := d.setPath p { d.pathc p with lowRl := low }
      if low = 2 then (d.pathEvent L.PATH_EVENT_MISMATCH p 2 [(rl, 16)]).when (d.on (L.PATH_MM_AUTO p)) (searchGo p) else d
  | _, _ => d

/-- A capture that failed is taken again in the next burst (R279), unless a trial has begun. -/
def mismatchAgain (p : Nat) (d : Device) : Device :=
  match (d.pathc p).again with
  | some input =>
    d.when (d.trialState p == 0) fun d =>
      capAsk ⟨p, input, .mismatch⟩ (d.setPath p { d.pathc p with again := none })
  | none => d

/-! ## The end of a burst -/

/-- The last symbol of the burst ends (R261, R262, R266): the mute request is restored, and the OFF program runs unless the
lines stay at burst level for the next burst. -/
def burstEnd (p : Nat) (d : Device) : Device :=
  let c := d.pathc p
  let d := match c.cur with
    | some k =>
      if d.pathState p = 3 && !d.air.fdd then
        let d := d.when (!c.sendNxt) (setPathMute p true)
        let stays := d.merges c k && (c.nxt.isSome || (d.burstAfter k != c.wh && d.on (L.PATH_STAT_TXS p)))
        let d := d.setPath p { d.pathc p with cur := c.nxt, nxt := none, sending := c.sendNxt, sendNxt := false }
        if stays then
          match c.nxt with
          | some k' => d.set (L.PATH_STAT_BURST p) (k' % 1024)
          | none => d
        else feOff p 7 d
      else d
    | none => d
  let d := d.setPath p { d.pathc p with endedAt := d.laneNow }
  mismatchAgain p (searchBurst p d)

/-! ## Service (R258, R272) -/

/-- A run for RETURN enters the queue, or waits for a place (R291, R525): results are applied without a fade. -/
def calAsk (kind p : Nat) (d : Device) : Device :=
  let r : CalRun := ⟨kind, p, true, 0, 1⟩
  if d.cal.queue.length < 16 then
    { d with cal := { d.cal with queue := d.cal.queue ++ [r] } }.set L.CAL_RSTAT_QLEN (d.cal.queue.length + 1)
  else { d with cal := { d.cal with wanted := d.cal.wanted ++ [r] } }

/-- Step CONV completes when both converters run (R272): STEP CAL. -/
def retConv (p : Nat) (d : Device) : Device :=
  if d.pathState p = 1 && !(d.pathc p).outWait && d.get (L.PATH_STAT_STEP p) = 1 && d.rxState p = 3 && d.txState p = 3 then
    calAsk 3 p (calAsk 2 p (calAsk 1 p (d.set (L.PATH_STAT_STEP p) 2)))
  else d

/-- RETURN from step CONV (R272). -/
def retStart (p : Nat) (d : Device) : Device :=
  retConv p (feRest p ((d.set (L.PATH_STAT_STATE p) 1).set (L.PATH_STAT_STEP p) 1))

/-- A calibration run of RETURN ends OK (R272): with no further run of the step waiting, the next step starts, unless an outage
keeps STEP (R271) or the path leaves service. -/
def retAdvance (p : Nat) (d : Device) : Device :=
  let waits := (d.cal.queue ++ d.cal.wanted).any fun r => r.origin == 1 && r.path == p
  if d.pathState p = 1 && !waits && !(d.pathc p).outWait && !(d.pathc p).outageReturn then
    match d.get (L.PATH_STAT_STEP p) with
    | 2 => calAsk 6 p (calAsk 5 p (d.set (L.PATH_STAT_STEP p) 3))
    | 3 =>
      let d := ((d.set (L.PATH_STAT_STEP p) 4).set (L.PATH_STAT_RXS p) 1).set (L.PATH_STAT_TXS p) 1
      let len := d.get (L.PATH_CTL_LEN p)
      returnedCheck p (rampStart 1 p 1 len (rampStart 0 p 1 len (lnaRefresh p d)))
    | _ => d
  else d

/-- EN written 1 (R258); while the OFF program of EN = 0 runs it acts as the program ends. -/
def pathEnable (p : Nat) (d : Device) : Device :=
  if d.pathState p = 0 then pathOn p d else d

/-- EN written 0 (R258): bursts end, the OFF program runs, then OFF. -/
def pathDisable (p : Nat) (d : Device) : Device :=
  if d.pathState p = 0 then d
  else
    let d := calWithdraw p (calEndPath p 10 d)
    let d := d.setPath p { d.pathc p with
      cur := none, nxt := none, sending := false, sendNxt := false, offRun := 7,
      offWait := true, outWait := false, returning := false, outageReturn := false }
    setPathMute p true d

/-- PATH_CTL.OUT_GO (R258). -/
def pathOutGo (p : Nat) (d : Device) : Device :=
  if d.pathState p = 0 || d.pathState p = 5 then d.pathEvent L.PATH_EVENT_CMD_ERR p 1 []
  else coexSettle (pathLeave p d)

/-- PATH_CTL.RET_GO (R258, R272). -/
def pathRetGo (p : Nat) (d : Device) : Device :=
  if d.pathState p = 5 then retStart p (d.setPath p { d.pathc p with returning := true })
  else d.pathEvent L.PATH_EVENT_CMD_ERR p 1 []

/-- RET_TMO has passed (R272). -/
def retTimeout (p : Nat) (d : Device) : Device :=
  let c := d.pathc p
  if c.returning then coexSettle (calWithdraw p (pathReturnFail p 4 d)) else d

/-- The Damper or the thermal trip holds the path (R258). -/
def pathHold (p : Nat) (d : Device) : Device :=
  let c := d.pathc p
  let st := d.pathState p
  if st = 1 || st = 2 || st = 3 then
    let d := d.setPath p { c with
      cur := none, nxt := none, sending := false, sendNxt := false,
      offRun := if st = 3 then 6 else c.offRun, heldReturn := st == 1 || (st == 3 && c.fromReturn), fromReturn := false }
    let d := (d.set (L.PATH_STAT_STATE p) 4).set (L.PATH_STAT_PA p) 0
    coexSettle (setPathMute p true (d.pathEvent L.PATH_EVENT_HOLD p 2 []))
  else d

/-- The Damper releases the path (R258). -/
def pathRelease (p : Nat) (d : Device) : Device :=
  if d.pathState p = 4 then
    let c := d.pathc p
    let d := d.setPath p { c with heldReturn := false }
    if c.heldReturn then retStart p (calWithdraw p d) else (d.set (L.PATH_STAT_STATE p) 2).set (L.PATH_STAT_STEP p) 0
  else d

/-- An outage begins (R271): bursts are refused or cut, and a RETURN will restart. -/
def pathOutage (d : Device) : Device :=
  (burstRecheckAll d).each 64 fun p d =>
    let c := d.pathc p
    if d.pathState p = 1 || (d.pathState p = 3 && c.fromReturn) then d.setPath p { c with outageReturn := true } else d

/-- The strobe that ends an outage (R271). -/
def pathStrobe (d : Device) : Device :=
  d.each 64 fun p d =>
    let c := d.pathc p
    if c.outageReturn then
      let d := calWithdraw p (d.setPath p { c with outageReturn := false })
      if d.pathState p = 1 then retStart p d else d
    else retConv p d

/-! ## Coexistence inputs (R275, R276) -/

/-- The pin is an input in the port's role (R273). -/
def Device.coexInput (d : Device) (k pin : Nat) : Bool :=
  match d.get (L.COEX_CFG_ROLE k) with
  | 1 => pin == 1
  | 2 => pin != 1
  | _ => true

/-- The pin whose rising edges are rate limited (R276). -/
def Device.coexLimited (d : Device) (k pin : Nat) : Bool :=
  (d.get (L.COEX_CFG_ROLE k) == 1 && pin == 1) || (d.get (L.COEX_CFG_ROLE k) == 2 && pin == 3)

/-- The level a port acts on has changed: preemption, GRANT, VIOL, and the bursts it gates (R274, R275). -/
def coexActed (k : Nat) (rose : Bool) (granted : Bool) (d : Device) : Device :=
  let pre := d.get (L.COEX_CFG_ROLE k) == 2 && d.coexIn k 3 && d.coexIn k 2 && d.on (L.COEX_CFG_PREEMPT k)
  let d := if pre then d.each 64 fun p d => d.when (d.gated k p && d.onTheAir p) (burstStop p 3) else d
  let d := coexOut k d
  let viol := d.get (L.COEX_CFG_ROLE k) == 2 && d.coexIn k 0 && !d.coexIn k 1 && (rose || granted)
  let d := d.when viol fun d => d.event (L.COEX_EVENT_VIOL k) isleLANE 10 k 0 2 []
  burstRecheckAll d

/-- A rising edge is accepted: the level acted on is high. -/
def coexRise (k pin : Nat) (d : Device) : Device :=
  let g := d.coexIn k 1
  let d := d.when (d.coexLimited k pin) fun d => d.setCoex k { d.coexc k with rise := some d.ticks, delayed := false }
  coexActed k (pin == 0) (pin == 3 && g) (coexSet k pin true d)

/-- A level has held for DGL (R276). -/
def coexAccept (k pin level : Nat) (d : Device) : Device :=
  if d.coexInput k pin then
    let c := d.coexc k
    let d := d.setCoex k { c with dg := putBits c.dg pin 1 level }
    if level = 0 then
      let g := d.coexIn k 1 && pin != 1
      let d := d.set (L.COEX_STAT_STUCK k) (putBits (d.get (L.COEX_STAT_STUCK k)) pin 1 0)
      let d := d.when (d.coexLimited k pin) fun d => d.setCoex k { d.coexc k with delayed := false }
      coexActed k false (pin == 3 && g) (coexSet k pin false d)
    else if bitsOf (d.get (L.COEX_STAT_STUCK k)) pin 1 = 1 then d
    else
      let soon := match c.rise with
        | some t => d.ticks - t < ticksPerUs (d.get (L.COEX_TIME_MIN_GAP k))
        | none => false
      if d.coexLimited k pin && soon then
        ((d.setCoex k { d.coexc k with delayed := true }).inc (L.COEX_CNT_FAST k)).eventLimited
          (L.COEX_EVENT_FAST k) ticksPerMs isleLANE 10 k 0 2 []
      else coexRise k pin d
  else d

/-- A held-back edge at MIN_GAP (R276). -/
def coexDelayed (k : Nat) (d : Device) : Device :=
  if (d.coexc k).delayed then coexRise k (if d.get (L.COEX_CFG_ROLE k) = 1 then 1 else 3) d else d

/-- A pin has been high for MAXHOLD (R276): STUCK, and treated as low. -/
def coexStuck (k pin : Nat) (d : Device) : Device :=
  let role := d.get (L.COEX_CFG_ROLE k)
  let counts := (role == 1 && pin == 1 && !d.coexIn k 3) || (role == 2 && (pin == 3 || pin == 0))
  if counts && d.get (L.COEX_TIME_MAXHOLD k) != 0 && bitsOf (d.coexc k).dg pin 1 = 1
      && bitsOf (d.get (L.COEX_STAT_STUCK k)) pin 1 = 0 then
    let d := d.set (L.COEX_STAT_STUCK k) (putBits (d.get (L.COEX_STAT_STUCK k)) pin 1 1)
    let d := d.when (d.coexLimited k pin) fun d => d.setCoex k { d.coexc k with delayed := false }
    let d := d.event (L.COEX_EVENT_STUCK k) isleLANE 10 k 0 2 []
    let g := d.coexIn k 1
    coexActed k false (pin == 3 && g) (coexSet k pin false d)
  else d

/-- REQ_LEAD µs before a burst of the gated set (R274); a burst that no path of the set may send raises nothing. -/
def coexReq (k b : Nat) (d : Device) : Device :=
  match d.burstAhead b with
  | some (key, _, _) =>
    if d.get (L.COEX_CFG_ROLE k) = 1 && !(d.coexc k).reqs.contains key then
      coexReqSettle k (d.setCoex k { d.coexc k with reqs := (d.coexc k).reqs ++ [key] })
    else d
  | none => d

/-- A COEX_CFG write (R273, R275): pins that have become inputs show the level accepted on them, outputs are driven, and with
PREEMPT written 1 a request with priority already accepted preempts. -/
def coexCfgWrite (k old : Nat) (d : Device) : Device :=
  let was := bitsOf old 30 2
  let now := d.get (L.COEX_CFG_ROLE k)
  let d := if was = now then d
    else
      let c := d.coexc k
      let acted := (List.range 4).foldl (fun n b =>
        if d.coexInput k b && bitsOf c.dg b 1 = 1 && bitsOf (d.get (L.COEX_STAT_STUCK k)) b 1 = 0 then n + 2 ^ b else n) 0
      (d.setCoex k { c with reqs := [], delayed := false }).set (L.COEX_STAT_IN k) acted
  coexActed k false false d

/-! ## Meanings -/

/-- BURST_CHECK (R268). -/
def execBurstCheck (p b : Nat) (s : State) : Host.Outcome State Fault Refusal :=
  actDev (.burstCheck p b) s (burstCheck p b)
/-- BURST_MUTE_WITHDRAW (R266). -/
def execBurstMuteWithdraw (p : Nat) (s : State) : Host.Outcome State Fault Refusal :=
  actDev (.burstMuteWithdraw p) s (burstWithdraw p)
/-- FE_PROGRAM_EDGE (R258, R264). -/
def execFeProgramEdge (p line : Nat) (on : Bool) (s : State) : Host.Outcome State Fault Refusal :=
  actDev (.feProgramEdge p line on) s (feEdge p line on)
/-- BURST_END (R261, R266). -/
def execBurstEnd (p : Nat) (s : State) : Host.Outcome State Fault Refusal :=
  actDev (.burstEnd p) s (burstEnd p)
/-- RETURN_TIMEOUT (R272). -/
def execReturnTimeout (p : Nat) (s : State) : Host.Outcome State Fault Refusal :=
  actDev (.returnTimeout p) s (retTimeout p)
/-- LNA_BYPASS_END (R267). -/
def execLnaBypassEnd (p : Nat) (s : State) : Host.Outcome State Fault Refusal :=
  actDev (.lnaBypassEnd p) s (lnaBypassEnd p)
/-- COEX_REQ_RISE (R274). -/
def execCoexReqRise (k b : Nat) (s : State) : Host.Outcome State Fault Refusal :=
  actDev (.coexReqRise k b) s (coexReq k b)
/-- TUNER_WORD_START (R278). -/
def execTunerWordStart (k : Nat) (s : State) : Host.Outcome State Fault Refusal :=
  actDev (.tunerWordStart k) s (tunStart k)
/-- TUNER_WORD_DONE (R277). -/
def execTunerWordDone (k : Nat) (s : State) : Host.Outcome State Fault Refusal :=
  actDev (.tunerWordDone k) s (tunDone k)
/-- MISMATCH_INTERVAL (R280). -/
def execMismatchInterval (p : Nat) (s : State) : Host.Outcome State Fault Refusal :=
  actDev (.mismatchInterval p) s (mismatchTick p)
/-- MISMATCH_MEASURED (R279–R281). -/
def execMismatchMeasured (p : Nat) (s : State) : Host.Outcome State Fault Refusal :=
  actDev (.mismatchMeasured p) s (mismatchResult p)
/-- SEARCH_SETTLE_END (R281). -/
def execSearchSettleEnd (p : Nat) (s : State) : Host.Outcome State Fault Refusal :=
  actDev (.searchSettleEnd p) s (searchSettled p)
/-- TXDAC_CAL_DONE (R152, R272). -/
def execTxdacCalDone (p : Nat) (s : State) : Host.Outcome State Fault Refusal :=
  actDev (.txdacCalDone p) s fun d => retConv p (txCalDone p d)
/-- DWELL_START (R125–R127, R272). -/
def execDwellStart (n : Nat) (s : State) : Host.Outcome State Fault Refusal :=
  actDev (.dwellStart n) s fun d => let (d, ran) := rxDwellStart n d; d.when (ran && n < 64) (retConv n)
/-- COARSE_POWER_WINDOW (R179, R181, R267). -/
def execCoarsePowerWindow (p j : Nat) (s : State) : Host.Outcome State Fault Refusal :=
  actDev (.coarsePowerWindow p j) s fun d =>
    let (d, hi) := coarseWindow p (meanDb (d.coarseSamples p j)) (d.coarseValid p j) d
    d.when hi (lnaBypass p)

end Sys2Proof.Machine
end

