-- ==== Sys2Proof/Machine/Damper.lean ====
section
/-! DEFINITION. The Damper Emission Guard: limits, causes, hold, cooldown and lockout (R302–R315). -/
namespace Sys2Proof.Machine

/-! ## State of a path -/

/-- DMP_PSTAT.STATE (R313). -/
def Device.dmpState (d : Device) (p : Nat) : Nat := d.get (L.DMP_PSTAT_STATE p)

/-- The output is forced to zero unless ARMED and not inhibited, from this sample on (R311–R313; log 139). -/
def dmpShow (p : Nat) (d : Device) : Device :=
  let c := d.dmpc p
  let was := d.on (L.DMP_PSTAT_FORCED p)
  let now := d.dmpState p != 0 || d.on L.DMP_STAT_INHIBIT
  let d := d.set (L.DMP_PSTAT_FORCED p) (bit now)
  if was == now then d
  else d.setDmp p (if now then { c with since := d.laneNow } else { c with since := 0, spans := c.spans ++ [(c.since, d.laneNow)] })

/-- Entries within the last 1 s (R314). -/
def Device.strikesNow (d : Device) (p : Nat) : List Nat := (d.dmpc p).strikes.filter fun t => d.ticks - t < 1000 * ticksPerMs

/-- COOL_LEFT in ms (R313). -/
def Device.coolLeft (d : Device) (p : Nat) : Nat :=
  let c := d.dmpc p
  if d.dmpState p = 2 then c.coolMs - (d.ticks - c.coolFrom) / ticksPerMs else 0

/-! ## Limits in force (R306) -/

/-- The lower of ceiling and firmware limit, in 1/64 dB. -/
def Device.limPk (d : Device) : Int := min (d.getS L.DMP_CEIL0_PK) (d.getS L.DMP_LIM0_PK)
/-- The AVG limit. -/
def Device.limAvg (d : Device) : Int := min (d.getS L.DMP_CEIL0_AVG) (d.getS L.DMP_LIM0_AVG)
/-- The ARRAY limit. -/
def Device.limArray (d : Device) : Int := min (d.getS L.DMP_CEIL1_ARRAY) (d.getS L.DMP_LIM1_ARRAY)
/-- The DUTY limit in 1/256. -/
def Device.limDuty (d : Device) : Nat := min (d.get L.DMP_CEIL2_DUTY) (d.get L.DMP_LIM2_DUTY)
/-- The cooldown in ms. -/
def Device.coolTime (d : Device) : Nat := max (max 1 (d.get L.DMP_CEIL1_COOL_MIN)) (d.get L.DMP_LIM1_COOL)

/-- The limit in 1/1,600 dB as it has been converted to linear power: within 0.01 dB of its word (R304; log 23). -/
def limitFine (lim : Int) : Int := lim * 25 + ((Config.limitError (lim + 65536).toNat % 33 : Nat) : Int) - 16
/-- 10 log10 (a / b) exceeds `e` / 1,600 dB: a^16000 > b^16000 10^e. -/
def dbExceeds (a b : Nat) (e : Int) : Bool :=
  if 0 ≤ e then b ^ 16000 * 10 ^ e.toNat < a ^ 16000 else b ^ 16000 < a ^ 16000 * 10 ^ (-e).toNat
/-- The power a / b exceeds the limit (R304).  The largest sum of 64 full-scale paths lies below 40 dB, with every margin. -/
def overLimit (lim : Int) (a b : Nat) : Bool := a != 0 && lim < 2560 && dbExceeds a b (limitFine lim)
/-- The power lies at least 1 dB below the limit (R304). -/
def underLimit (lim : Int) (a b : Nat) : Bool := a == 0 || 2560 ≤ lim || !dbExceeds a b (limitFine lim - 1600)

/-- LANE blocks in the DUTY window (R302). -/
def Device.dutyWindow (d : Device) : Nat := if d.lowPower then 7500 else 15000
/-- LANE blocks in the AVG window (R302). -/
def Device.avgWindow (d : Device) : Nat := if d.lowPower then 750 else 1500

/-- The IFS trim of path `p` in force, in 0.05 dB (R282). -/
def Device.ifsTrim (d : Device) (p : Nat) : Int :=
  (d.inForce (.txa p) fun b => (d.getS (L.CAL_TXA_IFS_IFS p b), 0)).1

/-- The margin of R303 as a factor in 2^-80: 2.0 dB and a positive IFS. -/
def Device.margin (d : Device) (p : Nat) : Nat := dbPower 20 (40 + max 0 (d.ifsTrim p))

/-- The energy of samples, raised by a margin, in 2^-64. -/
def raised (margin : Nat) (xs : List Cx) : Nat := (xs.map cxNorm).foldl (· + ·) 0 * margin / 2 ^ 16

/-- The energy of `n` samples at 0 dBFS in 2^-64 (R303). -/
def fullEnergy (n : Nat) : Nat := n * 32767 ^ 2 * 2 ^ 64

/-- Trip input `k` is enabled, and the groups it maps to (R306, R310). -/
def Device.tripOn (d : Device) (k : Nat) : Bool :=
  bitsOf (d.get L.DMP_CEIL2_TRIP_EN) k 1 == 1 || bitsOf (d.get L.DMP_LIM2_TRIP_EN) k 1 == 1
/-- The groups of trip input `k`. -/
def Device.tripMap (d : Device) (k : Nat) : Nat :=
  let f := fun (w : Nat) => bitsOf w (8 * (k % 4)) 8
  f (d.get (L.DMP_CEIL_TMAP_MAP (k / 4))) ||| f (d.get (L.DMP_LIM_TMAP_MAP (k / 4)))
/-- An enabled trip input mapped to the path's group is accepted high. -/
def Device.tripped (d : Device) (p : Nat) : Bool :=
  (List.range 8).any fun k => bitsOf (d.get L.DMP_STAT_TRIP) k 1 == 1 && d.tripOn k && bitsOf (d.tripMap k) (p / 8) 1 == 1

/-- Port `k` is enforced for the path (R306). -/
def Device.enforced (d : Device) (p k : Nat) : Bool :=
  bitsOf (d.get L.DMP_CEIL1_COEX_ENF) k 1 == 1 || bitsOf (d.get (L.DMP_PGATE_GATE p)) k 1 == 1
/-- An enforced grant is missing (R309). -/
def Device.grantMissing (d : Device) (p k : Nat) : Bool :=
  d.enforced p k && (d.get (L.COEX_CFG_ROLE k) != 1 || !d.coexIn k 1 || bitsOf (d.get (L.COEX_STAT_STUCK k)) 1 1 == 1)

/-! ## Spans in force (R307, R308) -/

/-- The span of TXINJ lies in one usable band (R307): F_P of a TONE, the comb about it of a COMB. -/
def Device.txinjAllowed (d : Device) : Bool :=
  let f : Int := hz48 d.pilotFtw
  let cm := min 6 (d.get L.CAL_PILOT_CM)
  let half : Int := if d.get L.CAL_PILOT_MODE = 1 then 0
    else ((2 ^ cm - 1) * max 1 (d.get L.CAL_PILOT_CSP) * 750000 * 2 ^ 48 : Nat)
  d.allowed (f - half) (f + half)

/-- The tuning word of a span in force on path `p` that fails the allow-list (R308). -/
def Device.allowFails (d : Device) (p : Nat) : Option Nat :=
  let c := d.txc p
  if d.on (L.TXDAC_CFG_EN p) && d.get (L.TXDAC_STAT_MODE p) != 0 && !d.ncoAllowed c.ftw then some c.ftw
  else if d.calTxPath == some p && d.get L.CAL_RSTAT_STATE == 3 && !d.txinjAllowed then some d.pilotFtw
  else ((List.range 4).find? fun n =>
    let k := duc p n
    d.get (L.CH_STAT_STATE k) == 1 && !d.ducAllowed (d.chn k).ftw (chanCfg k (d.chn k).cfg).rate).map fun n => (d.chn (duc p n)).ftw

/-! ## Causes -/

/-- What follows the output of a path being forced to zero: the capture in progress, a trial, a calibration run (R245, R252,
R294). -/
def dmpForce (p : Nat) (d : Device) : Device :=
  let c := d.capc (p / 8)
  let d := match c.running with
    | some r => if r.path = p && c.take.n0.isSome then d.setCap (p / 8) { c with damped := true } else d
    | none => d
  let d := trialBreak p 4 d
  match d.cal.running with
  | some r => if (d.calTxPaths r).contains p && d.get L.CAL_RSTAT_STATE = 3 then calFail 8 d else d
  | none => d

/-- A new cause on a path (R313, R314): HELD, or LOCKOUT at the STRIKES-th entry within 1 s.  `own` holds the record of a
cause that writes one per path; `items` are those of the LOCKOUT record of a cause that writes one for the device (R315).  A
new cause in LOCKOUT writes its record as in HELD (log 139). -/
def dmpCauseWith (items : List (Nat × Nat)) (p b : Nat) (own : Option (List (Nat × Nat))) (d : Device) : Device :=
  let c := d.dmpc p
  if !d.dmpLoaded || bitsOf c.stand b 1 = 1 then d
  else
    let st := d.dmpState p
    let strikes := if st = 0 then d.strikesNow p ++ [d.ticks] else c.strikes
    let lock := st == 3 || (st == 0 && d.get L.DMP_CEIL1_STRIKES ≤ strikes.length)
    let d := d.setDmp p { c with stand := c.stand + 2 ^ b, strikes := strikes }
    let causes := if st = 0 then 0 else d.get (L.DMP_PSTAT_CAUSE p)
    let d := (d.set (L.DMP_PSTAT_CAUSE p) (putBits causes b 1 1)).set (L.DMP_PSTAT_STATE p) (if lock then 3 else 1)
    let d := d.set (L.DMP_PSTAT_COOL_LEFT p) 0
    let d := d.when (st == 0 || st == 2) fun d => d.inc L.DMP_CNT_HOLDS
    let d := if st = 0 && lock then d.event L.DMP_EVENT_LOCKOUT isleLANE 9 p 0 5 (own.getD items)
      else match own with
        | some x => d.event L.DMP_EVENT_HOLD isleLANE 9 p 0 2 x
        | none => d
    pathHold p (dmpForce p (dmpShow p d))

/-- A new cause on a path that names no measure beside its own record (R313–R315). -/
def dmpCause (p b : Nat) (own : Option (List (Nat × Nat))) (d : Device) : Device :=
  dmpCauseWith [(p, 6), (2 ^ b, 8)] p b own d

/-- The record of a cause: path, cause bit, measure and limit (R315). -/
def dmpItems (p b measure width limit : Nat) : List (Nat × Nat) := [(p, 6), (2 ^ b, 8), (measure, width), (limit, 16)]

/-- The causes that depend on levels are looked at again (R304, R308–R310): those that no longer hold clear, and a path in HELD
with none left starts its cooldown (R313). -/
def dmpSettle (p : Nat) (d : Device) : Device :=
  let c := d.dmpc p
  if !d.dmpLoaded then d
  else
    let drop := fun (b : Nat) (gone : Bool) (n : Nat) => if gone && bitsOf n b 1 = 1 then n - 2 ^ b else n
    let stand := drop 7 (!d.on L.DMP_STAT_THERM) (drop 6 (!d.tripped p)
      (drop 5 (!(List.range 4).any fun k => d.grantMissing p k) (drop 4 (d.allowFails p).isNone c.stand)))
    let d := d.setDmp p { c with stand := stand }
    if stand = 0 && d.dmpState p = 1 then
      let d := d.setDmp p { d.dmpc p with coolFrom := d.ticks, coolMs := d.coolTime }
      dmpShow p ((d.set (L.DMP_PSTAT_STATE p) 2).set (L.DMP_PSTAT_COOL_LEFT p) d.coolTime)
    else d

/-- Since when each enforced port of the path is without its grant (R309). -/
def dmpMissing (p : Nat) (d : Device) : Device :=
  let c := d.dmpc p
  let now := ((List.range 4).filter fun k => d.grantMissing p k).map fun k => (k, tabGet c.missing d.laneNow k)
  if now == c.missing then d else d.setDmp p { c with missing := now }

/-- Every path looked at again. -/
def dmpSettleAll (d : Device) : Device := d.each 64 fun p d => dmpSettle p (dmpMissing p d)

/-- A power cause clears once the measure has fallen far enough (R304). -/
def dmpClear (p b : Nat) (gone : Bool) (d : Device) : Device :=
  let c := d.dmpc p
  if gone && bitsOf c.stand b 1 = 1 then dmpSettle p (d.setDmp p { c with stand := c.stand - 2 ^ b }) else d

/-- The spans of a path checked against the bands (R308). -/
def dmpAllow (p : Nat) (d : Device) : Device :=
  match d.allowFails p with
  | some f => dmpCause p 4 (some (dmpItems p 4 (kHzOf f) 24 0)) d
  | none => d

/-! ## Measures -/

/-- A PK window of raised energy `e` is reported (R302). -/
def dmpPkShow (p e : Nat) (d : Device) : Device := d.set (L.DMP_PPWR_PK p) (encodeSigned 16 (levelDb e (fullEnergy 64)))

/-- A PK window of raised energy `e` breaks its limit (R302, R304, R312). -/
def dmpPkBreak (p e : Nat) (d : Device) : Device :=
  if overLimit d.limPk e (fullEnergy 64) then
    dmpCause p 0 (some (dmpItems p 0 (encodeSigned 16 (levelDb e (fullEnergy 64))) 16 (encodeSigned 16 d.limPk))) (dmpPkShow p e d)
  else d

/-- A PK window that ends now, as the Damper sees it: zeros in an outage and while it forces (R302, R304). -/
def Device.pkSeen (d : Device) (p : Nat) (v : List Cx) : List Cx := d.damperSees p (d.laneNow - v.length) v

/-- The 64 samples of v of a PK window inside the block in progress (R302, R304). -/
def dmpPk (p : Nat) (v : List Cx) (d : Device) : Device :=
  let e := raised (d.margin p) (d.pkSeen p v)
  dmpPkBreak p e (dmpPkShow p e d)

/-- The causes of a path looked at again, `v` being the PK window that ends now (R304, R313). -/
def dmpCauseClear (p : Nat) (v : List Cx) (d : Device) : Device :=
  let e := raised (d.margin p) (d.pkSeen p v)
  dmpSettle p (dmpClear p 0 (underLimit d.limPk e (fullEnergy 64)) (dmpPkShow p e d))

/-- A radiating sample more than 320 samples after an enforced grant went missing (R309). -/
def dmpGrant (p k : Nat) (d : Device) : Device :=
  if d.grantMissing p k then dmpCause p 5 (some (dmpItems p 5 k 16 0)) d else d

/-- The energies of the PK windows that end with each sample of a block (R302): `tail` and then its samples. -/
def pkEnergies (margin : Nat) (tail v : List Cx) : List Nat :=
  let energy := fun (x : Cx) => (cxNorm x : Nat)
  let padded := List.replicate (63 - tail.length) cx0 ++ tail ++ v
  let first := ((padded.take 63).map energy).foldl (· + ·) 0
  let step := fun (t : List Nat × Nat) (x : Cx × Cx) =>
    let now := t.2 + energy x.1
    (now * margin / 2 ^ 16 :: t.1, now - energy x.2)
  (((padded.drop 63).zip padded).foldl step ([], first)).1.reverse

/-- The PK windows of a block (R302, R304): the highest decides a break, the last what is shown and whether the cause clears. -/
def dmpPkBlock (p margin : Nat) (tail v : List Cx) (d : Device) : Device :=
  let es := pkEnergies margin tail v
  let last := es.getLastD 0
  let d := dmpPkShow p last (dmpPkBreak p (es.foldl max 0) d)
  dmpClear p 0 (underLimit d.limPk last (fullEnergy 64)) d

/-- A sample that radiates (R309). -/
def radiating (x : Cx) : Bool := 32 < x.1.natAbs || 32 < x.2.natAbs

/-- The sample of the block at which a PK window first breaks its limit, where the cause is new (R302, R312). -/
def Device.pkBreakAt (d : Device) (p : Nat) (v : List Cx) : Option Nat :=
  let c := d.dmpc p
  let es := pkEnergies (d.margin p) c.tail v
  if bitsOf c.stand 0 1 = 1 || !overLimit d.limPk (es.foldl max 0) (fullEnergy 64) then none
  else es.findIdx? fun e => overLimit d.limPk e (fullEnergy 64)

/-- The sample of the block at which GRANT is first broken, where the cause is new (R309, R312). -/
def Device.grantBreakAt (d : Device) (p : Nat) (v : List Cx) : Option Nat :=
  let c := d.dmpc p
  if bitsOf c.stand 5 1 = 1 then none
  else (List.range v.length).find? fun i =>
    radiating (v.getD i cx0) && c.missing.any fun m => m.2 + 320 < d.clk.blockFrom + i

/-- The output of path `p` is zero in the block from the sample after the first that breaks PK or GRANT (R312; log 139); the
cause itself is taken as the block ends. -/
def dmpCut (p : Nat) (v : List Cx) (d : Device) : Device :=
  let v := d.damperSees p d.clk.blockFrom v
  let first := match d.pkBreakAt p v, d.grantBreakAt p v with
    | some i, some j => some (min i j)
    | some i, none => some i
    | none, j => j
  match first with
  | some i =>
    if d.dmpLoaded then
      let c := d.dmpc p
      d.setDmp p { c with spans := c.spans ++ [(d.clk.blockFrom + i + 1, d.clk.blockTo)] }
    else d
  | none => d

/-- A radiating sample of the block more than 320 samples after an enforced grant went missing (R309). -/
def dmpGrantBlock (p : Nat) (v : List Cx) (d : Device) : Device :=
  (d.dmpc p).missing.foldl (fun d m =>
    let late := ((List.range v.length).zip v).any fun x => m.2 + 320 < d.clk.blockFrom + x.1 && radiating x.2
    d.when late (dmpGrant p m.1)) d

/-- The energy of a path's AVG window, raised, in 2^-64 (R302). -/
def Device.avgEnergy (d : Device) (p : Nat) : Nat := ((d.dmpc p).sums.map (·.2)).foldl (· + ·) 0

/-- AVG and DUTY of path `p` at a block end (R302, R304); `block` is the raised energy of the block. -/
def dmpAvg (p block : Nat) (d : Device) : Device :=
  let c := d.dmpc p
  let radiates := fullEnergy 1024 < block * 10 ^ 5
  let duty := (if radiates then c.duty ++ [d.dmpSerial] else c.duty).filter fun s => d.dmpSerial - s < d.dutyWindow
  let sums := (if block = 0 then c.sums else c.sums ++ [(d.dmpSerial, block)]).filter fun s => d.dmpSerial - s.1 < d.avgWindow
  let d := d.setDmp p { c with duty := duty, sums := sums }
  let n := duty.length
  let full := fullEnergy (1024 * d.avgWindow)
  let avg := d.avgEnergy p
  let level := encodeSigned 16 (levelDb avg full)
  let d := (d.set (L.DMP_PPWR_AVG p) level).set (L.DMP_PDUTY_BLOCKS p) n
  let d := if overLimit d.limAvg avg full then dmpCause p 1 (some (dmpItems p 1 level 16 (encodeSigned 16 d.limAvg))) d
    else dmpClear p 1 (underLimit d.limAvg avg full) d
  if d.limDuty * d.dutyWindow < n * 256 then
    dmpCause p 3 (some [(p, 6), (8, 8), (n * 256 / d.dutyWindow, 9), (d.limDuty, 9)]) d
  else dmpClear p 3 ((n + 256) * 256 ≤ d.limDuty * d.dutyWindow) d

/-- The Damper on path `p` over the block that ends, `v` being its output (log 126).  A path with nothing measured and no cause
has nothing to look at. -/
def dmpBlockPath (p : Nat) (v : List Cx) (d : Device) : Device :=
  let c := d.dmpc p
  if v.isEmpty && c.tail.isEmpty && c.sums.isEmpty && c.duty.isEmpty && c.stand % 16 = 0 && c.missing.isEmpty then
    d.when (d.get (L.DMP_PPWR_AVG p) != 0xE000 || d.get (L.DMP_PPWR_PK p) != 0xE000) (dmpAvg p 0 ∘ dmpPkShow p 0)
  else
    let margin := d.margin p
    let d := dmpGrantBlock p v d
    let d := dmpPkBlock p margin c.tail (if v.isEmpty then List.replicate (min 64 d.blockLen) cx0 else v) d
    let d := d.setDmp p { d.dmpc p with tail := lastOf 63 v }
    dmpAvg p (raised margin v) d

/-- The Damper over the block that ends (R302, R304): `vs` are the outputs of the predistorters; while it forces and in an
outage it sees zeros (R98, R112, R304, R313).  ARRAY acts on every path not in OFF or OUT. -/
def dmpJudge (vs : List (Nat × List Cx)) (d : Device) : Device :=
  let seen := fun (p : Nat) => let v := d.damped p (tabGet vs [] p); if d.txStoppedAt d.clk.blockFrom then [] else d.damperSees p d.clk.blockFrom v
  let d := { d with dmpSerial := d.dmpSerial + 1 }
  let d := d.each 64 fun p => dmpBlockPath p (seen p)
  let full := fullEnergy (1024 * d.avgWindow)
  let arr := ((List.range 64).map d.avgEnergy).foldl (· + ·) 0
  let d := d.set L.DMP_STAT_ARR_PWR (encodeSigned 16 (levelDb arr full))
  let on := fun (p : Nat) (d : Device) => d.pathState p != 0 && d.pathState p != 5
  if overLimit d.limArray arr full then
    let d := d.when (!d.dmpArray && d.dmpLoaded) fun d => d.event L.DMP_EVENT_ARRAY isleLANE 9 0x7F 0 5 []
    let items := fun (p : Nat) => dmpItems p 2 (d.get L.DMP_STAT_ARR_PWR) 16 (encodeSigned 16 d.limArray)
    { d with dmpArray := d.dmpLoaded }.each 64 fun p d => if on p d then dmpCauseWith (items p) p 2 none d else d
  else if underLimit d.limArray arr full then
    { d with dmpArray := false }.each 64 fun p d => dmpClear p 2 true d
  else d

/-- The Damper over the block that ends: a path that its last sample holds is forced from the next on (R312), and spans of zeros
more than a PK window back are left. -/
def dmpBlock (vs : List (Nat × List Cx)) (d : Device) : Device :=
  let was := fun (p : Nat) => d.on (L.DMP_PSTAT_FORCED p)
  (dmpJudge vs d).each 64 fun p d =>
    let c := d.dmpc p
    let c := if d.on (L.DMP_PSTAT_FORCED p) && !was p then { c with since := d.clk.blockTo } else c
    let c := { c with spans := c.spans.filter fun s => d.clk.blockTo < s.2 + 64 }
    if c == d.dmpc p then d else d.setDmp p c

/-! ## Trips, inhibit and the thermal trip -/

/-- The trip cause of every path a standing input maps to (R310). -/
def dmpTrips (d : Device) : Device := d.each 64 fun p d => if d.tripped p then dmpCause p 6 none d else d

/-- TRIPk is accepted high (R310, R315). -/
def tripHigh (k : Nat) (d : Device) : Device :=
  let d := d.set L.DMP_STAT_TRIP (putBits (d.get L.DMP_STAT_TRIP) k 1 1)
  if d.tripOn k && d.dmpLoaded then
    dmpTrips (d.event L.DMP_EVENT_TRIP isleLANE 9 0x7F 0 1 [(k, 16), (d.tripMap k, 8)])
  else d

/-- TRIPk is accepted low (R310). -/
def tripLow (k : Nat) (d : Device) : Device :=
  dmpSettleAll (d.set L.DMP_STAT_TRIP (putBits (d.get L.DMP_STAT_TRIP) k 1 0))

/-- TX_INHIBIT_N is accepted low (R311). -/
def inhibitLow (d : Device) : Device :=
  if d.on L.DMP_STAT_INHIBIT then d
  else
    let d := (d.set L.DMP_STAT_INHIBIT 1).event L.DMP_EVENT_INHIBIT isleLANE 9 0x7F 0 2 []
    burstRecheckAll (d.each 64 fun p d => dmpForce p (dmpShow p d))

/-- TX_INHIBIT_N is accepted high (R311). -/
def inhibitHigh (d : Device) : Device :=
  if d.on L.DMP_STAT_INHIBIT then
    let d := (d.set L.DMP_STAT_INHIBIT 0).event L.DMP_EVENT_INHIBIT isleLANE 9 0x7F 0 2 []
    d.each 64 dmpShow
  else d

/-- The internal thermal trip (R89, R302, R315). -/
def thermTrip (d : Device) : Device :=
  if d.on L.DMP_STAT_THERM then d
  else
    let d := (d.set L.DMP_STAT_THERM 1).event L.DMP_EVENT_THERM isleLANE 9 0x7F 0 5 []
    d.each 64 fun p d => dmpCause p 7 none d

/-- The trip re-arms (R89). -/
def thermClear (d : Device) : Device := dmpSettleAll (d.set L.DMP_STAT_THERM 0)

/-! ## Release -/

/-- COOL_LEFT reaches 0 (R313): ARMED, and the path is released.  In S2 a cooldown is held (R499). -/
def dmpCoolEnd (p : Nat) (d : Device) : Device :=
  if d.dmpState p = 2 && d.asleep != 2 then
    let d := ((d.set (L.DMP_PSTAT_STATE p) 0).set (L.DMP_PSTAT_COOL_LEFT p) 0).set (L.DMP_PSTAT_CAUSE p) 0
    pathRelease p ((dmpShow p d).event L.DMP_EVENT_RELEASE isleLANE 9 p 0 0 [])
  else d

/-- DMP_REARM (R314). -/
def dmpRearm (p : Nat) (d : Device) : Device :=
  let d := if d.dmpState p = 3 then dmpSettle p d else d
  if d.dmpState p = 3 && (d.dmpc p).stand = 0 then
    let d := d.setDmp p { d.dmpc p with coolFrom := d.ticks, coolMs := d.coolTime }
    dmpShow p ((d.set (L.DMP_PSTAT_STATE p) 2).set (L.DMP_PSTAT_COOL_LEFT p) d.coolTime)
  else d

/-- The ceilings are loaded (R305): every path leaves HELD for ARMED, and causes that stand are new causes. -/
def dmpLoad (d : Device) : Device :=
  if d.dmpLoaded then d
  else
    let d := { d with dmpLoaded := true }
    let d := d.each 64 fun p d => dmpShow p (d.set (L.DMP_PSTAT_STATE p) 0)
    let d := d.each 64 dmpAllow
    let d := (List.range 8).foldl (fun (d : Device) k =>
      if bitsOf (d.get L.DMP_STAT_TRIP) k 1 = 1 then tripHigh k d else d) d
    if d.on L.DMP_STAT_THERM then
      (d.event L.DMP_EVENT_THERM isleLANE 9 0x7F 0 5 []).each 64 fun p d => dmpCause p 7 none d
    else d

/-- A firmware limit has changed (R306, R308, R310): bands are checked at once, inputs newly mapped act. -/
def dmpLimits (d : Device) : Device := dmpTrips ((dmpSettleAll d).each 64 dmpAllow)

/-- A write of DMP_LIM2, whose TRIP_EN was `old` (R306, R310, R315): an input standing high that the write enables is reported
as the cause it becomes. -/
def dmpLimTrips (old : Nat) (d : Device) : Device :=
  dmpLimits ((List.range 8).foldl (fun (d : Device) k =>
    let was := bitsOf (d.get L.DMP_CEIL2_TRIP_EN) k 1 == 1 || bitsOf old k 1 == 1
    if d.tripOn k && !was && bitsOf (d.get L.DMP_STAT_TRIP) k 1 == 1 then tripHigh k d else d) d)

/-- A write of a word of DMP_LIM_TMAP, whose maps were `old` (R306, R310, R315): an input standing high that it maps to further
groups is reported as the cause it becomes. -/
def dmpLimMaps (w old : Nat) (d : Device) : Device :=
  dmpLimits ((List.range 4).foldl (fun (d : Device) j =>
    let k := 4 * w + j
    let ceil := bitsOf (d.get (L.DMP_CEIL_TMAP_MAP w)) (8 * j) 8
    let was := ceil ||| bitsOf old (8 * j) 8
    if d.tripOn k && d.tripMap k ||| was != was && bitsOf (d.get L.DMP_STAT_TRIP) k 1 == 1 then
      tripHigh k d else d) d)

/-! ## Meanings -/

/-- DAMPER_PK_BREAK (R302, R312). -/
def execDamperPkBreak (p : Nat) (v : List (Int × Int)) (s : State) : Host.Outcome State Fault Refusal :=
  actDev (.damperPkBreak p v) s (dmpPk p v)
/-- DAMPER_GRANT_BREAK (R309). -/
def execDamperGrantBreak (p k : Nat) (s : State) : Host.Outcome State Fault Refusal :=
  actDev (.damperGrantBreak p k) s (dmpGrant p k)
/-- DAMPER_CAUSE_CLEAR (R304, R313). -/
def execDamperCauseClear (p : Nat) (v : List (Int × Int)) (s : State) : Host.Outcome State Fault Refusal :=
  actDev (.damperCauseClear p v) s (dmpCauseClear p v)
/-- DAMPER_COOLDOWN_END (R313). -/
def execDamperCooldownEnd (p : Nat) (s : State) : Host.Outcome State Fault Refusal :=
  actDev (.damperCooldownEnd p) s (dmpCoolEnd p)
/-- TRIP_ACCEPTED_HIGH (R310). -/
def execTripAcceptedHigh (k : Nat) (s : State) : Host.Outcome State Fault Refusal :=
  actDev (.tripAcceptedHigh k) s (tripHigh k)
/-- TRIP_ACCEPTED_LOW (R310). -/
def execTripAcceptedLow (k : Nat) (s : State) : Host.Outcome State Fault Refusal :=
  actDev (.tripAcceptedLow k) s (tripLow k)
/-- TX_INHIBIT_LOW (R311). -/
def execTxInhibitLow (s : State) : Host.Outcome State Fault Refusal := actDev .txInhibitLow s inhibitLow
/-- TX_INHIBIT_HIGH (R311). -/
def execTxInhibitHigh (s : State) : Host.Outcome State Fault Refusal := actDev .txInhibitHigh s inhibitHigh
/-- THERMAL_TRIP (R89). -/
def execThermalTrip (s : State) : Host.Outcome State Fault Refusal := actDev .thermalTrip s thermTrip
/-- THERMAL_TRIP_CLEAR (R89). -/
def execThermalTripClear (s : State) : Host.Outcome State Fault Refusal := actDev .thermalTripClear s thermClear
/-- COEX_INPUT_ACCEPTED (R275, R276, R309). -/
def execCoexInputAccepted (k pin level : Nat) (s : State) : Host.Outcome State Fault Refusal :=
  actDev (.coexInputAccepted k pin level) s fun d => dmpSettleAll (coexAccept k pin level d)
/-- COEX_STUCK (R276, R309). -/
def execCoexStuck (k pin : Nat) (s : State) : Host.Outcome State Fault Refusal :=
  actDev (.coexStuck k pin) s fun d => dmpSettleAll (coexStuck k pin d)
/-- COEX_DELAYED_EDGE (R276). -/
def execCoexDelayedEdge (k : Nat) (s : State) : Host.Outcome State Fault Refusal :=
  actDev (.coexDelayedEdge k) s fun d => dmpSettleAll (coexDelayed k d)

end Sys2Proof.Machine
end

