-- ==== Sys2Proof/Machine/Cal.lean ====
section
/-! DEFINITION. The calibration sequencer: runs, their steps, results and trims (R282–R301, R524–R526). -/
namespace Sys2Proof.Machine

/-! ## Which runs -/

/-- The path's uplink is in service, and the path is neither in RETURN nor in OUT (R259, R289; log 104). -/
def Device.calInService (d : Device) (p : Nat) : Bool :=
  d.on (L.PATH_STAT_RXS p) && d.pathState p != 1 && d.pathState p != 5

/-- The run measures only inside a window (R289). -/
def Device.calWindowed (d : Device) (r : CalRun) : Bool :=
  match r.kind with
  | 1 => d.calInService r.path
  | 2 => d.calInService r.path
  | 4 => false
  | _ => true

/-- The carriers whose GRID banks a run writes (R300). -/
def Device.calCarriers (d : Device) (kind : Nat) : List Nat :=
  (if kind = 5 then [4, 5, 6, 7] else if kind = 6 then [0, 1, 2, 3] else []).filter fun i => (d.grd i).of.live

/-- The trim groups a run writes (R290). -/
def Device.calGroups (d : Device) (r : CalRun) : List XfObj :=
  match r.kind with
  | 1 => [.rxa r.path]
  | 2 => [.lane r.path]
  | 3 => [.lane r.path]
  | k => (d.calCarriers k).map .grid

/-- The staged bank of a trim group (R285). -/
def Device.staged (d : Device) (o : XfObj) : Nat := 1 - d.xfActive o

/-- The bank is held by the run in progress (R292). -/
def Device.calHolds (d : Device) (o : XfObj) (bank : Nat) : Bool :=
  match d.cal.running with
  | some r => (d.calGroups r).contains o && bank == d.staged o
  | none => false

/-! ## The queue -/

/-- CAL_RUN.GO (R290, R291). -/
def calGo (apply fade kind path : Nat) (d : Device) : Device :=
  if kind = 0 || 6 < kind || 8 < fade then d.set L.CAL_RSTAT_STATUS 1
  else if 16 ≤ d.cal.queue.length then d.set L.CAL_RSTAT_STATUS 2
  else
    let r : CalRun := ⟨kind, path, apply == 1, fade, 0⟩
    ({ d with cal := { d.cal with queue := d.cal.queue ++ [r] } }).set L.CAL_RSTAT_QLEN (d.cal.queue.length + 1)

/-- Background runs are due (R296): those of the last interval that still wait outside the queue give way to the new ones. -/
def calBackground (d : Device) : Device :=
  if d.on L.CAL_CFG_BG_EN then
    let mk := fun (k p : Nat) => (⟨k, p, true, d.get L.CAL_CFG_BG_FADE, 2⟩ : CalRun)
    let on := (List.range 64).filter fun p => d.on (L.PATH_STAT_RXS p) || d.on (L.PATH_STAT_TXS p)
    let runs := [mk 5 (d.get L.CAL_ALIGN_REF_PATH)] ++ (List.range 8).map (fun k => mk 4 (8 * k)) ++
      on.flatMap fun p => [mk 2 p, mk 3 p, mk 6 p]
    calRefill { d with cal := { d.cal with bg := runs } }
  else d

/-- A step's precondition segment begins with the Pilot off (R290, R293): the observation receiver is asked for (R291). -/
def calStep (r : CalRun) (d : Device) : Device :=
  let d := (pilotOff d).set L.CAL_RSTAT_STATE 1
  match r.obs with
  | some k => capAsk ⟨8 * k + r.path % 8, 0, if r.origin = 2 then .bgCal else .cal⟩ d
  | none => d

/-- A run ends OK (R292): DONE, and RETURN goes on (R272). -/
def calDone (r : CalRun) (d : Device) : Device :=
  let d := (calIdle 0 d).calEvent L.CAL_EVENT_DONE r.path 0 []
  calRefill (d.when (r.origin == 1) (retAdvance r.path))

/-- An alignment's reference is in service (R297). -/
def Device.calRefOk (d : Device) (r : CalRun) : Bool :=
  let ref := d.get L.CAL_ALIGN_REF_PATH
  !(r.kind == 5 || r.kind == 6) || (d.on (L.PATH_STAT_RXS ref) && d.on (L.PATH_STAT_TXS ref))

/-- The head of the queue starts (R291); a run whose transmitter has a trial running waits.  An alignment against itself ends
OK at once (R524), one whose reference is not in service ends NOT_READY (R297). -/
def calStart (d : Device) : Device :=
  if d.cal.running.isSome then d
  else match d.cal.queue.find? fun r => (d.calTxPaths r).all fun p => d.trialState p == 0 with
    | none => d
    | some r =>
      let q := d.cal.queue.erase r
      let d := { d with cal := { d.cal with queue := q, running := some r, retries := 0, repeats := 0, second := false } }
      let d := calRefill (d.set L.CAL_RSTAT_QLEN q.length)
      let d := ((d.set L.CAL_RSTAT_KIND r.kind).set L.CAL_RSTAT_PATH r.path).set L.CAL_RSTAT_SEG 0
      let align := r.kind == 5 || r.kind == 6
      if align && r.origin == 1 && r.path == d.get L.CAL_ALIGN_REF_PATH then calDone r d
      else if !d.calRefOk r then calFail 3 d
      else
        if d.calWindowed r then d.set L.CAL_RSTAT_STATE 2 else calStep r d

/-- The symbol at index `n` of the frame is marked F (R260). -/
def AirPat.isF (a : AirPat) (n : Nat) : Bool :=
  let i := n % a.nsym
  2 ≤ bitsOf (a.syms.getD (i / 16) 0) (2 * (i % 16)) 2

/-- The end of the run of F symbols in a frame that begins `base` after this one's boundary, carried on from the run so far: its
end and whether it has been broken, in 1/3,840 ns. -/
def AirPat.runF (a : AirPat) (base now : Nat) (acc : Nat × Bool) : Nat × Bool :=
  let start := fun (n : Nat) => base + (if n = a.grid.perFrame then 2457600 else a.grid.frameTicks n) * 15625
  (List.range a.grid.perFrame).foldl (fun acc n =>
    if start (n + 1) ≤ now || acc.2 then acc
    else if a.isF n then (start (n + 1), false) else (acc.1, true)) acc

/-- From now to the end of the window in progress, in 1/3,840 ns: the F symbols that follow without a break, into the next frame
too, less CW_MARGIN (R289). -/
def Device.windowSpan (d : Device) : Nat :=
  let (e, _) := d.airAhead.runF frameLen d.inFrame (d.air.runF 0 d.inFrame (0, false))
  e - d.get L.CAL_CFG_CW_MARGIN * 3840000 - d.inFrame

/-- The same in LANE samples, rounded up. -/
def Device.windowLeft (d : Device) : Nat :=
  let unit := if d.lowPower then 5000 else 2500
  (d.windowSpan + unit - 1) / unit

/-- Measurement segments of a step (R290, R299). -/
def CalRun.segments (r : CalRun) : Nat := if r.kind = 1 || r.kind = 4 || r.kind = 6 then 16 else 8

/-- From the start of a step to its end, in 1/3,840 ns (R290, R291, R295): the settling of a switch move, the precondition
segment, the earliest ON instant of the measured transmitters, and the measurement segments. -/
def Device.stepSpan (d : Device) (r : CalRun) : Nat :=
  let moves := match r.obs with
    | some k => d.get (L.RXADC_OBS_SEL_ACTIVE k) != d.calSel r.path
    | none => false
  let lead := (d.calTxPaths r).foldl (fun m p => max m (-(signedOf 16 ((d.pathc p).lna / 65536))).toNat) 0
  (bit moves * 384 + 4096 * (1 + r.segments)) * (if d.lowPower then 5000 else 2500) + lead * 5000

/-- The measurement segments still to come in a step, in 1/3,840 ns. -/
def Device.segSpan (d : Device) (r : CalRun) : Nat :=
  4096 * (if r.kind = 6 && d.cal.second then 8 else r.segments) * (if d.lowPower then 5000 else 2500)

/-- An RX run in FDD marks the uplink samples of the paths it measures for the window (R183, R289). -/
def calMarkUplink (r : CalRun) (d : Device) : Device :=
  if d.air.fdd && (r.kind == 1 || r.kind == 2 || r.kind == 5) then
    (d.calReceivers r).foldl (fun d p => rxDisturb p 2 d.windowLeft d) d
  else d

/-- In FDD the transmitters to be measured are muted (R289, R293). -/
def calMute (r : CalRun) (d : Device) : Device :=
  d.when d.air.fdd fun d => (d.calTxPaths r).foldl (fun d p => setPathMute p true d) d

/-- A calibration window begins (R289): a waiting run measures if its whole step fits.  In FDD the measured transmitters are
muted, or the measured path's uplink samples are marked. -/
def calWindow (d : Device) : Device :=
  match d.cal.running with
  | some r =>
    if d.get L.CAL_RSTAT_STATE = 2 && d.stepSpan r ≤ d.windowSpan then
      calMute r (calMarkUplink r (calStep r d))
    else d
  | none => d

/-! ## Steps -/

/-- Check 3 of R293 on a measured transmitter. -/
def Device.calTxReady (d : Device) (p : Nat) : Bool :=
  d.txState p == 3 && !d.on (L.TXDAC_MUTE_MUTE p) && d.pathState p != 4 && (d.burstCause p).isNone

/-- Checks 1 to 3 of R293, and the reference of R297. -/
def Device.calReady (d : Device) (r : CalRun) : Bool :=
  d.calRefOk r && d.get L.CLK_STAT_MSTATE == 4 && !d.clk.outage && !d.clk.txOutage &&
    (d.calReceivers r).all (fun n => d.rxState n == 3) &&
    (d.calTxPaths r).all d.calTxReady

/-- The highest power at any receiver of a run over the precondition segment, in 1/64 dBFS (R293): the last 4,096 ÷4 samples,
as of the last block boundary (log 129). -/
def Device.prePower (d : Device) (r : CalRun) : Int :=
  (d.calReceivers r).foldl (fun m n =>
    max m (levelDb (((lastOf 4096 (d.rxs n).front).map cxNorm).foldl (· + ·) 0) (4096 * 32767 ^ 2))) (-8192)

/-- Every word of the receivers since the measurement segments began carries VALID (R294); the segments of OBS_MATCH follow the
settling of its switch moves (R290). -/
def Device.segmentsValid (d : Device) (r : CalRun) : Bool :=
  (d.calReceivers r).all fun n => d.rxSampling n &&
    (d.rxs n).gaps.all fun g => d.laneNow ≤ g.1 || g.2 ≤ d.cal.segFrom || (r.kind == 4 && g.2 == g.1 + 384)

/-- The OBS of the run is its own (R291). -/
def Device.calHasObs (d : Device) (r : CalRun) : Bool :=
  match r.obs with
  | some k =>
    match (d.capc k).running with
    | some c => c.kind == .cal || c.kind == .bgCal
    | none => false
  | none => true

/-- The RXINJ route to one receive input (R287). -/
def rxInject (p : Nat) (d : Device) : Device :=
  (d.set L.CAL_RXINJ_LO_MASK_LO (if p < 32 then 2 ^ p else 0)).set L.CAL_RXINJ_HI_MASK_HI (if p < 32 then 0 else 2 ^ (p - 32))

/-- The Pilot and its routes as a run sets them (R286, R287, R290).  0.35 F_L is no whole number of FTW units: the spec states no
rounding, so the last unit is a free value (log 22); CM and CSP of the combs it does not give are free values, and the centres
it does not give are those of log 140. -/
def calPilot (r : CalRun) (d : Device) : Device :=
  let tune := fun (mode ftw : Nat) (d : Device) =>
    ((d.set L.CAL_PILOT_MODE mode).set L.CAL_PILOT_LO_FTW_LO ftw).set L.CAL_PILOT_HI_FTW_HI (ftw / 2 ^ 32)
  let comb := fun (ftw : Nat) (d : Device) =>
    let (x, d) := d.draw
    let (y, d) := d.draw
    tune 2 ftw ((d.set L.CAL_PILOT_CM x).set L.CAL_PILOT_CSP y)
  match r.kind with
  | 1 =>
    let (x, d) := d.draw
    let fl := if d.lowPower then 2 ^ 44 else 2 ^ 45
    rxInject r.path (tune 1 (centreFtw (d.centreOf r.path) + 7 * fl / 20 + x % 2) d)
  | 2 => rxInject r.path (tune 2 (centreFtw (d.centreOf r.path)) ((d.set L.CAL_PILOT_CM 6).set L.CAL_PILOT_CSP 4))
  | 5 => (comb (centreFtw (d.centreOf (d.get L.CAL_ALIGN_REF_PATH))) d).set L.CAL_PILOT_CALOUT 1
  | _ => comb (d.txc (d.calTxPath.getD r.path)).ftw d

/-- The TXINJ route of the transmitter in hand is connected (R307, R308): a span outside the bands is refused, its path takes the
hold cause, and the run ends. -/
def calConnect (d : Device) : Device :=
  match d.calTxPath with
  | some p => if d.txinjAllowed then dmpAllow p d else calFail 8 (dmpAllow p (damperRefuse p d.pilotFtw d))
  | none => d

/-- The precondition segment ends (R293). -/
def calPre (d : Device) : Device :=
  match d.cal.running with
  | some r =>
    if d.get L.CAL_RSTAT_STATE = 1 && d.calHasObs r then
      if !d.calReady r then calFail 3 d
      else if d.getS L.CAL_PRE_PRE_MAX < d.prePower r then
        if d.cal.retries < d.get L.CAL_CFG_PRE_RETRY then
          let d := calObsFree (calUnmute { d with cal := { d.cal with retries := d.cal.retries + 1 } })
          let d := (d.inc L.CAL_CNT_RETRIES).calEvent L.CAL_EVENT_RETRY r.path 2 []
          if d.calWindowed r then d.set L.CAL_RSTAT_STATE 2 else calStep r d
        else calFail 4 d
      else
        let d := ((calPilot r d).inc L.CAL_RSTAT_SEG).set L.CAL_RSTAT_STATE 3
        calConnect { d with cal := { d.cal with segFrom := d.laneNow } }
    else d
  | none => d

/-- The measurement segments of a transmitter or of the step end (R290, R294, R299): a segment with invalid samples is
repeated, in the next window where this one has no room for it, and the third repeat ends the run (R289).  ALIGN_TX goes on from the reference to its path in the same step (log 129). -/
def calMeasured (d : Device) : Device :=
  match d.cal.running with
  | some r =>
    if d.get L.CAL_RSTAT_STATE = 3 then
      if !d.segmentsValid r then
        if d.cal.repeats < 2 then
          let d := { d with cal := { d.cal with repeats := d.cal.repeats + 1, segFrom := d.laneNow } }
          if d.calWindowed r && d.windowSpan < d.segSpan r then calWaitAgain d else d
        else calFail 7 d
      else
        let d := d.addSat L.CAL_RSTAT_SEG (if r.kind = 6 then 8 else r.segments)
        if r.kind = 6 && !d.cal.second then
          let ref := d.get L.CAL_ALIGN_REF_PATH
          let d := calTxOff d
          let d := d.when d.air.fdd (setPathMute ref true)
          let d := { d with cal := { d.cal with second := true, repeats := 0, segFrom := d.laneNow } }
          if d.calTxReady r.path then calConnect (calPilot r d) else calWaitAgain d
        else
          let d := pilotOff (calTxOff (calUnmute d))
          let d := (calObsFree d).set L.CAL_RSTAT_STATE 4
          d.when (r.kind == 4) (obsSelect (r.path / 8) 15)
    else d
  | none => d

/-! ## Results (R292, R300, R301) -/

/-- Two gains in Q2.14 differ by more than 0.05 dB or 0.5° (R296): the magnitude ratio against 10^0.005, and the angle against
tan 0.5°, each to twelve digits. -/
def gainDiffers (a b c e : Int) : Bool :=
  let p := a * a + b * b
  let q := c * c + e * e
  let cross := a * e - b * c
  let dot := a * c + b * e
  1011579454260 * min p q < 10 ^ 12 * max p q || dot ≤ 0 && cross != 0 || 8726867791 * dot < 10 ^ 12 * (cross.natAbs : Int)

/-- Two slopes differ by more than 1 ps across the carrier's grid (R296). -/
def slopeDiffers (mu : Nat) (a b : Int) : Bool := 15000 * 2 ^ mu * 2 ^ 24 < (a - b).natAbs * 10 ^ 12

/-- Check 6 of R293. -/
def Device.calInRange (d : Device) (r : CalRun) (c : CalData) : Bool :=
  let part := fun (z : Int) => -32768 ≤ z && z ≤ 32767
  match r.kind with
  | 1 => c.skt.all fun z => -127 ≤ z && z ≤ 127
  | 2 | 3 =>
    let m := c.re * c.re + c.im * c.im
    part c.re && part c.im && 2 ^ 26 ≤ m && m * 10000 ≤ 39601 * 2 ^ 28
  | 5 | 6 => c.grid.all fun g => !(d.calCarriers r.kind).contains g.carrier ||
      (part g.re && part g.im && part g.slope)
  | _ => true

/-- The word of a complex value (R282). -/
def cword (re im : Int) : Nat := encodeSigned 16 re + encodeSigned 16 im * 65536

/-- The active bank copied into the staged bank (R292). -/
def calCopy (o : XfObj) (d : Device) : Device :=
  let a := d.xfActive o
  let b := d.staged o
  let cp := fun (x y : Nat) (d : Device) => d.wr y (d.rd x)
  match o with
  | .rxa n => cp (A.CAL_RXA_BUFG n a) (A.CAL_RXA_BUFG n b)
      (d.each 9 fun s => cp (A.CAL_RXA_SKT n a s) (A.CAL_RXA_SKT n b s))
  | .lane p => cp (A.CAL_LANE_TXG p a) (A.CAL_LANE_TXG p b) (cp (A.CAL_LANE_RXG p a) (A.CAL_LANE_RXG p b) d)
  | .grid i => d.each 64 fun e d =>
      cp (A.CAL_GRID_SLOPE i a e) (A.CAL_GRID_SLOPE i b e) (cp (A.CAL_GRID_GE i a e) (A.CAL_GRID_GE i b e) d)
  | _ => d

/-- The LANE gain that TX_LOOP sets: TXG in force times 10^((CAL_TXREF − GAIN) / 1,280), which brings the loop gain to CAL_TXREF
(R290); the rounding is open, and the gain is taken as CAL_RES shows it (log 129). -/
def Device.loopGain (d : Device) (r : CalRun) (c : CalData) : CalData :=
  if r.kind = 3 then
    let a := d.xfActive (.lane r.path)
    let ratio : Int := (dbPower 128 (d.getS L.CAL_TXREF_GAIN - signedOf 16 c.gain) : Nat)
    let g := cxRound (2 ^ 80) (cxScale ratio (iqOf (d.rd (A.CAL_LANE_TXG r.path a))))
    { c with re := g.1, im := g.2 }
  else c

/-- What CAL_NET holds for path `p` beyond the reference: gain in 1/64 dB and delay in ps (R297). -/
def Device.netBeyond (d : Device) (p : Nat) : Int × Int :=
  let ref := d.get L.CAL_ALIGN_REF_PATH
  (d.getS (L.CAL_NET_GAIN p) - d.getS (L.CAL_NET_GAIN ref), d.getS (L.CAL_NET_DLY p) - d.getS (L.CAL_NET_DLY ref))

/-- The chain of path `p` on a carrier of the bank numbering of R282. -/
def carrierChain (carrier p : Nat) : Nat := if carrier < 4 then duc p carrier else ddc p (carrier - 4)

/-- A GRID result relative to the reference, the network's branch taken out of it (R297; log 141): the gain and the phase that its
delay has at the carrier's centre, and the slope of the delay. -/
def Device.netRemoved (d : Device) (all : List GridTrim) (g : GridTrim) : GridTrim :=
  let found := all.find? fun x => x.carrier == g.carrier && x.elem == d.get L.CAL_ALIGN_REF_PATH && cxNorm (x.re, x.im) != 0
  let (z, slope) := match found with
    | some x => ((x.re, x.im), x.slope)
    | none => ((16384, 0), 0)
  let (gain, delay) := d.netBeyond g.elem
  let turn : Int := ((d.chn (carrierChain g.carrier g.elem)).ftw : Int) * delay * 12288 / 10 ^ 6
  let ratio := cxMul (cxMul (g.re, g.im) (cxConj z)) (turnExact (-turn))
  let v := cxRound (cxNorm z * 2 ^ 120) (cxScale (16384 * dbPower 128 gain : Nat) ratio)
  { g with
    re := v.1, im := v.2
    slope := g.slope - slope - roundOpen (10 ^ 12) (delay * (15000 * 2 ^ (d.grd g.carrier).of.mu * 2 ^ 24 : Nat)) }

/-- The results of an alignment relative to the reference, CAL_NET taken out (R297). -/
def Device.netRelative (d : Device) (r : CalRun) (c : CalData) : CalData :=
  if r.kind = 5 || r.kind = 6 then { c with grid := c.grid.map (d.netRemoved c.grid) } else c

/-- A result changes what is in force enough to be applied: always, but for a background run (R296). -/
def calDiffers (r : CalRun) (re im re' im' : Int) : Bool := r.origin != 2 || gainDiffers re im re' im'

/-- The new values of one group in its staged bank; the second answer says whether any changed. -/
def calWrite (r : CalRun) (c : CalData) (o : XfObj) (d : Device) : Device × Bool :=
  let a := d.xfActive o
  let b := d.staged o
  match o with
  | .rxa n => ((List.range 9).foldl (fun d s => d.set (L.CAL_RXA_SKT_SKT n b s) (encodeSigned 8 (c.skt.getD s 0))) d, true)
  | .lane p =>
    if r.kind = 2 then
      if calDiffers r c.re c.im (d.getS (L.CAL_LANE_RXG_I p a)) (d.getS (L.CAL_LANE_RXG_Q p a)) then
        (d.wr (A.CAL_LANE_RXG p b) (cword c.re c.im), true) else (d, false)
    else if calDiffers r c.re c.im (d.getS (L.CAL_LANE_TXG_I p a)) (d.getS (L.CAL_LANE_TXG_Q p a)) then
      (d.wr (A.CAL_LANE_TXG p b) (cword c.re c.im), true) else (d, false)
  | .grid i =>
    (c.grid.filter fun g => g.carrier == i).foldl (fun (x : Device × Bool) g =>
      let (d, any) := x
      let far := slopeDiffers (d.grd i).of.mu g.slope (d.getS (L.CAL_GRID_SLOPE_SLOPE i a g.elem))
      if far || calDiffers r g.re g.im (d.getS (L.CAL_GRID_GE_I i a g.elem)) (d.getS (L.CAL_GRID_GE_Q i a g.elem)) then
        ((d.wr (A.CAL_GRID_GE i b g.elem) (cword g.re g.im)).set (L.CAL_GRID_SLOPE_SLOPE i b g.elem) (encodeSigned 16 g.slope), true)
      else (d, any)) (d, false)
  | _ => (d, false)

/-- The chains of path `p` an alignment writes CH_DELAY of (R300): every enabled one of a path in RETURN, else those of its
time-domain carriers. -/
def Device.calChains (d : Device) (r : CalRun) (p : Nat) : List Nat :=
  let of := fun (c : Nat) => if r.kind = 5 then ddc p c else duc p c
  let car := fun (c : Nat) => if r.kind = 5 then 4 + c else c
  if r.kind != 5 && r.kind != 6 then []
  else if r.ofReturn then
    if p = r.path then ((List.range 4).map of).filter fun k => (chanCfg k (d.chn k).cfg).en else []
  else ((List.range 4).filter fun c => (d.grd (car c)).of.en && (d.grd (car c)).of.td && (d.grd (car c)).of.has p).map of

/-- CH_DELAY of the chains that an alignment writes, in 1/256 LANE sample (R297, R300; log 141): that of the reference's own
chain, and the delay by which the path's result exceeds the reference's, CAL_NET taken out. -/
def Device.chainDelays (d : Device) (r : CalRun) (c : CalData) : List (Nat × Int) :=
  let ref := d.get L.CAL_ALIGN_REF_PATH
  let base := tabGet c.chains 0 ref
  c.chains.flatMap fun x => (d.calChains r x.1).map fun k =>
    let own := (d.chn (carrierChain (if r.kind = 5 then 4 + k % 4 else k % 4) ref)).delay % 65536
    let net := roundOpen (10 ^ 6) ((d.netBeyond x.1).2 * (if d.lowPower then 196608 else 393216))
    (k, (own : Int) + x.2 - base + net)

/-- CAL_RES (R290, R301). -/
def calReport (r : CalRun) (c : CalData) (d : Device) : Device :=
  if r.kind = 2 || r.kind = 3 || r.kind = 4 then
    (((d.set L.CAL_RES_GP_GAIN c.gain).set L.CAL_RES_GP_PHASE c.phase).set L.CAL_RES_DS_SNR c.snr).set L.CAL_RES_DS_DELAY c.delay
  else d

/-- The corrections of OBS_MATCH (R301). -/
def calObsWrite (r : CalRun) (c : CalData) (d : Device) : Device :=
  if r.kind = 4 then
    ((List.range 8).zip c.obs).foldl (fun d (j, x) =>
      (d.wr (A.CAL_OBSCOR (8 * (r.path / 8) + j)) x.1).set (L.CAL_OBSDLY_DLY (8 * (r.path / 8) + j)) x.2) d
  else d

/-- Computation ends (R292): the checks, then the banks written and, with APPLY, submitted at the next boundary.  CH_DELAY is
written where the results are applied, by a background run where it changes: its unit is above 1 ps (R296, R300). -/
def calEnd (c : CalData) (d : Device) : Device :=
  match d.cal.running with
  | some r =>
    if d.get L.CAL_RSTAT_STATE = 4 then
      let c := d.netRelative r (d.loopGain r c)
      let delays := d.chainDelays r c
      let d := calReport r c d
      let groups := d.calGroups r
      if c.snr < d.get L.CAL_PRE_SNR_MIN then calFail 5 d
      else if !d.calInRange r c || delays.any fun x => x.2 < 0 || 65535 < x.2 then calFail 6 d
      else if groups.any fun o => d.xfBusy o (d.staged o) then calFail 11 d
      else
        let d := groups.foldl (fun d o =>
          let (d, changed) := calWrite r c o (calCopy o d)
          if r.apply && changed then xfRequest o (d.staged o) r.fade 0 0 d else d) (calObsWrite r c d)
        let d := (delays.filter fun x => r.apply && (r.origin != 2 || x.2.toNat != (d.chn x.1).delay % 65536)).foldl (fun d x =>
          chanGo x.1 0 0 ((d.set (L.CH_DELAY_DI x.1) (x.2.toNat / 256)).set (L.CH_DELAY_DF x.1) x.2.toNat)) d
        calDone r d
    else d
  | none => d

/-- No usable window within CW_TMO (R294). -/
def calNoWindow (d : Device) : Device :=
  if d.get L.CAL_RSTAT_STATE = 1 || d.get L.CAL_RSTAT_STATE = 2 then calFail 9 d else d

/-- A request that CAL_APPLY makes for a GRID group (R53, R285): a block in the past half of the frame starts it at the next
symbol, and LATE is set. -/
def calApplyGrid (o : XfObj) (i fade at' : Nat) (d : Device) : Device :=
  let n := d.blocksPerFrame
  let ahead := (at' + n - d.block) % n
  if d.blockLimit ≤ at' then xfRefuse o (d.staged o) fade at' d
  else if ahead = 0 || n < 2 * ahead then
    (xfRequest o (d.staged o) fade 0 0 d).when (fade ≤ 8) fun d => d.set (xfField o 28 1) 1
  else xfRequest o (d.staged o) fade 1 (d.firstSymAt i (atBlockFromNow at' d)) d

/-- CAL_APPLY.GO (R285): one request for each group named, all with the same FADE. -/
def calApply (fade path at' : Nat) (d : Device) : Device :=
  let one := fun (o : XfObj) (d : Device) => xfRequest o (d.staged o) fade 1 at' d
  let d := d.when (d.on L.CAL_APPLY_GRP_RXA) (one (.rxa path))
  let d := d.when (d.on L.CAL_APPLY_GRP_TXA) (one (.txa path))
  let d := d.when (d.on L.CAL_APPLY_GRP_LANE) (one (.lane path))
  d.each 8 fun i d =>
    if bitsOf (d.get L.CAL_APPLY_GRP_GRID) i 1 = 1 then calApplyGrid (.grid i) i fade at' d else d

/-! ## Meanings -/

/-- CAL_RUN_START (R291). -/
def execCalRunStart (s : State) : Host.Outcome State Fault Refusal := actDev .calRunStart s calStart
/-- CAL_WINDOW_START (R289). -/
def execCalWindowStart (s : State) : Host.Outcome State Fault Refusal := actDev .calWindowStart s calWindow
/-- CAL_PRECONDITION_DONE (R293). -/
def execCalPreconditionDone (s : State) : Host.Outcome State Fault Refusal := actDev .calPreconditionDone s calPre
/-- CAL_MEASUREMENT_DONE (R290, R294). -/
def execCalMeasurementDone (s : State) : Host.Outcome State Fault Refusal := actDev .calMeasurementDone s calMeasured
/-- CAL_RUN_END (R292, R300, R301). -/
def execCalRunEnd (c : CalData) (s : State) : Host.Outcome State Fault Refusal :=
  actDev (.calRunEnd c) s (calEnd c)
/-- CAL_NO_WINDOW (R294). -/
def execCalNoWindow (s : State) : Host.Outcome State Fault Refusal := actDev .calNoWindow s calNoWindow
/-- BG_CAL_INTERVAL (R296). -/
def execBgCalInterval (s : State) : Host.Outcome State Fault Refusal := actDev .bgCalInterval s calBackground

end Sys2Proof.Machine
end

