-- ==== Sys2Proof/Machine/Frame.lean ====
section
/-! DEFINITION. Ethernet frames as bytes: fields in network order, the headers the PORT island reads, and the insertions it
makes (R11, R320, R321, R333–R337, R374). -/
namespace Sys2Proof.Machine

/-- The byte at an offset, 0 beyond the end. -/
def byteAt (bs : List Byte) (k : Nat) : Nat := ((bs.drop k).headD 0).toNat

/-- `n` bytes at an offset, most significant first (R334). -/
def beAt (bs : List Byte) (k : Nat) : Nat → Nat
  | 0 => 0
  | n + 1 => byteAt bs k * 2 ^ (8 * n) + beAt bs (k + 1) n

/-- The `n` bytes of a value, most significant first. -/
def beBytes (n v : Nat) : List Byte := (bytesOf n v).reverse

/-- Bytes replaced from an offset on; the length stays. -/
def bytesPut (bs : List Byte) (k : Nat) (v : List Byte) : List Byte :=
  (bs.take k ++ v ++ bs.drop (k + v.length)).take bs.length

/-- The frame carries one 802.1Q tag before its EtherType. -/
def isTagged (f : List Byte) : Bool := beAt f 12 2 == 0x8100
/-- Offset of the EtherType. -/
def typeOff (f : List Byte) : Nat := if isTagged f then 16 else 12
/-- The EtherType. -/
def etherType (f : List Byte) : Nat := beAt f (typeOff f) 2
/-- What follows the EtherType. -/
def etherBody (f : List Byte) : List Byte := f.drop (typeOff f + 2)

/-- Past the IPv6 extension headers: the next header, its offset in the IPv6 packet, and whether any was passed.
Hop-by-hop, routing and destination options carry their length; a fragment header has 8 bytes. -/
def ipWalk (p : List Byte) : Nat → Nat → Nat → Bool → Nat × Nat × Bool
  | 0, nh, off, ext => (nh, off, ext)
  | fuel + 1, nh, off, ext =>
    if nh == 0 || nh == 43 || nh == 60 then
      if off + 8 ≤ p.length then ipWalk p fuel (byteAt p off) (off + 8 * (byteAt p (off + 1) + 1)) true else (nh, off, ext)
    else if nh == 44 then
      if off + 8 ≤ p.length then ipWalk p fuel (byteAt p off) (off + 8) true else (nh, off, ext)
    else (nh, off, ext)

/-- The UDP header of an IPv6 packet: its offset, and whether extension headers lie ahead of it. -/
def udpOf (p : List Byte) : Option (Nat × Bool) :=
  if 40 ≤ p.length then
    let (nh, off, ext) := ipWalk p 16 (byteAt p 6) 40 false
    if nh == 17 && off + 8 ≤ p.length then some (off, ext) else none
  else none

/-- A class of R321. -/
inductive FrameClass where
  | gst
  /-- Offset of the PTP header in the frame, and IPv6 extension headers ahead of UDP. -/
  | ptp (off : Nat) (ext : Bool)
  | nd
deriving DecidableEq, Repr

/-- The class of a frame (R321, R335): Gastad subtype 0xFC, PTP by Annex F or Annex E, ICMPv6 types 133–137. -/
def classOf (f : List Byte) : Option FrameClass :=
  let b := etherBody f
  let base := typeOff f + 2
  if etherType f == 0xFC3D then if byteAt b 0 == 0xFC && 1 ≤ b.length then some .gst else none
  else if etherType f == 0x88F7 then some (.ptp base false)
  else if etherType f == 0x86DD then
    match udpOf b with
    | some (u, ext) =>
      let port := beAt b (u + 2) 2
      if port == 319 || port == 320 then some (.ptp (base + u + 8) ext) else none
    | none =>
      if 40 < b.length && byteAt b 6 == 58 && 133 ≤ byteAt b 40 && byteAt b 40 ≤ 137 then some .nd else none
  else none

/-- The PTP header that the device can locate for an insertion (R333, R374): not behind IPv6 extension headers, and whole. -/
def ptpHeader (f : List Byte) : Option Nat :=
  match classOf f with
  | some (.ptp off false) => if off + 34 ≤ f.length then some off else none
  | _ => none

/-- Offset of the RoE header (R334). -/
def roeOff (f : List Byte) : Nat := typeOff f + 2
/-- flowID (R335). -/
def roeFlow (f : List Byte) : Nat := byteAt f (roeOff f + 1)
/-- SEQ (R335). -/
def roeSeq (f : List Byte) : Nat := beAt f (roeOff f + 4) 4
/-- Length from the Gastad header on (R335). -/
def roeLen (f : List Byte) : Nat := beAt f (roeOff f + 2) 2
/-- Offset of the Gastad header (R334). -/
def gstOff (f : List Byte) : Nat := roeOff f + 8
/-- Word `k` of the Gastad header (R337). -/
def gstWord (f : List Byte) (k : Nat) : Nat := beAt f (gstOff f + 4 * k) 4
/-- VER. -/
def gstVer (f : List Byte) : Nat := bitsOf (gstWord f 0) 28 4
/-- TYPE (R338). -/
def gstType (f : List Byte) : Nat := bitsOf (gstWord f 0) 24 4
/-- D. -/
def gstD (f : List Byte) : Nat := bitsOf (gstWord f 0) 0 16
/-- S. -/
def gstS (f : List Byte) : Nat := bitsOf (gstWord f 1) 16 16

/-- One's-complement incremental update of a checksum, 16 bits at a time: ~(~HC + ~m + m'). -/
def csumUpdate (hc : Nat) : List Byte → List Byte → Nat
  | o1 :: o2 :: os, n1 :: n2 :: ns =>
    let s := (65535 - hc) + (65535 - (o1.toNat * 256 + o2.toNat)) + (n1.toNat * 256 + n2.toNat)
    let s := s % 65536 + s / 65536
    csumUpdate (65535 - (s % 65536 + s / 65536)) os ns
  | _, _ => hc

/-- PTP bytes replaced at an offset of the header; behind UDP the checksum follows, where there is one (R333, R374). -/
def ptpPut (f : List Byte) (hdr k : Nat) (v : List Byte) : List Byte :=
  let at' := hdr + k
  let old := (f.drop at').take v.length
  let f' := bytesPut f at' v
  if etherType f == 0x86DD then
    let hc := beAt f (hdr - 2) 2
    if hc == 0 then f' else bytesPut f' (hdr - 2) (beBytes 2 (csumUpdate hc old v))
  else f'

/-- An amount in 2^-16 ns added to correctionField, modulo 2^64 (R333, R374). -/
def ptpCorrect (f : List Byte) (hdr amount : Nat) : List Byte :=
  ptpPut f hdr 8 (beBytes 8 ((beAt f (hdr + 8) 8 + amount) % 2 ^ 64))

end Sys2Proof.Machine
end

