-- ==== Sys2Proof/Machine/Fh.lean ====
section
/-! DEFINITION. The fronthaul ports: modes and links, frame acceptance, cascade and dual-homed rules, egress queues, and the
PTP receive buffer and egress entries (R316–R333, R372–R376). -/
namespace Sys2Proof.Machine

/-! ## Modes -/

/-- MAC rate in Gb/s and lanes of a port in a mode (R316); 0 where the mode does not use it. -/
def portMode (mode q : Nat) : Nat × Nat :=
  match mode, q with
  | 1, 0 => (400, 0xFF)
  | 2, 0 => (200, 0x0F) | 2, 1 => (200, 0xF0)
  | 3, 0 => (200, 0x0F) | 3, 1 => (100, 0x30)
  | 4, 0 => (100, 0x03) | 4, 1 => (100, 0x30)
  | 5, 0 => (50, 0x01) | 5, 1 => (50, 0x10)
  | 6, 0 => (25, 0x01) | 6, 1 => (25, 0x10)
  | 7, 0 => (10, 0x01) | 7, 1 => (10, 0x10)
  | _, _ => (0, 0)

/-- The port's rate in the mode in force. -/
def Device.portRate (d : Device) (q : Nat) : Nat := (portMode (d.get L.FH_CFG_MODE) q).1
/-- The port's lanes in the mode in force. -/
def Device.portLanes (d : Device) (q : Nat) : Nat := (portMode (d.get L.FH_CFG_MODE) q).2
/-- DUAL (R327). -/
def Device.dual (d : Device) : Bool := d.on L.FH_CFG_DUAL
/-- Cascade: DUAL = 0 with FWD_EN = 1 (R321). -/
def Device.cascade (d : Device) : Bool := !d.dual && d.on L.FH_CFG_FWD_EN
/-- LSTATE: 0 OFF, 1 DOWN, 2 ALIGN, 3 UP (R318). -/
def Device.link (d : Device) (q : Nat) : Nat := d.get (L.FH_PSTAT_LSTATE q)
/-- READY has been reached (R519). -/
def Device.ready (d : Device) : Bool := d.get L.BOOT_STAT_STAGE == 2

/-! ## Counters and events -/

/-- Counter `n` of a port. -/
def fhCount (q n : Nat) (d : Device) : Device := d.inc (L.FH_CNT_COUNT q n)

/-- A port event: CLASS 12, SOURCE the port, REG 0 (R387). -/
def fhEvent (l : Nat → Loc) (q sev : Nat) (d : Device) : Device := d.event (l q) islePORT 12 q 0 sev []

/-- A frame of the device's own is discarded at a port (R324). -/
def egDrop (q : Nat) (d : Device) : Device :=
  (fhCount q 9 d).eventLimited (L.FH_PEVENT_EG_DROP q) ticksPerMs islePORT 12 q 0 2 []

/-- A frame received on a port is not forwarded (R323, R324). -/
def fwdDrop (q : Nat) (d : Device) : Device :=
  (fhCount q 11 d).eventLimited (L.FH_PEVENT_FWD_DROP q) ticksPerMs islePORT 12 q 0 2 []

/-- A refused mode, or one that acts as OFF (R316, R317). -/
def modeErr (d : Device) : Device := d.event L.FH_CFG_MODE_ERR islePORT 12 0 1 1 []

/-! ## Egress queues -/

/-- Frames waiting at a port. -/
def Device.eg (d : Device) (q : Nat) : List EgFrame := tabGet d.egress [] q
/-- Replace a port's queue. -/
def Device.setEg (d : Device) (q : Nat) (fs : List EgFrame) : Device := { d with egress := tabPut d.egress q fs }

/-- Bytes of a queue, FCS included. -/
def egBytes (fs : List EgFrame) : Nat := (fs.map fun f => f.bytes.length + 4).foldl (· + ·) 0

/-- A frame that cannot be sent: own frames count EG_DROP at their egress port, forwarded ones FWD_DROP at their ingress. -/
def egDiscard (q : Nat) (f : EgFrame) (d : Device) : Device :=
  match f.src with
  | none => egDrop q d
  | some i => fwdDrop i d

/-- A frame offered to a port (R324): a port that is not UP or a full queue of 2 MiB discards it, and remote fault any frame into
EG_DROP (R319). -/
def egPush (q : Nat) (f : EgFrame) (d : Device) : Device :=
  if d.link q = 3 && d.on (L.FH_PSTAT_RFAULT q) then egDrop q d
  else if d.link q = 3 && egBytes (d.eg q) + (f.bytes.length + 4) ≤ 2 ^ 21 then d.setEg q (d.eg q ++ [f])
  else egDiscard q f d

/-- An own frame offered to the uplink ports: Port A, and Port B as well in dual-homed mode (R327). -/
def egUplink (f : EgFrame) (d : Device) : Device := (egPush 0 f d).when d.dual (egPush 1 f)

/-! ## Links -/

/-- A port leaves for DOWN or OFF (R318, R324): an UP port raises LINK_DOWN, and its waiting frames are discarded. -/
def portLeave (q st : Nat) (d : Device) : Device :=
  let up := d.link q == 3
  let d := ((d.set (L.FH_PSTAT_LSTATE q) st).set (L.FH_PSTAT_RFAULT q) 0).set (L.FH_PSTAT_FEC_DEGR q) 0
  let d := (d.eg q).foldl (fun d f => egDiscard q f d) d
  let d := d.setEg q []
  d.when up fun d =>
    fhCount q 15 (fhEvent L.FH_PEVENT_LINK_DOWN q (if d.dual then 4 else if q = 0 then 5 else 1) d)

/-- Alignment or FEC lock lost for 100 µs (R318). -/
def portDown (q : Nat) (d : Device) : Device := if d.link q ≥ 2 then portLeave q 1 d else d

/-- A port that has not yet come UP loses its lock (R318, R528). -/
def portUnlock (q : Nat) (d : Device) : Device := if d.link q = 2 then portLeave q 1 d else d

/-- FH_CFG written (R316, R317): `old` is the word before the write.  SIG goes on showing the lanes the new mode uses. -/
def fhCfg (old : Nat) (d : Device) : Device :=
  let new := d.rd A.FH_CFG
  if bitsOf old 0 7 = bitsOf new 0 7 then d
  else if d.dual && d.get L.FH_CFG_MODE ≤ 1 then modeErr (d.wr A.FH_CFG (putBits new 0 7 (bitsOf old 0 7)))
  else
    let d := d.when (d.get L.FH_CFG_MODE ≥ 8) modeErr
    (List.range 2).foldl (fun (d : Device) q =>
      let d := (d.eg q).foldl (fun d _ => egDrop q d) d
      portLeave q (if d.portRate q = 0 then 0 else 1)
        ((d.setEg q []).set (L.FH_PSTAT_SIG q) (d.get (L.FH_PSTAT_SIG q) &&& d.portLanes q))) d

/-- Signal on every lane of a DOWN port (R318). -/
def linkSignal (q : Nat) (d : Device) : Device :=
  if d.link q = 1 then d.set (L.FH_PSTAT_SIG q) (d.portLanes q) else d

/-- Lock of a DOWN port that sees signal on all its lanes (R318); without FHREFCLK a port has no clock to lock with (R528). -/
def linkAligned (q : Nat) (d : Device) : Device :=
  if d.link q = 1 && d.on L.CLK_STAT_FH_PRESENT && d.get (L.FH_PSTAT_SIG q) = d.portLanes q then d.set (L.FH_PSTAT_LSTATE q) 2 else d

/-- Lock held for 1 ms (R318, R528). -/
def linkUp (q : Nat) (d : Device) : Device :=
  if d.link q = 2 && d.on L.CLK_STAT_FH_PRESENT then fhEvent L.FH_PEVENT_LINK_UP q 0 (d.set (L.FH_PSTAT_LSTATE q) 3) else d

/-- Remote fault onset on an UP port (R319): the frames that wait are discarded. -/
def remoteFault (q : Nat) (d : Device) : Device :=
  if d.link q = 3 && !d.on (L.FH_PSTAT_RFAULT q) then
    let d := fhEvent L.FH_PEVENT_RFAULT q 2 (d.set (L.FH_PSTAT_RFAULT q) 1)
    ((d.eg q).foldl (fun d _ => egDrop q d) d).setEg q []
  else d

/-- The FEC is in use at the port (R316). -/
def Device.fecOn (d : Device) (q : Nat) : Bool :=
  let m := d.get L.FH_CFG_MODE
  (1 ≤ m && m ≤ 5 || m == 6 && d.on L.FH_CFG_FEC25) && d.link q ≥ 2

/-- A 1 ms window of corrected symbols and codewords ends (R319). -/
def fecWindow (q symbols words : Nat) (d : Device) : Device :=
  if d.fecOn q then
    let d := d.addSat (L.FH_CNT_COUNT q 6) words
    if symbols > d.get (L.FH_FECTHR_THR q) then fhEvent L.FH_PEVENT_FEC_DEGR q 2 (d.set (L.FH_PSTAT_FEC_DEGR q) 1)
    else d.set (L.FH_PSTAT_FEC_DEGR q) 0
  else d

/-! ## The PTP receive buffer -/

/-- Words 0 to 2 of a time stamp in 2^-32 ns (R372). -/
def stampWords (t src noins : Nat) : List Nat :=
  let ns := t / 2 ^ 32
  let sec := ns / 10 ^ 9
  [ns % 10 ^ 9, sec % 2 ^ 32, 2 ^ 31 + src * 2 ^ 30 + noins * 2 ^ 29 + t % 2 ^ 32 / 2 ^ 26 * 2 ^ 16 + sec / 2 ^ 32 % 2 ^ 16]

/-- Little-endian words of a list of bytes. -/
def wordsOf : List Byte → List Nat
  | a :: b :: c :: e :: l => (a.toNat + b.toNat * 2 ^ 8 + c.toNat * 2 ^ 16 + e.toNat * 2 ^ 24) :: wordsOf l
  | [] => []
  | [a] => [a.toNat]
  | [a, b] => [a.toNat + b.toNat * 2 ^ 8]
  | [a, b, c] => [a.toNat + b.toNat * 2 ^ 8 + c.toNat * 2 ^ 16]

/-- Words written to consecutive addresses. -/
def Device.wrWords (d : Device) (a : Nat) : List Nat → Device
  | [] => d
  | w :: ws => Device.wrWords (d.wr a w) (a + 4) ws

/-- A PTP frame for Bead 14 (R332, R376): the next slot, or PRX_DROP where all 64 are full. -/
def ptpDeliver (q stamp : Nat) (f : List Byte) (d : Device) : Device :=
  let lvl := d.get L.TIME_PSTAT_PRX_LVL
  if 64 ≤ lvl then
    (d.inc L.TIME_PSTAT_PRX_DROP).eventLimited L.TIME_EVENT_PRX_DROP ticksPerMs islePORT 3 0 0 1 []
  else
    let slot := (d.get L.TIME_PRX_RD_RD + lvl) % 64
    let body := f.take 12 ++ f.drop (typeOff f)
    let head := bit (496 < body.length) * 2 ^ 31 + q * 2 ^ 30 + body.length % 2 ^ 11
    ((d.wrWords (A.TIME_PRX_BUF slot 0) (head :: stampWords stamp q 0 ++ wordsOf (body.take 496))).set
      L.TIME_PSTAT_PRX_LVL (lvl + 1)).set L.TIME_EVENT_PRX 1

/-- POP frees the slot at RD (R376). -/
def ptpPop (d : Device) : Device :=
  let lvl := d.get L.TIME_PSTAT_PRX_LVL
  if lvl = 0 then d
  else (d.set L.TIME_PSTAT_PRX_LVL (lvl - 1)).set L.TIME_PRX_RD_RD ((d.get L.TIME_PRX_RD_RD + 1) % 64)

/-! ## Reception -/

/-- The destination addresses of R320, check 3. -/
def Device.addressed (d : Device) (f : List Byte) : Bool :=
  let a := beAt f 0 6
  a == d.get L.FH_MAC_HI_ADDR_HI * 2 ^ 32 + d.get L.FH_MAC_LO_ADDR_LO
    || a == d.get L.FH_MACGRP_HI_ADDR_HI * 2 ^ 32 + d.get L.FH_MACGRP_LO_ADDR_LO
    || a == 0x011B19000000 || a == 0x0180C200000E || beAt f 0 2 == 0x3333

/-- One tag with VID, or none while UNTAG_OK = 1 (R320, check 4). -/
def Device.vlanOk (d : Device) (f : List Byte) : Bool :=
  if isTagged f then bitsOf (beAt f 14 2) 0 12 == d.get L.FH_VLAN_VID && etherType f != 0x8100 && etherType f != 0x88A8
  else d.on L.FH_VLAN_UNTAG_OK

/-- The counter of the first failing check 2–6 of R320, none where all pass. -/
def Device.frameFails (d : Device) (f : List Byte) : Option Nat :=
  if f.length + 4 < 64 || 9216 < f.length + 4 then some 2
  else if !d.addressed f then some 4
  else if !d.vlanOk f then some 3
  else if (classOf f).isNone then some 4
  else if !d.ready then some 5
  else none

/-- Link-local PTP (R321): by address, or a peer-delay message. -/
def ptpLocal (f : List Byte) (off : Nat) : Bool :=
  let ty := byteAt f off % 16
  beAt f 0 6 == 0x0180C200000E || ty == 2 || ty == 3 || ty == 10

/-- What R321 and R323 do with a frame on a port: consume it, forward it, discard it into FWD_DROP. -/
structure Route where
  take : Bool
  forward : Bool
  drop : Bool
deriving DecidableEq, Repr

/-- The identity, upstream and duplicate rules of a Gastad frame (R321, R323, R327). -/
def Device.gstRoute (d : Device) (q : Nat) (f : List Byte) : Route :=
  let dst := gstD f
  let unit := d.get L.FH_UNIT_UNIT
  let inRange := fun x => d.get L.FH_CASC_DOWN_LO ≤ x && x ≤ d.get L.FH_CASC_DOWN_HI
  let mine := dst == 0xFFFF || (dst == unit && dst != 0)
  if q = 0 || d.dual then
    let fwd := d.cascade && (dst == 0xFFFF || (!mine && inRange dst))
    ⟨mine, fwd, !mine && !fwd⟩
  else
    let fwd := d.cascade && inRange (gstS f)
    ⟨false, fwd, !fwd⟩

/-- Where a PTP frame goes (R321, R332). -/
def Device.ptpRoute (d : Device) (q : Nat) (f : List Byte) (off : Nat) : Route :=
  let loc := ptpLocal f off
  let match' := byteAt f (off + 4) == d.get L.FH_PTP_DOMAIN
  ⟨loc || (match' && !(q == 1 && d.cascade)), d.cascade && !loc, false⟩

/-- The copy of a dual-homed message that arrives first is new (R327): the window of its flow with it, none for a
duplicate. -/
def dupAccept (w : Option DupFlow) (seq : Nat) : Option DupFlow :=
  match w with
  | none => some ⟨seq, [seq]⟩
  | some w =>
    let back := (w.high + 2 ^ 32 - seq) % 2 ^ 32
    if back < 4096 then if w.seen.contains seq then none else some { w with seen := seq :: w.seen }
    else if back < 2 ^ 31 then some w
    else some ⟨seq, seq :: w.seen.filter fun x => (seq + 2 ^ 32 - x) % 2 ^ 32 < 4096⟩

/-- A consumed Gastad frame reaches the deframer; in dual-homed mode only its first copy (R323, R327).  One whose VER or TYPE
fails check 1 of R339 is discarded there. -/
def gstTake (q : Nat) (f : RxFrame) (d : Device) : Device :=
  let known := gstVer f.bytes == 1 && [1, 3, 5, 6, 7, 8, 10].contains (gstType f.bytes)
  let enter := fun (d : Device) =>
    if known then { d with deframer := d.deframer ++ [⟨f.bytes, f.stamp⟩] }
    else (d.inc (L.GST_CNT_COUNT 1)).eventLimited L.GST_EVENT_BAD ticksPerMs islePORT 13 0 0 1 []
  if d.dual then
    match dupAccept (tabGet? d.dups (roeFlow f.bytes)) (roeSeq f.bytes) with
    | none => fhCount q 13 d
    | some w => enter { d with dups := tabPut d.dups (roeFlow f.bytes) w }
  else enter d

/-- A frame forwarded to the other port (R324, R325, R326). -/
def fwdPush (q cls : Nat) (bad : Bool) (f : RxFrame) (d : Device) : Device :=
  egPush (1 - q) ⟨cls, some q, f.bytes, 4, 0, f.stamp, bad⟩ d

/-- The route of a frame by its class, and the class it is forwarded in. -/
def Device.routeOf (d : Device) (q : Nat) (f : List Byte) : Route × Nat :=
  match classOf f with
  | some .gst => (d.gstRoute q f, 1)
  | some (.ptp off _) => (d.ptpRoute q f off, 0)
  | _ => (⟨true, false, false⟩, 2)

/-- A received frame with the ingress correction of FH_TSCORR (R331). -/
def Device.ingress (d : Device) (q : Nat) (f : RxFrame) : RxFrame :=
  { f with stamp := (((f.stamp : Int) - d.getS (L.FH_TSCORR_ING q) * 2 ^ 28) % (timeSpan : Nat)).toNat }

/-- A whole received frame (R320–R333). -/
def frameIn (q : Nat) (f : RxFrame) (d : Device) : Device :=
  if d.link q ≠ 3 then d
  else
    let f := d.ingress q f
    let (r, cls) := d.routeOf q f.bytes
    match d.frameFails f.bytes with
    | none =>
      if f.fcs && f.fec then
        let d := (fhCount q 0 d).when r.drop (fwdDrop q)
        let d := d.when r.forward (fwdPush q cls false f)
        match r.take, classOf f.bytes with
        | true, some .gst => gstTake q f d
        | true, some (.ptp _ _) => ptpDeliver q f.stamp f.bytes d
        | true, some .nd => { d with port := { d.port with nd := d.port.nd ++ [(q, f.bytes)] } }
        | _, _ => d
      else
        let d := fhCount q (if f.fec then 1 else 7) d
        d.when (r.forward && decide (d.portRate (1 - q) ≤ d.portRate q)) (fwdPush q cls true f)
    | some n => fhCount q (if !f.fec then 7 else if !f.fcs then 1 else n) d

/-! ## Transmission -/

/-- The departure time of a frame that leaves a port now, with the egress correction (R331). -/
def Device.departure (d : Device) (q : Nat) : Nat := (((d.counter : Int) + d.getS (L.FH_TSCORR_EGR q) * 2 ^ 28) % (timeSpan : Nat)).toNat

/-- The insertion of a departing own PTP frame (R374), and whether its header was found. -/
def ptpInsert (f : EgFrame) (t : Nat) : List Byte × Bool :=
  match ptpHeader f.bytes with
  | none => (f.bytes, false)
  | some h =>
    let ns := t / 2 ^ 32
    let frac := t % 2 ^ 32 / 2 ^ 16
    if f.op = 1 then
      let b := ptpPut f.bytes h 34 (beBytes 6 (ns / 10 ^ 9) ++ beBytes 4 (ns % 10 ^ 9))
      (if h + 44 ≤ f.bytes.length then ptpCorrect b h frac else f.bytes, h + 44 ≤ f.bytes.length)
    else if f.op = 2 then
      (ptpCorrect f.bytes h (((ns % 2 ^ 64 + 2 ^ 64 - f.t2) % 2 ^ 64 * 2 ^ 16 + frac) % 2 ^ 64), true)
    else (f.bytes, true)

/-- The egress entry of a departing PTP copy (R373): ETS_OVF where 64 wait. -/
def etsPush (words : List Nat) (d : Device) : Device :=
  if 64 ≤ d.ets.length then (d.inc L.TIME_PSTAT_ETS_OVF).event L.TIME_EVENT_ETS_OVF islePORT 3 0 0 1 []
  else ({ d with ets := d.ets ++ [words] }).set L.TIME_PSTAT_ETS_LVL (d.ets.length + 1)

/-- An own PTP frame departs (R373, R374).  The sequenceId of a frame whose header is not found is open (log 7). -/
def ptpDepart (q : Nat) (f : EgFrame) (t : Nat) (d : Device) : List Byte × Device :=
  let (b, found) := ptpInsert f t
  let (seq, d) : Nat × Device :=
    match ptpHeader f.bytes with
    | some h => (beAt f.bytes (h + 30) 2, d)
    | none => d.draw
  let d := etsPush (stampWords t q (bit (!found)) ++ [f.op * 2 ^ 16 + seq % 2 ^ 16]) d
  (b, d.when (!found) fun d => d.eventLimited L.TIME_EVENT_NOINS ticksPerMs islePORT 3 0 0 1 [])

/-- A forwarded PTP event message gets its residence time (R333); one it cannot correct counts TC_SKIP. -/
def tcCorrect (f : EgFrame) (i t : Nat) (d : Device) : List Byte × Device :=
  match classOf f.bytes with
  | some (.ptp off _) =>
    if d.on L.FH_PTP_TC_EN && byteAt f.bytes off % 16 ≤ 1 then
      match ptpHeader f.bytes with
      | some h => (ptpCorrect f.bytes h ((t + timeSpan - f.stamp) % timeSpan / 2 ^ 16), d)
      | none => (f.bytes, fhCount i 14 d)
    else (f.bytes, d)
  | _ => (f.bytes, d)

/-- What a departing frame carries on the wire. -/
def egContent (q : Nat) (f : EgFrame) (t : Nat) (d : Device) : List Byte × Device :=
  match f.src with
  | some i => tcCorrect f i t d
  | none =>
    if f.op = 3 then (bytesPut f.bytes (gstOff f.bytes + 8) (beBytes 8 (t / 2 ^ 32)), d)
    else if f.cls = 0 then ptpDepart q f t d
    else (f.bytes, d)

/-- The next frame of a queue in class order, and the rest (R324). -/
def egPick (fs : List EgFrame) : Option (EgFrame × List EgFrame) :=
  match fs.find? (fun f => f.cls == 0), fs.find? (fun f => f.cls == 1), fs.head? with
  | some f, _, _ => some (f, fs.erase f)
  | none, some f, _ => some (f, fs.erase f)
  | none, none, some f => some (f, fs.erase f)
  | none, none, none => none

/-- A ready frame is sent in class order (R324), one that failed its check with its FCS inverted (R326); while remote fault is
received it is discarded into EG_DROP (R319).  Before READY the device sends no frame (R519): those queued wait. -/
def frameOut (q : Nat) (d : Device) : Device :=
  match egPick (if d.ready then d.eg q else []) with
  | none => d
  | some (f, rest) =>
    let d := d.setEg q rest
    if d.link q ≠ 3 then egDiscard q f d
    else if d.on (L.FH_PSTAT_RFAULT q) then egDrop q d
    else
      let t := d.departure q
      let (b, d) := egContent q f t d
      let d := { d with wire := tabPut d.wire q ⟨b, f.bad, t⟩ }
      let d := fhCount q 8 d
      match f.src with
      | some i => (fhCount i 10 d).when f.bad (fhCount i 12)
      | none => d

/-! ## Meanings -/

/-- LINK_SIGNAL_DETECT (R318). -/
def execLinkSignalDetect (q : Nat) (s : State) : Host.Outcome State Fault Refusal :=
  actDev (.linkSignalDetect q) s (linkSignal q)
/-- LINK_ALIGNED (R318). -/
def execLinkAligned (q : Nat) (s : State) : Host.Outcome State Fault Refusal := actDev (.linkAligned q) s (linkAligned q)
/-- LINK_UP (R318). -/
def execLinkUp (q : Nat) (s : State) : Host.Outcome State Fault Refusal := actDev (.linkUp q) s (linkUp q)
/-- LINK_DOWN (R318): SIG shows the lanes that still see signal. -/
def execLinkDown (q sig : Nat) (s : State) : Host.Outcome State Fault Refusal :=
  actDev (.linkDown q sig) s fun d =>
    if d.link q ≥ 2 then (portDown q d).set (L.FH_PSTAT_SIG q) (sig &&& d.portLanes q) else d
/-- LINK_REMOTE_FAULT (R319). -/
def execLinkRemoteFault (q : Nat) (s : State) : Host.Outcome State Fault Refusal :=
  actDev (.linkRemoteFault q) s (remoteFault q)
/-- REMOTE_FAULT_END (R319). -/
def execRemoteFaultEnd (q : Nat) (s : State) : Host.Outcome State Fault Refusal :=
  actDev (.remoteFaultEnd q) s fun d => d.set (L.FH_PSTAT_RFAULT q) 0
/-- FEC_WINDOW (R319). -/
def execFecWindow (q symbols words : Nat) (s : State) : Host.Outcome State Fault Refusal :=
  actDev (.fecWindow q symbols words) s (fecWindow q symbols words)
/-- FRAME_TRANSMIT (R324). -/
def execFrameTransmit (q : Nat) (s : State) : Host.Outcome State Fault Refusal :=
  actDev (.frameTransmit q) s (frameOut q)

end Sys2Proof.Machine
end

