-- ==== Sys2Proof/Machine/GridSig.lean ====
section
/-! DEFINITION. The transforms of GRID and what lies about them: a downlink symbol's samples from its element outputs, and the
layer outputs of an uplink symbol from the samples of its channels (R189–R196, R201–R208, R283). -/
namespace Sys2Proof.Machine

/-! ## Placement (R190, R191, R195) -/

/-- The first sample of symbol `n` in its frame, in samples at F_s: its prefix crosses the balls there (R191). -/
def OfSet.symStart (s : OfSet) (n : Nat) : Int := ((s.frameTicks n * s.fs / 128 : Nat) : Int) + s.toff

/-- Samples of a symbol at F_s, prefix and useful part (R190). -/
def OfSet.symLen (s : OfSet) (n : Nat) : Nat := (s.frameTicks (n + 1) - s.frameTicks n) * s.fs / 128

/-- N_CP of a symbol. -/
def OfSet.prefixLen (s : OfSet) (n : Nat) : Nat := s.symLen n - 2 ^ s.size

/-- The signed bin of subcarrier `k` (R195). -/
def OfSet.binOf (s : OfSet) (k : Nat) : Int := (k : Int) + s.k0 - ((6 * s.nrb : Nat) : Int)

/-- Subcarriers of a symbol (R196). -/
def OfSet.subs (s : OfSet) : Nat := 12 * s.nrb

/-- SHIFT (R193). -/
def OfSet.shift (s : OfSet) : Nat := bitsOf s.cfg 12 3

/-! ## Phase compensation (R194) -/

/-- φ_l of a path in 2^-32 turn: f0 over the time from the last strobe to the useful part's start at the balls; none where
PC_MODE = 0. -/
def Device.phaseComp (d : Device) (i : Nat) (s : OfSet) (fn n p : Nat) : Option Nat :=
  let mode := bitsOf s.cfg 18 2
  if mode = 0 then none
  else
    let f0 : Nat := if mode = 1 then (d.chn (chainFor i p)).ftw else s.f0
    let unit : Int := if d.lowPower then 400 else 800
    let u := (s.symStart n + (s.prefixLen n : Nat)) * unit
    let ref : Int := frameDiff fn d.blockFrame * (19200 * unit) - d.clk.strobeAt - d.frameShift
    let dt := u + ref * (s.fs : Nat)
    some (roundOpen (s.fs * 2 ^ 16) ((f0 : Int) * (d.laneTurns : Nat) * dt) % 2 ^ 32).toNat

/-! ## GRID trims (R283) -/

/-- GE and SLOPE of an element under a mix of the banks (R54). -/
def Device.gridTrim (d : Device) (i : Nat) (mx : Nat × Nat × Nat) (e : Nat) : Cx × Int :=
  (mixOf mx fun b => iqOf (d.rd (A.CAL_GRID_GE i b e)),
    (mixOf mx fun b => (signedOf 16 (d.get (L.CAL_GRID_SLOPE_SLOPE i b e)), 0)).1)

/-- The trim applied on subcarrier `k` to a value in 2^-s: GE × e^(j2π SLOPE (k − 6 NRB) / 2^24). -/
def trimmed (t : Cx × Int) (nrb k s : Nat) (y : Cx) : Cx :=
  let turn := turnExact (t.2 * ((k : Int) - ((6 * nrb : Nat) : Int)) * 2 ^ 24)
  cxMap sat16 (cxRound (2 ^ (54 + s)) (cxMul (cxMul y t.1) turn))

/-! ## Transforms (R192, R193) -/

/-- N^(−1/2) in 2^-40, N = 2^`size`. -/
def rootN (size : Nat) : Nat := isqrt (2 ^ (80 - size))

/-- What the stages of a transform round off, of an output in 2^-s: the stages carry 24-bit mantissas with a common block exponent,
which leaves an output within a sixteenth of a unit of the exact one (R193; log 116). -/
def stageRound (s : Nat) (x : Cx) : Cx :=
  let off := fun (k : Nat) (v : Int) => v + (((Config.spur (k + 2) (v.toNat + (-v).toNat) % 2048 : Nat) : Int) - 1024) * 2 ^ (s - 14)
  (off 0 x.1, off 1 x.2)

/-- Output sample `t` of the IFFT: `xs` are bins with their values, `turn` a rotation of all of them in 2^-48 turn. -/
def ifftAt (size shift : Nat) (turn : Int) (xs : List (Int × Cx)) (t : Nat) : Cx :=
  let sum := cxSum (xs.map fun x => cxMul x.2 (turnExact (x.1 * t * 2 ^ (48 - size) + turn)))
  cxRound (2 ^ (80 + shift)) (stageRound (80 + shift) (cxScale (rootN size) sum))

/-- Output bin `b` of the FFT of N samples, rotated by `turn` in 2^-48 turn. -/
def fftAt (size shift : Nat) (turn : Int) (xs : List Cx) (b : Int) : Cx :=
  let sum := cxSum ((xs.zip (List.range xs.length)).map fun x => cxMul x.1 (turnExact (-(b * x.2 * 2 ^ (48 - size)))))
  cxRound (2 ^ 120) (stageRound 120 (cxScale (rootN size * 2 ^ shift) (cxMul sum (turnExact turn))))

/-- Saturated transform outputs are counted and raise SAT (R193). -/
def transformSat (i n : Nat) (d : Device) : Device :=
  (d.addSat (L.OF_CNT_SAT i) n).when (n != 0) fun d => d.eventLimited (L.OF_EVENT_SAT i) ticksPerMs isleGRID 17 0 i 2 []

/-! ## The downlink (R192–R196, R202) -/

/-- r_e of an element in a direction at symbol `sym` of carrier `i`: of its ramp where the carrier's leg has begun (R226). -/
def Device.gainAt (d : Device) (dir e i sym : Nat) : Nat :=
  match tabGet? d.ramps (64 * dir + e) with
  | some r =>
    match r.legs.find? fun l => l.carrier == i % 4 && l.start.isSome && (sym + 65536 - l.start.getD 0) % 65536 < 32768 with
    | some l => rampGain l.g0 r.target r.len ((sym + 65536 - l.start.getD 0) % 65536)
    | none => d.gain dir e (i % 4)
  | none => d.gain dir e (i % 4)

/-- The samples of path `p` for element outputs `ys` of symbol (fn, n): ramp gain and GRID trim, rotation, IFFT, then the prefix
ahead of the useful part; and how many saturated. -/
def Device.waveRow (d : Device) (i fn n p : Nat) (mx : Nat × Nat × Nat) (ys : List Cx) : List Cx × Nat :=
  let s := (d.grd i).of
  let t := d.gridTrim i mx p
  let g := d.gainAt 0 p i (d.symOf i fn n)
  let bins := (ys.zip (List.range s.subs)).map fun x => (s.binOf x.2, trimmed t s.nrb x.2 0 (cxRound 4096 (cxScale g x.1)))
  let turn : Int := match d.phaseComp i s fn n p with
    | some f => -((f * 2 ^ 16 : Nat) : Int)
    | none => 0
  let xs := (List.range (2 ^ s.size)).map (ifftAt s.size s.shift turn bins)
  let out := xs.map (cxMap satFs)
  (out.drop (2 ^ s.size - s.prefixLen n) ++ out, (xs.filter beyondFs).length)

/-- A symbol's samples are kept while the filters of the DUCs may still reach them. -/
def Device.waveLive (d : Device) (w : TxWave) : Bool := -(20 * 3840000) < d.waveEnd w

/-- The element outputs of a symbol, from its place in the output area or as they streamed. -/
def Device.outRows (d : Device) (m : List Host.Cell) (i : Nat) (c : SymCtl) : List (Nat × List Cx) :=
  match c.slot with
  | some s =>
    let mem := memPutAll m d.memOut
    ((List.range 64).map fun e => (e, quiet (rowAt mem (outAddr s (d.subsOf i) e 0) (d.subsOf i)))).filter fun r => !r.2.isEmpty
  | none => c.outs

/-- Symbol (fn, n) of downlink carrier `i` goes through the IFFT, once: its samples wait for the DUCs, and its place in the output
area is free (R211, R216).  An invalid symbol is zero samples with VALID = 0, and one that GRID has not computed or that has no
content is zero samples (R202).  A path whose rate does not match carries it as invalid (R206). -/
def dlWave (i fn n : Nat) (m : List Host.Cell) (d : Device) : Device :=
  let g := d.grd i
  let c := d.symc i fn n
  if !g.of.live || !g.beamOn || c.sent then d
  else
    let bad := c.invalid || d.get (L.BM_CSTAT_STATE i) == 2
    let void := if bad then g.of.paths else (g.mm.map (·.1)).filter g.of.has
    let mx := d.mix (.grid i) (d.symOf i fn n)
    let outs := d.outRows m i c
    let rows := ((if bad || !c.computed || !c.fixed then [] else outs).filter fun x => g.of.has x.1 && !void.contains x.1).map fun x =>
      (x.1, d.waveRow i fn n x.1 mx x.2)
    let wave : TxWave := ⟨fn, n, g.of.symStart n, g.of.symLen n, g.of.fs, g.m, rows.map fun x => (x.1, x.2.1), void⟩
    let d := d.setSym i fn n { c with sent := true, slot := none, outs := outs }
    transformSat i ((rows.map (·.2.2)).foldl (· + ·) 0)
      (d.setGrd i { d.grd i with waves := g.waves.filter d.waveLive ++ [wave] })

/-- The IFFTs due (R198, R216): symbols whose commit point lies T_long + 9 µs back. -/
def ifftDue (m : List Host.Cell) (d : Device) : Device :=
  d.dlCarriers.foldl (fun d i =>
    let wait : Int := ((d.grd i).of.ifftTicks * 15625 : Nat)
    ((d.grd i).syms.filter fun x => x.2.fixed && !x.2.sent && d.commitIn i x.2.fn x.2.n + wait ≤ 0).foldl
      (fun d x => dlWave i x.2.fn x.2.n m d) d) d

/-! ## The uplink rate adapter (R189) -/

/-- `m` decimating adapter stages, phased to the frame: sample j comes from samples 2 j − 22 to 2 j (R189). -/
def adaptDown : Nat → Sig → Sig
  | 0, f => f
  | m + 1, f => decim2 hb23 (adaptDown m f)

/-- The causes on a sample after `m` adapter stages: of every input in its span (R189). -/
def adaptMarks (m : Nat) (mark : Int → Nat) (j : Int) : List Nat :=
  let back := 22 * (2 ^ m - 1)
  ((List.range (back + 1)).map fun (k : Nat) => mark (j * 2 ^ m - k)).filter (· != 0)

/-- INV and causes of a run of samples, counted: how many carry INV, the offset of the first, and whether every cause allows
SET (R348). -/
def marksOf (l : List (List Nat)) : Nat × Nat × Bool :=
  let inv := l.filter fun c => !c.isEmpty
  (inv.length, l.takeWhile (·.isEmpty) |>.length, !inv.isEmpty && inv.all fun c => c.all (· != 2))

/-! ## The uplink (R192–R196, R201, R207, R208) -/

/-- The latency of `m` decimating stages in adapter samples and the rest in 2^-m of one: 11 input samples a stage (R189).  The
window lies that much later in the adapter's samples, which places it on the grid at the balls (R191; log 137). -/
def adaptLag (m : Nat) : Nat × Nat := (11 * (2 ^ m - 1) / 2 ^ m, 11 * (2 ^ m - 1) % 2 ^ m)

/-- The element inputs of a symbol on path `p`: window, FFT with its rotations, GRID trim; and how many saturated.  The inputs of the
FFT are held to 16 bits (R193).  The part of a sample that the window starts early, its place being a whole one, is turned back like
WIN_ADV (R191, R192). -/
def Device.elemInputs (d : Device) (c : Nat) (u : UlSym) (p : Nat) : List Cx × Nat :=
  let s := u.set
  let n := 2 ^ s.size
  let f := adaptDown u.m (d.outSig (ddc p c) u.fn)
  let lag := adaptLag u.m
  let win := sigList f (s.symStart u.n + (s.prefixLen u.n : Nat) - (s.winAdv : Nat) + lag.1) n
  if (quiet win).isEmpty then (List.replicate s.subs cx0, 0)
  else
    let xs := win.map fun x => cxMap sat16 (cxRound (2 ^ (24 * u.m)) x)
    let rot : Int := (tabGet u.rot 0 p * 2 ^ 16 : Nat)
    let t := d.gridTrim (4 + c) u.trim p
    let out := (List.range s.subs).map fun k =>
      let b := s.binOf k
      fftAt s.size s.shift (b * (s.winAdv * 2 ^ u.m + lag.2 : Nat) * 2 ^ (48 - s.size - u.m) + rot) xs b
    ((out.zip (List.range s.subs)).map fun x => trimmed t s.nrb x.2 0 (cxMap satFs x.1), (out.filter beyondFs).length)

/-- INV samples of a symbol's span on one path of the mask (R201, R348). -/
def Device.symMarks (d : Device) (c : Nat) (u : UlSym) (p : Nat) : Nat × Nat × Bool :=
  let mark := d.outMark (ddc p c) u.fn
  marksOf ((List.range (u.set.symLen u.n)).map fun (j : Nat) => adaptMarks u.m mark (u.set.symStart u.n + j + (adaptLag u.m).1))

/-- The worst of several counts, the first of equals. -/
def worstMarks (l : List (Nat × Nat × Bool)) : Nat × Nat × Bool :=
  l.foldl (fun best x => if best.1 < x.1 then x else best) (0, 0, false)

/-- Layer outputs of an uplink symbol under its BM_CCFG, from its element inputs, with their saturations (R207, R208). -/
def Device.ulLayers (d : Device) (m : List Host.Cell) (i : Nat) (u : UlSym) (rows : List (List Cx)) : List (List (Cx × Bool)) :=
  let es := d.elems 1
  let y := fun (e k : Nat) => rampedInput (tabGet u.gains 4096 e) ((rows.getD e []).getD k cx0)
  (List.range (nlOf u.ccfg)).map fun l => (List.range u.set.subs).map fun k =>
    oshOut (oshOf u.ccfg) (ulTree es (weightsAt m i (groupOf u.ccfg) u.mix k) (fun e => y e k) l)

/-- The layer outputs of a computed symbol enter the run-ahead bank with its element inputs (R211), and its check follows. -/
def ulBeam (c sym : Nat) (m : List Host.Cell) (u : UlSym) (rows : List (List Cx)) (d : Device) : Device :=
  let i := 4 + c
  let zs := d.ulLayers m i u rows
  let layers := zs.map fun r => r.map (·.1)
  let place := (d.dir 1).next
  let d := ((List.range 64).zip rows).foldl (fun (d : Device) x => storeRow (ulRetain sym c x.1 0) x.2 d) d
  let d := ((List.range layers.length).zip layers).foldl (fun (d : Device) x => storeRow (layerAddr place x.1 0) x.2 d) d
  let d := d.setUl c sym { u with layers := layers, slot := place }
  let d := shadowStep 1 (d.setDir 1 { d.dir 1 with next := (place + 1) % layerPlaces })
  let d := d.when (u.mm || d.weightBad i || d.get (L.BM_CSTAT_STATE i) == 2) (symBad 1 c sym)
  beamSat i ((zs.map fun r => (r.filter (·.2)).length).foldl (· + ·) 0) d

/-- Uplink symbol `sym` of carrier `c` is computed: its transforms, and where the carrier beamforms its layer outputs.  INV_SYM
counts it where it is invalid (R201, R206), once for the symbol: the spec does not say whether a symbol that carries INV on several
paths counts once or for each (DESIGN CHOICE, log 137). -/
def ulCompute (c sym : Nat) (m : List Host.Cell) (d : Device) : Device :=
  match d.ulSym c sym with
  | none => d
  | some u =>
    if u.done then d
    else
      let i := 4 + c
      let ins := (List.range 64).map fun p => if u.set.has p then d.elemInputs c u p else (List.replicate u.set.subs cx0, 0)
      let marks := worstMarks (u.set.paths.map (d.symMarks c u))
      let inv := u.inv || marks.1 != 0 || u.mm
      let u := { u with done := true, invc := marks.1, setRun := marks.2.2, inv := inv }
      let d := if bitsOf u.ccfg 31 1 = 1 then ulBeam c sym m u (ins.map (·.1)) d
        else d.setGrd i { d.grd i with uls := tabDel (d.grd i).uls sym }
      transformSat i ((ins.map (·.2)).foldl (· + ·) 0) (d.when inv fun d => d.inc (L.OF_CNT_INV_SYM i))

/-- Symbol (fn, n) of uplink carrier `c` starts: what its computation takes as of its start is kept (R51, R194, R204, R226);
`dead`: it overlaps an outage (R112). -/
def ulStart (c fn n : Nat) (dead : Bool) (d : Device) : Device :=
  let i := 4 + c
  let g := d.grd i
  if g.of.live then
    let sym := d.symOf i fn n
    let gains := (List.range 64).filterMap fun e => let r := d.gain 1 e c; if r = 4096 then none else some (e, r)
    let rot := g.of.paths.filterMap fun p => (d.phaseComp i g.of fn n p).map fun f => (p, f)
    d.setUl c sym ⟨fn, n, g.of, g.m, d.mix (.beam i) sym, d.mix (.grid i) sym, gains, rot, false, [], 0, false,
      dead, 0, !g.mm.isEmpty, g.ccfg⟩
  else d

/-- Symbols of uplink carrier `c` whose last sample lies 10 µs back are computed: their channel samples are complete (R200, R231;
log 121). -/
def ulDue (c : Nat) (m : List Host.Cell) (d : Device) : Device :=
  ((d.grd (4 + c)).uls.filter fun x =>
    d.framesTo x.2.fn * frameLen + x.2.set.air (x.2.n + 1) - d.inFrame + 38400000 ≤ 0).foldl (fun d x => ulCompute c x.1 m d) d

end Sys2Proof.Machine
end

