-- ==== Sys2Proof/Machine/Mbx.lean ====
section
/-! DEFINITION. Mailbox channels: binding, rings, pops and delivery, and the MSI-X vectors (R412–R420). -/
namespace Sys2Proof.Machine

/-- An event of master `m` (R387): CLASS BEAD, SOURCE m, at most one record per master per 1 ms. -/
def mbxEvent (l : Nat → Loc) (m : Nat) (items : List (Nat × Nat)) (d : Device) : Device :=
  (d.set (l m) 1).logLimited (A.MBX_EVENT m * 4096) ticksPerMs isleFABRIC 1 1 m (l m).lo items

/-- Doorbells queued in channel `c`. -/
def Device.chan' (d : Device) (c : Nat) : List Doorbell := tabGet d.mbx [] c

/-- The bound receiver of a channel. -/
def Device.receiver (d : Device) (c : Nat) : Nat := d.get (L.MBX_BIND_RECV c)

/-- The mailbox's votes follow the FIFOs (R418). -/
def mbxVotes (d : Device) : Device :=
  d.each 16 fun n d => mbxVote n (d.mbx.any fun x => !x.2.isEmpty && d.receiver x.1 == n) d

/-- Replace a channel's FIFO; MBX_CHSTAT and the votes follow. -/
def setFifo (c : Nat) (q : List Doorbell) (d : Device) : Device :=
  mbxVotes ((({ d with mbx := tabPut d.mbx c q }).set (L.MBX_CHSTAT_LEVEL c) q.length).set (L.MBX_CHSTAT_FULL c)
    (bit (16 ≤ q.length)))

/-- A vector whose mask has been cleared sends its pending message. -/
def msixUnmask (v : Nat) (d : Device) : Device :=
  if d.msixPend.contains v && !d.msixMasked v then deliverTo v { d with msixPend := d.msixPend.erase v } else d

/-- Delivery of channel `c` to its receiver (R419). -/
def mbxDeliver (c : Nat) (d : Device) : Device :=
  let r := d.receiver c
  if r < 16 then deliverTo (64 + r) d
  else if r = 16 then if d.on (L.MBX_CHIRQ_IE c) then msix (d.get (L.MBX_CHIRQ_VEC c)) d else d
  else if r = 17 then { d with smbAlert := true }
  else d

/-- The result of a ring for its master (R415). -/
def mbxResult (m c res : Nat) (d : Device) : Device := { d with ringRes := tabPut d.ringRes m (res, c) }

/-- A refused ring (R415): its result, its event and record. -/
def mbxRefuse (m c res offset : Nat) (l : Nat → Loc) (d : Device) : Device :=
  mbxEvent l m [(c, 6), (offset, 32)] (mbxResult m c res d)

/-- Master `m` rings channel `c` (R415). -/
def mbxRing (m c offset tag : Nat) (d : Device) : Device :=
  let q := d.chan' c
  if !d.on (L.MBX_BIND_EN c) then mbxRefuse m c 1 offset L.MBX_EVENT_UNBOUND d
  else if d.get (L.MBX_BIND_SENDER c) ≠ m then mbxRefuse m c 2 offset L.MBX_EVENT_NOT_SENDER d
  else if offset % 64 ≠ 0 || 0x02000000 ≤ offset then mbxRefuse m c 3 offset L.MBX_EVENT_BAD_OFS d
  else if 16 ≤ q.length then mbxRefuse m c 4 offset L.MBX_EVENT_FULL (d.inc (L.MBX_CHSTAT_REFUSED c))
  else mbxDeliver c (mbxResult m c 0 (setFifo c (q ++ [⟨offset, tag⟩]) d))

/-- The words a read of MBX_POP returns (R417). -/
def Device.popWords (d : Device) (c : Nat) : Nat × Nat :=
  match d.chan' c with
  | [] => (0, 0)
  | b :: _ => (b.offset, 2 ^ 31 + d.get (L.MBX_BIND_SENDER c) * 2 ^ 16 + b.tag)

/-- The head of channel `c` leaves (R417); a channel still not empty delivers again (R419). -/
def mbxRemove (c : Nat) (d : Device) : Device :=
  match d.chan' c with
  | [] => d
  | _ :: q => (setFifo c q d).when (!q.isEmpty) (mbxDeliver c)

/-- A read of MBX_POP's first word by master `m`: only the bound receiver of an enabled channel removes the head. -/
def mbxPop (m c : Nat) (d : Device) : Device :=
  if d.on (L.MBX_BIND_EN c) && d.receiver c == m then mbxRemove c d else d

/-- Channels with receiver PCIE and a doorbell queued, as bits from channel `base` on (MBX_HOSTPEND). -/
def Device.hostPend (d : Device) (base : Nat) : Nat :=
  (List.range 32).foldl (fun n k =>
    n + bit (d.on (L.MBX_BIND_EN (base + k)) && d.receiver (base + k) == 16 && !(d.chan' (base + k)).isEmpty) * 2 ^ k) 0

/-- INT_N is driven low (R420). -/
def Device.intLow (d : Device) : Bool :=
  d.on L.MBX_HOST_INTN_EN &&
    ((List.range 64).any (fun c => d.on (L.MBX_BIND_EN c) && d.receiver c == 16 && d.on (L.MBX_CHIRQ_IE c) && !(d.chan' c).isEmpty)
      || (d.on L.MBX_HOST_TALLY_HOST && d.tally.irq))

/-- MBX_BIND[c] written by master `m` (R412); `old` is the word before. -/
def mbxBind (m c old : Nat) (d : Device) : Device :=
  let new := d.rd (A.MBX_BIND c)
  let back := fun (d : Device) => mbxEvent L.MBX_EVENT_BIND_ERR m [] (d.wr (A.MBX_BIND c) old)
  if m ≠ 0 then back d
  else if bitsOf new 31 1 = 1 && (23 ≤ bitsOf new 8 5 || 23 ≤ bitsOf new 0 5) then back d
  else
    let q := d.chan' c
    if new = old || q.isEmpty then d
    else mbxEvent L.MBX_EVENT_FLUSH m [] ((setFifo c [] d).addSat (L.MBX_CHSTAT_FLUSHED c) q.length)

/-- A block written for the management tunnel rings the lowest enabled channel with sender GASTAD (R423). -/
def mbxGastad (offset tag : Nat) (d : Device) : Device :=
  match (List.range 64).find? fun c => d.on (L.MBX_BIND_EN c) && d.get (L.MBX_BIND_SENDER c) == 19 with
  | some c => mbxRing 19 c offset tag d
  | none => mbxEvent L.MBX_EVENT_NO_CHAN 19 [] d

end Sys2Proof.Machine
end

