-- ==== Sys2Proof/Machine/Gst.lean ====
section
/-! DEFINITION. Gastad messages: acceptance, sections, weights, sequence, the management tunnel, echo and the uplink
(R334–R360). -/
namespace Sys2Proof.Machine

/-! ## Counters and events -/

/-- GST_CNT counter `n`. -/
def gstCount (n k : Nat) (d : Device) : Device := d.addSat (L.GST_CNT_COUNT n) k

/-- An event of the block: CLASS 13, SOURCE the carrier or 0, at most one record per event per 1 ms. -/
def gstEvent (l : Loc) (src sev : Nat) (d : Device) : Device := d.eventLimited l ticksPerMs islePORT 13 src 0 sev []

/-- A message that fails check `n` of R339: BAD_HDR 1, BAD_ADDR 2, BAD_SEC 3. -/
def gstBad (n : Nat) (d : Device) : Device := gstEvent L.GST_EVENT_BAD 0 1 (gstCount n 1 d)

/-- A message outside its arrival window (R339, R351). -/
def gstWindow (c : Nat) (early : Bool) (d : Device) : Device :=
  if early then gstEvent L.GST_EVENT_EARLY c 2 (d.inc (L.GST_CCNT_EARLY c))
  else gstEvent L.GST_EVENT_LATE c 2 (d.inc (L.GST_CCNT_LATE c))

/-! ## The message at hand -/

/-- The first frame in the deframer, where it carries TYPE `ty`. -/
def Device.gstHead (d : Device) (ty : Nat) : Option GstFrame :=
  match d.deframer with
  | f :: _ => if gstType f.bytes = ty then some f else none
  | [] => none

/-- NSEC (R337). -/
def gstNsec (f : List Byte) : Nat := bitsOf (gstWord f 1) 8 8
/-- AT (R340). -/
def gstAt (f : List Byte) : Nat := gstWord f 4
/-- XW (R338). -/
def gstXw (f : List Byte) : Nat := gstWord f 5
/-- CARRIER of AT. -/
def gstCarrier (f : List Byte) : Nat := bitsOf (gstAt f) 10 2
/-- FN of AT. -/
def gstFn (f : List Byte) : Nat := bitsOf (gstAt f) 22 10
/-- The body, under the RoE length. -/
def gstBody (f : List Byte) : List Byte := (f.drop (gstOff f + 24)).take (roeLen f - 24)

/-- Check 1 of R339 beyond VER and TYPE, which the deframer has checked: the RoE length and NSEC. -/
def gstHeaderOk (f : List Byte) : Bool :=
  24 ≤ roeLen f && gstOff f + roeLen f ≤ f.length &&
    (if gstType f == 1 || gstType f == 3 then gstNsec f != 0 else gstNsec f == 0)

/-- Symbols of a slot. -/
def OfSet.perSlot (s : OfSet) : Nat := if s.ecp then 12 else 14

/-- The symbol AT names within its frame, where every field is in range (R340). -/
def OfSet.atIndex (s : OfSet) (at' : Nat) : Option Nat :=
  let subf := bitsOf at' 18 4
  let slot := bitsOf at' 16 2
  let sym := bitsOf at' 12 4
  if subf ≤ 9 && slot < 2 ^ s.mu && sym < s.perSlot then some (subf * (2 * s.perHalf) + slot * s.perSlot + sym) else none

/-- The AT of symbol `n` of a frame on carrier `c`. -/
def OfSet.atOf (s : OfSet) (c fn n : Nat) : Nat :=
  let sub := 2 * s.perHalf
  fn * 2 ^ 22 + n / sub * 2 ^ 18 + n % sub / s.perSlot * 2 ^ 16 + n % s.perSlot * 2 ^ 12 + c * 2 ^ 10

/-- The carrier takes FD types (R341). -/
def Device.fdOn (d : Device) (c : Nat) : Bool := (d.grd c).of.live && (d.grd c).beamOn

/-- Where an instant `t` from now, an opening `open'` before it and an end `close` before it, puts an arrival now: none inside
the window, else whether it is early (R351).  Times in 1/3,840 ns. -/
def windowOf (t : Int) (open' close : Nat) : Option Bool :=
  if (open' : Int) < t then some true else if t ≤ close then some false else none

/-- D_OPEN of a carrier. -/
def Device.dlOpen (d : Device) (c : Nat) : Nat := d.get (L.GST_CCFG_DL_OPEN c) * 3840000

/-- The window of an FD symbol; once its commit point has fixed it, an arrival in the same cycle is late (R217, R351). -/
def Device.fdWindow (d : Device) (c fn n : Nat) : Option Bool :=
  match windowOf (d.commitIn c fn n) (d.dlOpen c) 0 with
  | some e => some e
  | none => if (d.symc c fn n).fixed then some false else none

/-! ## The section buffer (R350) -/

/-- Output rate of DUC[p][c] in 1.92 MHz units. -/
def Device.ducRate (d : Device) (p c : Nat) : Nat := foutOf (chanCfg (duc p c) (d.chn (duc p c)).cfg).rate

/-- Samples of a frame at a rate in 1.92 MHz units. -/
def frameSamples (rate : Nat) : Nat := rate * 19200

/-- An instant `k` samples into frame `fn`, from now (R168, R351). -/
def Device.tdIn (d : Device) (rate fn k : Nat) : Int :=
  d.framesTo fn * frameLen + ((k * 2000000 / rate : Nat) : Int) - d.inFrame

/-- A time-domain section whose last sample has not entered the DUC (R350). -/
def Device.tdLive (d : Device) (s : TdSection) : Bool :=
  0 < d.tdIn (d.ducRate s.path s.carrier) s.fn (s.start + 12 * s.nblk)

/-- Every downlink FD section in the buffer. -/
def Device.fdSecs (d : Device) : List DlSection :=
  (List.range 4).flatMap fun c => (d.grd c).syms.flatMap fun x => x.2.secs

/-- Descriptors in use. -/
def Device.descUsed (d : Device) : Nat := d.fdSecs.length + (d.tdSecs.filter d.tdLive).length

/-- Bytes of a section: its header and its payload (R342). -/
def DlSection.bytes (s : DlSection) : Nat := 16 + s.body.length
/-- Bytes of a time-domain section. -/
def TdSection.bytes (s : TdSection) : Nat := 16 + s.body.length

/-- Bytes in use. -/
def Device.bytesUsed (d : Device) : Nat :=
  ((d.fdSecs.map (·.bytes)) ++ ((d.tdSecs.filter d.tdLive).map fun s => s.bytes)).foldl (· + ·) 0

/-- Room for `n` sections of `b` bytes in all. -/
def Device.gstRoom (d : Device) (n b : Nat) : Bool := d.descUsed + n ≤ 16384 && d.bytesUsed + b ≤ 2 ^ 23

/-! ## Sequence (R358) -/

/-- A flow nothing has arrived on. -/
def GstFlow.idle : GstFlow := ⟨none, []⟩
/-- Flow `k`. -/
def Device.flow (d : Device) (k : Nat) : GstFlow := tabGet d.flows GstFlow.idle k
/-- Replace a flow. -/
def Device.setFlow (d : Device) (k : Nat) (f : GstFlow) : Device := { d with flows := tabPut d.flows k f }

/-- How far SEQ lies ahead of H: 0 at or below it, under serial arithmetic. -/
def seqAhead (h seq : Nat) : Nat := let a := (seq + 2 ^ 32 - h) % 2 ^ 32; if a < 2 ^ 31 then a else 0

/-- SEQ of an accepted message that may come in any order. -/
def seqTrack (flow seq : Nat) (d : Device) : Device :=
  let f := d.flow flow
  match f.high with
  | none => d.setFlow flow { f with high := some seq }
  | some h =>
    match seqAhead h seq with
    | 0 => gstCount 9 1 d
    | 1 => d.setFlow flow { f with high := some seq }
    | _ => gstEvent L.GST_EVENT_SEQ_GAP 0 1 (gstCount 8 1 (d.setFlow flow { f with high := some seq }))

/-! ## FD_DL (R343, R349, R352) -/

/-- Payload bytes of `n` blocks at mantissa width `m` (R343). -/
def secLen (n m : Nat) : Nat := 4 * ((n * (24 * m + 4) + 31) / 32)

/-- The sections of an FD body; none where a header is invalid or they do not fill it (R339, R343). -/
def fdSections (nrb flow seq : Nat) : Nat → List Byte → Option (List DlSection)
  | 0, b => if b.isEmpty then some [] else none
  | k + 1, b =>
    let w0 := beAt b 0 4
    let w1 := beAt b 4 4
    let slen := bitsOf (beAt b 12 4) 0 16
    let mw := bitsOf w0 8 4
    let rb0 := bitsOf w1 23 9
    let nrbs := bitsOf w1 14 9
    if 16 + slen ≤ b.length && 3 ≤ mw && 1 ≤ nrbs && rb0 + nrbs ≤ nrb && slen == secLen nrbs (mw + 1) then
      match fdSections nrb flow seq k (b.drop (16 + slen)) with
      | some l =>
        some (⟨bitsOf w0 20 12, flow, seq, bitsOf w0 15 5, rb0, nrbs, mw, bitsOf w0 14 1 == 1, (b.drop 16).take slen⟩ :: l)
      | none => none
    else none

/-- A change of a symbol's content discards what was computed of it, and what that said of its validity (R217, R349). -/
def symTouch (c fn n : Nat) (s : SymCtl) (d : Device) : Device :=
  let d := d.setSym c fn n { s with
    computed := false, invalid := s.invalid && !s.computed, slot := none, outs := [], again := s.again || s.computed }
  if s.computed then d.inc (L.BM_CCNT_RECOMP c) else d

/-- One accepted section enters its symbol (R352).  One for a layer at or above NL is discarded when the symbol is computed (R218;
log 47), and its replacement is looked at anew. -/
def secStore (c fn n : Nat) (x : DlSection) (d : Device) : Device :=
  let s := d.symc c fn n
  if s.withheld then gstCount 7 1 d
  else if s.gone.contains x.id then gstCount 6 1 d
  else
    match s.secs.find? (fun y => y.id == x.id) with
    | some y =>
      if y.flow = x.flow && seqAhead y.seq x.seq = 0 then d
      else gstCount 5 1 (symTouch c fn n { s with
        secs := s.secs.map fun z => if z.id == x.id then x else z, dropped := s.dropped.filter (· != x.id) } d)
    | none => symTouch c fn n { s with secs := s.secs ++ [x] } d

/-- An FD_DL message (R339, R343, R352). -/
def fdDl (f : List Byte) (d : Device) : Device :=
  let c := gstCarrier f
  match (d.grd c).of.atIndex (gstAt f), d.fdOn c with
  | some n, true =>
    match fdSections (d.grd c).of.nrb (roeFlow f) (roeSeq f) (gstNsec f) (gstBody f) with
    | none => gstBad 3 d
    | some secs =>
      match d.fdWindow c (gstFn f) n with
      | some early => gstWindow c early d
      | none =>
        if d.gstRoom secs.length ((secs.map (·.bytes)).foldl (· + ·) 0) then
          let d := seqTrack (roeFlow f) (roeSeq f) (gstCount 0 1 d)
          secs.foldl (fun d x => secStore c (gstFn f) n x d) d
        else gstEvent L.GST_EVENT_BUF_FULL c 1 (gstCount 4 1 d)
  | _, _ => gstBad 2 d

/-! ## TD_DL (R344) -/

/-- The sections of a TD body, as far as their headers can be read; the second answer tells whether all are valid. -/
def tdSections (c fn flow seq : Nat) : Nat → List Byte → List TdSection × Bool
  | 0, b => ([], b.isEmpty)
  | k + 1, b =>
    let w0 := beAt b 0 4
    let w1 := beAt b 4 4
    let slen := bitsOf (beAt b 12 4) 0 16
    let mw := bitsOf w0 8 4
    let nblk := bitsOf (beAt b 8 4) 8 12
    if 16 + slen ≤ b.length && 3 ≤ mw && 1 ≤ nblk && bitsOf w1 30 2 == 0 && slen == secLen nblk (mw + 1) then
      let (l, ok) := tdSections c fn flow seq k (b.drop (16 + slen))
      (⟨bitsOf w1 24 6, c, fn, bitsOf w1 0 24, nblk, bitsOf w0 20 12, flow, seq, bitsOf w0 14 1 == 1, mw,
        (b.drop 16).take slen⟩ :: l, ok)
    else ([], false)

/-- The section lies in its frame: only its last block may run past the frame's end, where the frame is no multiple of 12 samples
(R344). -/
def Device.tdFits (d : Device) (s : TdSection) : Bool :=
  let len := frameSamples (d.ducRate s.path s.carrier)
  s.start + 12 * s.nblk ≤ (len + 11) / 12 * 12 && s.start < len

/-- The window of a TD section (R351). -/
def Device.tdWindow (d : Device) (s : TdSection) : Option Bool :=
  windowOf (d.tdIn (d.ducRate s.path s.carrier) s.fn s.start) (d.dlOpen s.carrier) (20 * 3840000)

/-- Two TD sections share their identity (R342). -/
def TdSection.same (a b : TdSection) : Bool := a.path == b.path && a.carrier == b.carrier && a.fn == b.fn && a.id == b.id

/-- One accepted section enters the buffer (R352). -/
def tdStore (x : TdSection) (d : Device) : Device :=
  match d.tdSecs.find? x.same with
  | some y =>
    if y.flow = x.flow && seqAhead y.seq x.seq = 0 then d
    else gstCount 5 1 { d with tdSecs := d.tdSecs.map fun z => if x.same z then x else z }
  | none => { d with tdSecs := d.tdSecs ++ [x] }

/-- A TD_DL message (R339, R344). -/
def tdDl (f : List Byte) (d : Device) : Device :=
  let c := gstCarrier f
  let (secs, ok) := tdSections c (gstFn f) (roeFlow f) (roeSeq f) (gstNsec f) (gstBody f)
  let on := fun (s : TdSection) => (chanCfg (duc s.path c) (d.chn (duc s.path c)).cfg).en
  let of := (d.grd c).of
  if !(of.td && secs.all on) then gstBad 2 d
  else if !(ok && secs.all d.tdFits) then gstBad 3 d
  else
    match (secs.filterMap d.tdWindow).head? with
    | some early => gstWindow c early d
    | none =>
      if d.gstRoom secs.length ((secs.map (·.bytes)).foldl (· + ·) 0) then
        secs.foldl (fun d x => tdStore x d) (seqTrack (roeFlow f) (roeSeq f) (gstCount 0 1 d))
      else gstEvent L.GST_EVENT_BUF_FULL c 1 (gstCount 4 1 d)

/-- The sections of the frames before frame `fn`, which ends now, go; its own are kept for the LANE block that ends it. -/
def tdPrune (fn : Nat) (d : Device) : Device := { d with tdSecs := d.tdSecs.filter fun s => 0 ≤ frameDiff s.fn fn }

/-! ## SCHED and RETRACT (R352, R353) -/

/-- `n` 16-bit values of 12 bits at the start of a body that holds exactly them, padded to 32 bits. -/
def body12 (b : List Byte) (n : Nat) : Option (List Nat) :=
  if b.length = 4 * ((n + 1) / 2) then some ((List.range n).map fun k => bitsOf (beAt b (2 * k) 2) 0 12) else none

/-- Symbol `n + j` of a carrier counted from frame `fn` (R340). -/
def Device.symPlus (d : Device) (c fn n j : Nat) : Nat × Nat :=
  let per := (d.grd c).of.perFrame
  ((fn + (n + j) / per) % 1024, (n + j) % per)

/-- A SCHED message. -/
def sched (f : List Byte) (d : Device) : Device :=
  let c := gstCarrier f
  match (d.grd c).of.atIndex (gstAt f), d.fdOn c with
  | some n, true =>
    let nsym := bitsOf (gstXw f) 0 8
    match body12 (gstBody f) nsym with
    | none => gstBad 3 d
    | some counts =>
      if nsym = 0 || 56 < nsym then gstBad 3 d
      else
        let syms := (List.range nsym).map (d.symPlus c (gstFn f) n)
        let wins := syms.map fun x => d.fdWindow c x.1 x.2
        if wins.all (·.isSome) then gstWindow c (wins.contains (some true)) d
        else
          let d := seqTrack (roeFlow f) (roeSeq f) (gstCount 0 1 d)
          ((syms.zip counts).zip wins).foldl (fun (d : Device) x =>
            if x.2.isSome then d
            else d.setSym c x.1.1.1 x.1.1.2 { d.symc c x.1.1.1 x.1.1.2 with expect := some x.1.2 }) d
  | _, _ => gstBad 2 d

/-- A RETRACT message. -/
def retract (f : List Byte) (d : Device) : Device :=
  let c := gstCarrier f
  match (d.grd c).of.atIndex (gstAt f), d.fdOn c with
  | some n, true =>
    match body12 (gstBody f) (bitsOf (gstXw f) 0 12) with
    | none => gstBad 3 d
    | some ids =>
      match d.fdWindow c (gstFn f) n with
      | some early => gstWindow c early d
      | none =>
        let all' := bitsOf (gstXw f) 31 1 == 1
        let d := seqTrack (roeFlow f) (roeSeq f) (gstCount 0 1 d)
        let s := d.symc c (gstFn f) n
        let fresh := ids.eraseDups.filter fun x => !s.gone.contains x
        let out := s.secs.filter fun x => all' || ids.contains x.id
        let s' := { s with
          gone := s.gone ++ fresh
          secs := s.secs.filter fun x => !(all' || ids.contains x.id)
          dropped := s.dropped.filter fun x => !(all' || ids.contains x)
          expect := s.expect.map fun k => if all' then 0 else k - fresh.length }
        gstCount 6 out.length
          (if out.isEmpty then d.setSym c (gstFn f) n s' else symTouch c (gstFn f) n s' d)
  | _, _ => gstBad 2 d

/-! ## The management tunnel (R358, R359) -/

/-- Shared SRAM (R64). -/
def sramBase : Nat := 0x10000000

/-- A message into the ring: its slot, WR and the doorbell; a full ring discards it. -/
def mgtDeliver (x : MgtMsg) (d : Device) : Device :=
  let n := d.get L.GST_MRING_NSLOT
  let wr := d.get L.GST_MPTR_WR % n
  if n = 0 || (wr + 1) % n = d.get L.GST_MPTR_RD % n then
    gstEvent L.GST_EVENT_MGT_LOSS 0 2 (gstCount 12 1 d)
  else
    let off := d.get L.GST_MRING_BASE * 64 + wr * 8256
    let a := sramBase + off
    let d := ((d.storeWord a (x.tag * 2 ^ 16 + x.body.length % 2 ^ 14)).storeWord (a + 4) x.seq).store (a + 64) x.body
    mbxGastad off 0x4D (d.set L.GST_MPTR_WR ((wr + 1) % n))

/-- Held messages that have become next in order are delivered. -/
def mgtDrain (flow : Nat) : List MgtMsg → Device → Device
  | [], d => d
  | x :: l, d =>
    let f := d.flow flow
    match f.high with
    | some h =>
      if x.seq = (h + 1) % 2 ^ 32 then mgtDrain flow l (mgtDeliver x (d.setFlow flow ⟨some x.seq, l⟩)) else d
    | none => d

/-- The missing values before each held message are skipped, and all are delivered (R358). -/
def mgtSkipAll (flow : Nat) : List MgtMsg → Device → Device
  | [], d => d
  | x :: l, d =>
    let gap := match (d.flow flow).high with
      | some h => seqAhead h x.seq - 1
      | none => 0
    mgtSkipAll flow l (mgtDeliver x (gstCount 11 gap (d.setFlow flow ⟨some x.seq, l⟩)))

/-- Insertion in ascending order ahead of H. -/
def mgtInsert (h : Nat) (x : MgtMsg) : List MgtMsg → List MgtMsg
  | [] => [x]
  | y :: l => if seqAhead h x.seq < seqAhead h y.seq then x :: y :: l else y :: mgtInsert h x l

/-- A gap that is given up: MGT_LOSS, then every held message in order. -/
def mgtGiveUp (flow : Nat) (d : Device) : Device :=
  gstEvent L.GST_EVENT_MGT_LOSS 0 2 (mgtSkipAll flow (d.flow flow).held d)

/-- An MGT_DL message in its flow (R358): each gap above the highest SEQ accepted counts once, and a copy of a held message is
old. -/
def mgtOrder (flow : Nat) (x : MgtMsg) (d : Device) : Device :=
  let f := d.flow flow
  match f.high with
  | none => mgtDeliver x (d.setFlow flow { f with high := some x.seq })
  | some h =>
    match seqAhead h x.seq with
    | 0 => gstCount 9 1 d
    | 1 => mgtDrain flow f.held (mgtDeliver x (d.setFlow flow { f with high := some x.seq }))
    | _ =>
      let top := (f.held.getLast?.map (·.seq)).getD h
      if f.held.any fun y => y.seq == x.seq then gstCount 9 1 d
      else
        let d := if 1 < seqAhead top x.seq then gstEvent L.GST_EVENT_SEQ_GAP 0 1 (gstCount 8 1 d) else d
        let d := d.setFlow flow { f with held := mgtInsert h x f.held }
        if 8 ≤ f.held.length then mgtGiveUp flow d else d

/-- An MGT_DL message (R338, R358). -/
def mgtDl (f : List Byte) (d : Device) : Device :=
  let b := gstBody f
  if b.length = 0 || 8192 < b.length then gstBad 3 d
  else mgtOrder (roeFlow f) ⟨roeSeq f, bitsOf (gstXw f) 0 16, b⟩ (gstCount 0 1 d)

/-- The gap of a flow stays unfilled (R358). -/
def mgtTimeout (flow : Nat) (d : Device) : Device := if (d.flow flow).held.isEmpty then d else mgtGiveUp flow d

/-! ## Echo (R360) -/

/-- An ECHO_REQ message. -/
def echoReq (f : GstFrame) (d : Device) : Device :=
  let b := gstBody f.bytes
  if 64 < b.length then gstBad 3 d
  else
    let d := seqTrack (roeFlow f.bytes) (roeSeq f.bytes) (gstCount 0 1 d)
    { d with echoes := d.echoes ++ [⟨gstS f.bytes, (f.bytes.drop (gstOff f.bytes + 8)).take 8, f.stamp / 2 ^ 32, gstXw f.bytes, b⟩] }

/-! ## Sending (R322, R334–R337) -/

/-- A Gastad frame of the device's own: class, priority code, flow, TYPE, D, NSEC, AT, XW and body.  TS is inserted at
departure.  Its destination is the cascade group address (log 24). -/
def gstSend (cls pcp flow ty dest nsec at' xw : Nat) (body : List Byte) (d : Device) : Device :=
  let seq := tabGet d.ulSeq 0 flow
  let hdr := beBytes 4 (2 ^ 28 + ty * 2 ^ 24 + dest % 2 ^ 16)
    ++ beBytes 4 (d.get L.FH_UNIT_UNIT * 2 ^ 16 + nsec % 256 * 2 ^ 8) ++ beBytes 8 0 ++ beBytes 4 at' ++ beBytes 4 xw
  let eth := beBytes 2 (d.get L.FH_MACGRP_HI_ADDR_HI) ++ beBytes 4 (d.get L.FH_MACGRP_LO_ADDR_LO)
    ++ beBytes 2 (d.get L.FH_MAC_HI_ADDR_HI) ++ beBytes 4 (d.get L.FH_MAC_LO_ADDR_LO)
    ++ beBytes 4 (0x8100 * 2 ^ 16 + pcp * 2 ^ 13 + d.get L.FH_VLAN_VID) ++ beBytes 2 0xFC3D
    ++ [0xFC] ++ beBytes 1 flow ++ beBytes 2 (24 + body.length) ++ beBytes 4 seq
  let raw := eth ++ hdr ++ body
  let bytes := raw ++ List.replicate (60 - raw.length) (0 : Byte)
  let d := { d with ulSeq := tabPut d.ulSeq flow ((seq + 1) % 2 ^ 32) }
  egUplink ⟨cls, none, bytes, 3, 0, 0, false⟩ (gstCount 16 1 d)

/-- The flow U + k (R336). -/
def Device.uflow (d : Device) (k : Nat) : Nat := (d.get L.GST_CFG_UFLOW + k) % 256

/-- The response of the oldest echo (R360). -/
def echoRsp (d : Device) : Device :=
  match d.echoes with
  | [] => d
  | e :: es =>
    gstSend 2 (d.get L.FH_VLAN_PCP_MGT) (d.uflow 6) 11 e.dest 0 0 e.id (e.ts ++ beBytes 8 e.t2 ++ e.body) { d with echoes := es }

/-- IGNORED (R388): CLASS of the block, SOURCE the writing master, reason 0 not permitted or 1 busy, offset in BAR0. -/
def ignored (island cls m reason addr : Nat) (d : Device) : Device :=
  d.log island 1 cls m (common 18) [(reason, 4), (0, 4), (addr, 24)]

/-- GO in GST_MTX by master `m` (R359): the body is taken, and BUSY is 1 until its frame is queued (log 25); `mem` is memory. -/
def mtxGo (m : Nat) (mem : List Host.Cell) (d : Device) : Device :=
  if m ≠ 12 && m ≠ 13 then ignored islePORT 13 m 0 A.GST_MTX d
  else if d.on L.GST_MTX_BUSY then ignored islePORT 13 m 1 A.GST_MTX d
  else
    let len := d.get L.GST_MTX_LEN
    if len = 0 || 8192 < len then d
    else
      let a := sramBase + 64 * d.get L.GST_MTX_ADDR_OFFSET
      let body := (List.range len).map fun k => d.peek mem (a + k)
      ({ d with port := { d.port with mtx := some (d.get L.GST_MTX_TAG, body) } }).set L.GST_MTX_BUSY 1

/-- The MGT_UL message in hand is queued (R359). -/
def mtxQueue (d : Device) : Device :=
  match d.port.mtx with
  | none => d
  | some (tag, body) =>
    let d := ({ d with port := { d.port with mtx := none } }).set L.GST_MTX_BUSY 0
    gstSend 2 (d.get L.FH_VLAN_PCP_MGT) (d.uflow 5) 9 (d.get L.GST_CFG_PEER) 0 0 tag body d

/-! ## Neighbour discovery (R321, R322)

Beads 12 and 13 answer it; the spec gives neither their IPv6 address nor the form of the answer.  The address is the link-local one of
FH_MAC, and the answer a Neighbor Advertisement of RFC 4861 (PRESUMED, log 138). -/

/-- The link-local address of FH_MAC in modified EUI-64. -/
def Device.linkLocal (d : Device) : List Byte :=
  let hi := d.get L.FH_MAC_HI_ADDR_HI
  let lo := d.get L.FH_MAC_LO_ADDR_LO
  beBytes 8 0xFE80000000000000 ++ beBytes 2 (hi ^^^ 0x200) ++ beBytes 1 (lo / 2 ^ 24) ++ [0xFF, 0xFE] ++ beBytes 3 (lo % 2 ^ 24)

/-- The Internet checksum of a list of bytes. -/
def inetSum (b : List Byte) : Nat :=
  let s := ((List.range ((b.length + 1) / 2)).map fun k => beAt b (2 * k) 2).foldl (· + ·) 0
  let f := fun (n : Nat) => n % 65536 + n / 65536
  65535 - f (f (f s))

/-- The answer to a Neighbor Solicitation for the device's address, tagged with PCP_MGT; none to any other message. -/
def Device.ndAnswer (d : Device) (f : List Byte) : Option (List Byte) :=
  let b := etherBody f
  let me := d.linkLocal
  let asker := (b.drop 8).take 16
  if byteAt b 40 = 135 && (b.drop 48).take 16 == me && b.length ≥ 64 then
    let open' := asker.all (· == 0)
    let dst : List Byte := if open' then beBytes 8 0xFF02000000000000 ++ beBytes 8 1 else asker
    let mac := beBytes 2 (d.get L.FH_MAC_HI_ADDR_HI) ++ beBytes 4 (d.get L.FH_MAC_LO_ADDR_LO)
    let head : List Byte := [136, 0]
    let rest := beBytes 4 ((if open' then 1 else 3) * 2 ^ 29) ++ me ++ [2, 1] ++ mac
    let sum := inetSum (me ++ dst ++ beBytes 4 32 ++ beBytes 4 58 ++ head ++ beBytes 2 0 ++ rest)
    some ((if open' then beBytes 6 0x333300000001 else (f.drop 6).take 6) ++ mac
      ++ beBytes 4 (0x8100 * 2 ^ 16 + d.get L.FH_VLAN_PCP_MGT * 2 ^ 13 + d.get L.FH_VLAN_VID) ++ beBytes 2 0x86DD
      ++ beBytes 4 (6 * 2 ^ 28) ++ beBytes 2 32 ++ [58, 255] ++ me ++ dst ++ head ++ beBytes 2 sum ++ rest)
  else none

/-- Beads 12 and 13 look at the neighbour-discovery frames that have come, and answer on the port each came from. -/
def ndAnswers (d : Device) : Device :=
  d.port.nd.foldl (fun d x =>
    match d.ndAnswer x.2 with
    | some b => egPush x.1 ⟨2, none, b, 4, 0, 0, false⟩ d
    | none => d) { d with port := { d.port with nd := [] } }

/-! ## Compression (R345, R347) -/

/-- (v + 2^(E−1)) >> E, v itself at E = 0. -/
def shrink (v : Int) (e : Nat) : Int := if e = 0 then v else (v + (2 ^ (e - 1) : Nat)) / (2 ^ e : Nat)

/-- A value fits an `m`-bit mantissa. -/
def mantFits (m : Nat) (v : Int) : Bool := -(2 ^ (m - 1) : Nat) ≤ v && v < (2 ^ (m - 1) : Nat)

/-- The exponent of a block at mantissa width `m`: the smallest that fits, else 16 − m. -/
def blockExp (m : Nat) (vs : List Int) : Nat :=
  ((List.range (17 - m)).find? fun e => vs.all fun v => mantFits m (shrink v e)).getD (16 - m)

/-- The items of a compressed block: its exponent and 24 mantissas. -/
def blockItems (m : Nat) (vs : List Int) : List (Nat × Nat) :=
  let e := blockExp m vs
  let top : Int := ((2 ^ (m - 1) : Nat) : Int)
  (e, 4) :: vs.map fun v => (encodeSigned m (max (-top) (min (top - 1) (shrink v e))), m)

/-- Values `24 b` to `24 b + 23`, zero beyond the end. -/
def blockVals (vals : List Int) (b : Nat) : List Int := (List.range 24).map fun k => (vals.drop (24 * b + k)).headD 0

/-- The payload of blocks `b0` to `b0 + n − 1`, padded with zero bits to 32 (R342, R345). -/
def payload (m : Nat) (vals : List Int) (b0 n : Nat) : List Byte :=
  let (v, w) := packBits ((List.range n).flatMap fun b => blockItems m (blockVals vals (b0 + b)))
  beBytes (secLen n m) (v * 2 ^ (8 * secLen n m - w))

/-! ## The uplink (R348, R356, R357) -/

/-- A mantissa width field: M − 1, values below 3 act as 3. -/
def mantissa (f : Nat) : Nat := max 3 f + 1

/-- MTU in force. -/
def Device.mtu (d : Device) : Nat := max 256 (min 9216 (d.get L.GST_UCFG_MTU))

/-- An uplink symbol, which has passed, lies where a backward step repeats time (R365). -/
def Device.ulRepeat (d : Device) (c fn n : Nat) : Bool :=
  let t := (d.tai : Int) + d.airIn (4 + c) fn n / 3840
  d.tctl.repeatFrom ≤ t && t < d.tctl.repeatTo

/-- INV, SET and INVC of a symbol of uplink carrier `c` (R348). -/
def Device.ulMarks (d : Device) (c sym : Nat) (u : UlSym) : Nat × Nat × Nat :=
  let noSample := (d.grd (4 + c)).bad.contains sym || d.ulRepeat c u.fn u.n
  let inv := u.inv || u.invc != 0 || noSample
  (bit inv, bit (u.invc != 0 && u.setRun && !noSample),
    if !inv then 0 else if u.invc = 0 || 4094 < u.invc then 0xFFF else u.invc)

/-- The most resource blocks of one section (R357). -/
def Device.secRbs (d : Device) (m : Nat) : Nat :=
  ((List.range 276).filter fun n => 70 + secLen n m ≤ d.mtu).getLastD 1

/-- The sections of one layer as header and payload. -/
def layerSections (m nrb per l : Nat) (marks : Nat × Nat × Nat) (vals : List Int) : List (List Byte) :=
  (List.range ((nrb + per - 1) / per)).map fun k =>
    let n := min per (nrb - k * per)
    let body := payload m vals (k * per) n
    beBytes 4 ((l * 128 + k) * 2 ^ 20 + l * 2 ^ 15 + marks.1 * 2 ^ 14 + marks.2.1 * 2 ^ 13 + (m - 1) * 2 ^ 8)
      ++ beBytes 4 (k * per * 2 ^ 23 + n * 2 ^ 14) ++ beBytes 4 (marks.2.2 * 2 ^ 20) ++ beBytes 4 body.length ++ body

/-- Whole sections packed into frames while they fit MTU: section counts and bodies (R357). -/
def packGreedy (mtu : Nat) (secs : List (List Byte)) : List (Nat × List Byte) :=
  secs.foldl (fun fs s =>
    match fs.getLast? with
    | some (k, b) => if 54 + b.length + s.length ≤ mtu then fs.dropLast ++ [(k + 1, b ++ s)] else fs ++ [(1, s)]
    | none => [(1, s)]) []

/-- The values of a row as they are packed: I, Q. -/
def flatRow (l : List Cx) : List Int := l.flatMap fun x => [x.1, x.2]

/-- Symbol (fn, n) of uplink carrier `c` where it has started and not departed. -/
def Device.ulFind (d : Device) (c fn n : Nat) : Option (Nat × UlSym) :=
  (d.grd (4 + c)).uls.find? fun x => x.2.fn == fn && x.2.n == n

/-- A symbol that departs now departs later than its end at the balls and UL_DLY, so readiness was the later of the two instants
(R356); less than a tick late is on time (log 130). -/
def Device.depLate (d : Device) (fn n : Nat) (u : UlSym) : Bool :=
  let dly := d.get L.GST_UCFG_UL_DLY
  dly != 0 && d.framesTo fn * frameLen + u.set.air (n + 1) - d.inFrame + (dly * 3840000 + 15625 : Nat) < 0

/-- The FD_UL frames of a symbol depart (R356, R357); it has then been computed, and never departs while a replay of it is due
(R222, R231). -/
def fdUl (c fn n : Nat) (mem : List Host.Cell) (d : Device) : Device :=
  match d.ulFind c fn n with
  | none => d
  | some (sym, _) =>
    if (d.dir 1).replay.any fun r => r.carrier == c && r.sym == sym then d
    else
      let d := ulCompute c sym mem d
      match d.ulSym c sym with
      | none => d
      | some u =>
        let d := if d.depLate fn n u then gstEvent L.GST_EVENT_DEP_LATE c 2 (gstCount 14 1 d) else d
        let g := d.grd (4 + c)
        let m := mantissa (d.get (L.GST_CCFG_UL_MW c))
        let marks := d.ulMarks c sym u
        let secs := ((List.range u.layers.length).zip u.layers).flatMap fun x =>
          layerSections m u.set.nrb (d.secRbs m) x.1 marks (flatRow x.2)
        let d := d.setGrd (4 + c) { g with uls := tabDel g.uls sym }
        (packGreedy d.mtu secs).foldl (fun d f =>
          gstSend 1 (d.get L.FH_VLAN_PCP_GST) (d.uflow c) 2 (d.get L.GST_CFG_PEER) f.1 (u.set.atOf c fn n) 0 f.2 d) d

/-- The chain a time-domain section comes from. -/
def tdChain (t : TdUl) : Nat := if t.wide then wch t.src else ddc t.src t.carrier

/-- The time-domain source is enabled (R203, R341). -/
def Device.tdUlOn (d : Device) (t : TdUl) : Bool :=
  let c := chanCfg (tdChain t) (d.chn (tdChain t)).cfg
  if t.wide then c.en && c.td
  else
    let of := (d.grd (4 + t.carrier)).of
    of.en && of.td && of.has t.src && c.en

/-- A TD_UL section departs in a frame of its own, its samples and marks those of its channel (R344, R348, R356, R357); it never
crosses the frame's end. -/
def tdUl (t : TdUl) (d : Device) : Device :=
  let len := d.chanFrame (tdChain t)
  if d.tdUlOn t && t.start < len then
    let m := mantissa (d.get L.GST_TDCFG_TD_MW)
    let n := min (max 1 (d.get L.GST_TDCFG_NBLK)) ((len - t.start + 11) / 12)
    let count := min (12 * n) (len - t.start)
    let vals := sigList (d.outSig (tdChain t) t.fn) (t.start : Nat) count
    let marks := marksOf ((List.range count).map fun (k : Nat) =>
      let x := d.outMark (tdChain t) t.fn (t.start + k : Nat)
      if x = 0 then [] else [x])
    let key := if t.wide then 256 + t.src else 4 * t.src + t.carrier
    let k := match tabGet? d.tdCount key with
      | some (fn, k) => if fn = t.fn then k else 0
      | none => 0
    let body := payload m (flatRow vals) 0 n
    let inv := marks.1 != 0
    let sec := beBytes 4 (k % 4096 * 2 ^ 20 + bit inv * 2 ^ 14 + bit (inv && marks.2.2) * 2 ^ 13 + (m - 1) * 2 ^ 8)
      ++ beBytes 4 (bit t.wide * 2 ^ 30 + t.src * 2 ^ 24 + t.start) ++ beBytes 4 (min 0xFFF marks.1 * 2 ^ 20 + n * 2 ^ 8)
      ++ beBytes 4 ((if inv then marks.2.1 else 0xFFFF) * 2 ^ 16 + body.length) ++ body
    let d := { d with tdCount := tabPut d.tdCount key (t.fn, k + 1) }
    gstSend 1 (d.get L.FH_VLAN_PCP_GST) (d.uflow 4) 4 (d.get L.GST_CFG_PEER) 1
      (t.fn * 2 ^ 22 + (if t.wide then 0 else t.carrier) * 2 ^ 10) 0 sec d
  else d

/-! ## Meanings -/

/-- The frame at the deframer's front leaves it, with check 1 of R339 and then its type's handling. -/
def gstMessage (ty : Nat) (f : GstFrame → Device → Device) (d : Device) : Device :=
  match d.gstHead ty with
  | none => d
  | some x =>
    let d := { d with deframer := d.deframer.drop 1 }
    if gstHeaderOk x.bytes then f x d else gstBad 1 d

/-- FD_DL_MESSAGE (R343). -/
def execFdDlMessage (s : State) : Host.Outcome State Fault Refusal :=
  actDev .fdDlMessage s (gstMessage 1 fun f => fdDl f.bytes)
/-- TD_DL_MESSAGE (R344). -/
def execTdDlMessage (s : State) : Host.Outcome State Fault Refusal :=
  actDev .tdDlMessage s (gstMessage 3 fun f => tdDl f.bytes)
/-- SCHED_MESSAGE (R353). -/
def execSchedMessage (s : State) : Host.Outcome State Fault Refusal :=
  actDev .schedMessage s (gstMessage 5 fun f => sched f.bytes)
/-- RETRACT_MESSAGE (R352). -/
def execRetractMessage (s : State) : Host.Outcome State Fault Refusal :=
  actDev .retractMessage s (gstMessage 7 fun f => retract f.bytes)
/-- MGT_DL_MESSAGE (R358). -/
def execMgtDlMessage (s : State) : Host.Outcome State Fault Refusal :=
  actDev .mgtDlMessage s (gstMessage 8 fun f => mgtDl f.bytes)
/-- ECHO_REQ_MESSAGE (R360). -/
def execEchoReqMessage (s : State) : Host.Outcome State Fault Refusal := actDev .echoReqMessage s (gstMessage 10 echoReq)
/-- ECHO_RSP_READY (R360). -/
def execEchoRspReady (s : State) : Host.Outcome State Fault Refusal := actDev .echoRspReady s echoRsp
/-- FD_UL_DEPART (R356). -/
def execFdUlDepart (c fn n : Nat) (s : State) : Host.Outcome State Fault Refusal :=
  act (.fdUlDepart c fn n) s (fdUl c fn n)
/-- TD_UL_DEPART (R356). -/
def execTdUlDepart (t : TdUl) (s : State) : Host.Outcome State Fault Refusal := actDev (.tdUlDepart t) s (tdUl t)
/-- MGT_REORDER_TIMEOUT (R358). -/
def execMgtReorderTimeout (flow : Nat) (s : State) : Host.Outcome State Fault Refusal :=
  actDev (.mgtReorderTimeout flow) s (mgtTimeout flow)

end Sys2Proof.Machine
end

