-- ==== Sys2Proof/Machine/Time.lean ====
section
/-! DEFINITION. Network time: the counter and its commits, steps, validity, PTP transmission, captures, pulses and sleep
accounting (R361–R385). -/
namespace Sys2Proof.Machine

/-! ## Events -/

/-- An event of the TIME block (CLASS 3, REG 0, PORT). -/
def timeEvent (l : Loc) (src sev : Nat) (items : List (Nat × Nat)) (d : Device) : Device :=
  d.event l islePORT 3 src 0 sev items

/-- A change of VSTATE and its record (R369, R388); HOLDOVER and UNSET are WARN (R398). -/
def setVstate (new : Nat) (d : Device) : Device :=
  let old := d.get L.TIME_STAT_VSTATE
  if old = new then d
  else (d.set L.TIME_STAT_VSTATE new).log islePORT (if new = 0 || new = 3 then 2 else 0) 3 0 (common 17)
    [(new, 3), (old, 3), (0, 26)]

/-! ## Commits -/

/-- The wide value of two words, the lower first. -/
def Device.wide2 (d : Device) (a : Nat) : Nat := d.rd a + d.rd (a + 4) * 2 ^ 32

/-- A SET is committed (R364); NS above 999,999,999 acts as that. -/
def setCommit (d : Device) : Device :=
  let ns := min 999999999 (d.get L.TIME_SET_W0_NS)
  let sec := d.get L.TIME_SET_W1_SEC_LO + d.get L.TIME_SET_W2_SEC_HI * 2 ^ 32
  ({ d with tctl := { d.tctl with setPend := some (sec * 10 ^ 9 + ns) } }).set L.TIME_STAT_SET_PEND 1

/-- An ADJ is committed (R364). -/
def adjCommit (d : Device) : Device :=
  ({ d with tctl := { d.tctl with adjPend := some (signedOf 64 (d.wide2 A.TIME_ADJ_W0)) } }).set L.TIME_STAT_ADJ_PEND 1

/-- An increment within 200 ppm of 3,125/768 ns (R362). -/
def incOk (inc : Nat) : Bool :=
  (((inc * 768 : Nat) : Int) - ((3125 * 2 ^ 32 : Nat) : Int)).natAbs * 10 ^ 6 ≤ 200 * 3125 * 2 ^ 32

/-- An INC is committed, or refused with INC_ERR (R362). -/
def incCommit (d : Device) : Device :=
  let inc := d.wide2 A.TIME_INC_W0
  if incOk inc then ({ d with tctl := { d.tctl with incPend := some inc } }).set L.TIME_STAT_INC_PEND 1
  else
    let keep := d.tctl.incPend.getD d.tctl.inc
    timeEvent L.TIME_EVENT_INC_ERR 0 1 [] ((d.set L.TIME_INC_W0_FRAC (keep % 2 ^ 32)).set L.TIME_INC_W1_NS (keep / 2 ^ 32))

/-- A FOFF write waits for its tick, or is refused with INC_ERR (R367). -/
def foffCommit (d : Device) : Device :=
  let f := d.get L.TIME_FRAME_FOFF
  if f ≤ 9999999 then { d with tctl := { d.tctl with foffPend := some f } }
  else timeEvent L.TIME_EVENT_INC_ERR 0 1 [] (d.set L.TIME_FRAME_FOFF (d.tctl.foffPend.getD d.tctl.foff))

/-! ## Pulses (R378, R379) -/

/-- An output with no schedule. -/
def PulseCtl.idle : PulseCtl := ⟨none, none⟩
/-- Output `k`. -/
def Device.pulse (d : Device) (k : Nat) : PulseCtl := tabGet d.tctl.pulses PulseCtl.idle k

/-- Replace output `k`; ARMED follows. -/
def setPulse (k : Nat) (p : PulseCtl) (d : Device) : Device :=
  ({ d with tctl := { d.tctl with pulses := tabPut d.tctl.pulses k p } }).set (L.TP_STAT_ARMED k) (bit p.sched.isSome)

/-- `n` pulses of output `k` are missed or suppressed: MISSED, and TP_MISS at most once per 1 ms (SOURCE 0x20 + k). -/
def pulseMiss (k n : Nat) (d : Device) : Device :=
  if n = 0 then d
  else (d.addSat (L.TP_STAT_MISSED k) n).eventLimited L.TIME_EVENT_TP_MISS ticksPerMs islePORT 3 (0x20 + k) 0 2 []

/-- The schedule after `n` further pulses; a once schedule ends with its only one. -/
def PulseSched.after (p : PulseSched) (n : Nat) : Option PulseSched :=
  if n = 0 then some p else if p.periodic then some { p with k := p.k + n } else none

/-- Pulses whose instant lies before `now`, the counter in ns rounded up. -/
def PulseSched.passed (p : PulseSched) (now : Nat) : Nat :=
  let t := p.start + p.k * p.period
  if now ≤ t then 0 else if p.periodic then (now - t + p.period - 1) / p.period else 1

/-- k moves past the pulses whose instant the counter has passed, and they are counted while the output is enabled (R378). -/
def pulsePass (k : Nat) (d : Device) : Device :=
  let p := d.pulse k
  match p.sched with
  | none => d
  | some s =>
    let n := s.passed (d.tai + bit (d.time.frac != 0))
    (setPulse k { p with sched := s.after n } d).when (d.on (L.TP_CFG_EN k)) (pulseMiss k n)

/-- The highest word of TP_START is written (R378). -/
def pulseArm (k : Nat) (d : Device) : Device :=
  let start := (d.get (L.TP_START_W1_SEC_LO k) + d.get (L.TP_START_W2_SEC_HI k) * 2 ^ 32) * 10 ^ 9 + d.get (L.TP_START_W0_NS k)
  let width := d.get (L.TP_WIDTH_WIDTH k)
  let period := d.get (L.TP_PERIOD_PERIOD k)
  let periodic := d.on (L.TP_CFG_MODE k)
  if width < 20 || (periodic && (period < width + 20 || period < 40)) then
    timeEvent L.TIME_EVENT_TP_ERR (0x20 + k) 1 [] d
  else
    let s : PulseSched := ⟨start, period, width, periodic, 0⟩
    if d.on (L.TP_STAT_HIGH k) then setPulse k { d.pulse k with next := some s } d
    else pulsePass k (setPulse k ⟨some s, none⟩ d)

/-- The output falls: a commit that waited takes effect. -/
def pulseLow (k : Nat) (d : Device) : Device :=
  let d := d.set (L.TP_STAT_HIGH k) 0
  match (d.pulse k).next with
  | some s => pulsePass k (setPulse k ⟨some s, none⟩ d)
  | none => d

/-- The time is valid for the output (R379). -/
def Device.pulseValid (d : Device) (k : Nat) : Bool :=
  let v := d.get L.TIME_STAT_VSTATE
  d.tickRuns && (if d.on (L.TP_CFG_VREQ k) then v == 2 || v == 3 else v != 0)

/-- The instant of output `k`'s next pulse comes. -/
def pulseDue (k : Nat) (d : Device) : Device :=
  match (d.pulse k).sched with
  | none => d
  | some s =>
    let d := setPulse k { d.pulse k with sched := s.after 1 } d
    if !d.on (L.TP_CFG_EN k) then d
    else if d.pulseValid k then d.set (L.TP_STAT_HIGH k) 1
    else pulseMiss k 1 d

/-- TP_CFG written: EN = 0 holds the output low. -/
def pulseCfg (k : Nat) (d : Device) : Device :=
  if !d.on (L.TP_CFG_EN k) && d.on (L.TP_STAT_HIGH k) then pulseLow k d else d

/-! ## PTP transmission (R373) -/

/-- GO in TIME_PTX by master `m`: the frame of shared SRAM, with the tag of R322, is taken for the ports named, and BUSY is 1 until it
is queued (log 25). -/
def ptxGo (m : Nat) (mem : List Host.Cell) (d : Device) : Device :=
  let port := d.get L.TIME_PTX_PORT
  let op := d.get L.TIME_PTX_OP
  let len := d.get L.TIME_PTX_LEN
  if m ≠ 14 then ignored islePORT 3 m 0 A.TIME_PTX d
  else if d.on L.TIME_PTX_BUSY then ignored islePORT 3 m 1 A.TIME_PTX d
  else if port = 3 || op = 3 || len < 14 || 1500 < len then d
  else
    let a := sramBase + 64 * d.get L.TIME_PTX_ADDR_OFFSET
    let raw := (List.range len).map fun k => d.peek mem (a + k)
    let tag := beBytes 4 (0x8100 * 2 ^ 16 + d.get L.FH_VLAN_PCP_PTP * 2 ^ 13 + d.get L.FH_VLAN_VID)
    let b := raw.take 12 ++ tag ++ raw.drop 12
    let f : EgFrame := ⟨0, none, b ++ List.replicate (60 - b.length) (0 : Byte), op,
      d.get L.TIME_PTX_T2_W0_WORD + d.get L.TIME_PTX_T2_W1_WORD * 2 ^ 32, 0, false⟩
    ({ d with port := { d.port with ptx := some (port, f) } }).set L.TIME_PTX_BUSY 1

/-- Every copy of the PTP frame in hand is queued; one for a port that is not UP is discarded (R373). -/
def ptxQueue (d : Device) : Device :=
  match d.port.ptx with
  | none => d
  | some (port, f) =>
    let d := ({ d with port := { d.port with ptx := none } }).set L.TIME_PTX_BUSY 0
    let one := fun (q : Nat) (d : Device) =>
      if d.link q = 3 then egPush q f d else timeEvent L.TIME_EVENT_PTX_DROP 0 1 [] (egDrop q d)
    let d := if port = 0 || port = 2 then one 0 d else d
    if port = 1 || port = 2 then one 1 d else d

/-! ## The tick (R362, R364, R365, R370) -/

/-- A symbol is marked invalid (R365). -/
def symMark (i : Nat) (x : Nat × Nat) (d : Device) : Device :=
  if i < 4 then
    let d := d.setSym i x.1 x.2 { d.symc i x.1 x.2 with invalid := true }
    let g := d.grd i
    d.setGrd i { g with waves := g.waves.map fun w =>
      if w.fn = x.1 && w.n = x.2 then { w with rows := [], void := g.of.paths } else w }
  else
    let g := d.grd i
    let sym := d.symOf i x.1 x.2
    let d := d.setGrd i { g with bad := if g.bad.contains sym then g.bad else sym :: g.bad }
    match d.ulSym (i - 4) sym with
    | some u => d.setUl (i - 4) sym { u with inv := true }
    | none => d

/-- The symbols on air of every carrier. -/
def symsMark (d : Device) : Device :=
  d.each 8 fun i d => if (d.grd i).of.live then symMark i (d.onAir i) d else d

/-- The counter at a value in 2^-32 ns. -/
def setCounter (t : Nat) (d : Device) : Device :=
  let ns := t / 2 ^ 32
  { d with time := ⟨ns / 10 ^ 9 % 2 ^ 48, ns % 10 ^ 9, t % 2 ^ 32⟩ }

/-- A measurement of the crystal in progress ends with CAL_ERR (R384). -/
def calBreak (d : Device) : Device :=
  if d.on L.EMB_CAL_BUSY then timeEvent L.TIME_EVENT_CAL_ERR 0 1 [] (d.set L.EMB_CAL_BUSY 0) else d

/-- The step is broadcast to every island at once, and a new epoch of stamps begins (R391). -/
def epochStep (d : Device) : Device := { d with tally := { d.tally with epoch := d.tally.epoch + 1, clocks := [] } }

/-- A step has moved the frame grid by `delta` (in 2^-32 ns, R365); `old` is the device before it.  The record carries the amount at the
width of the counter, 112 bits in 2^-32 ns (R389; log 138). -/
def stepEffects (old : Device) (delta : Int) (d : Device) : Device :=
  let mark := fun (e : Device) => (List.range 8).filterMap fun i => if (e.grd i).of.live then some (i, e.onAir i) else none
  let d := (mark old ++ mark d).foldl (fun d x => symMark x.1 x.2 d) d
  let back : Nat := ((-delta) / (2 ^ 32 : Nat)).toNat
  let lands := if d.tai < d.tctl.repeatTo then min d.tctl.repeatFrom d.tai else d.tai
  let d := if back = 0 then d
    else { d with tctl := { d.tctl with repeatFrom := lands, repeatTo := max d.tctl.repeatTo (d.tai + back) } }
  let d := calBreak ((epochStep d).set L.CLK_STAT_ALIGNED 0)
  let d := d.each 8 pulsePass
  timeEvent L.TIME_EVENT_STEP 0 0 [(encodeSigned 112 delta, 112)] d

/-- The uncertainty grows in HOLDOVER and COASTED (R370). -/
def uncGrow (d : Device) : Device :=
  let v := d.get L.TIME_STAT_VSTATE
  if v = 3 || v = 4 then
    let f := d.tctl.uncFrac + d.tctl.inc * d.get L.TIME_UNCRATE_HOLD_RATE
    let unit := 2 ^ 32 * 10 ^ 9
    ({ d with tctl := { d.tctl with uncFrac := f % unit } }).addSat L.TIME_UNC_UNC (f / unit)
  else d

/-- One tick of the counter: the increment, and the commits that fall due (R362, R364).  An increment taken that is not the
nominal one, the rate of REFCLK, clears ALIGNED (R100; log 112). -/
def counterTick (d : Device) : Device :=
  let c := d.tctl
  let inc := c.incPend.getD c.inc
  let plain := (d.counter + inc) % timeSpan
  let target : Nat := match c.setPend, c.adjPend with
    | some ns, _ => ns * 2 ^ 32 % timeSpan
    | none, some a => ((((d.counter + inc : Nat) : Int) + a) % (timeSpan : Nat)).toNat
    | none, none => plain
  let foff := c.foffPend.getD c.foff
  let stepped := c.setPend.isSome || (match c.adjPend with | some a => a != 0 | none => false) || foff != c.foff
  let lost := c.setPend.isSome && c.adjPend.isSome
  let delta : Int := (match c.setPend, c.adjPend with
    | some _, _ => (target : Int) - plain
    | none, some a => a
    | none, none => 0) - ((foff : Int) - c.foff) * (2 ^ 32 : Nat)
  let d1 := setCounter target { d with
    tctl := { c with inc := inc, foff := foff, setPend := none, adjPend := none, incPend := none, foffPend := none } }
  let d1 := ((d1.set L.TIME_STAT_SET_PEND 0).set L.TIME_STAT_ADJ_PEND 0).set L.TIME_STAT_INC_PEND 0
  let d1 := d1.when (c.incPend.isSome && inc != nominalInc) fun d => d.set L.CLK_STAT_ALIGNED 0
  let d1 := if stepped then stepEffects (setCounter plain d) delta d1 else d1
  let d1 := if lost then timeEvent L.TIME_EVENT_ADJ_LOST 0 1 [] d1 else d1
  uncGrow (if c.setPend.isSome then setVstate 1 d1 else d1)

/-- The watchdog period of a Bead runs: armed, its Bead neither stopped nor halted, and the device awake or before entry step 3
(R410, R499). -/
def Device.wdogRuns (d : Device) (n : Nat) : Bool :=
  d.on (L.MBX_WDOG_EN n) && d.get (L.MBX_BSTAT_STATE n) != 2 && d.get (L.MBX_BSTAT_STATE n) != 3 && d.asleep == 0 &&
    decide (d.get L.PWR_SSTAT_STEP < 3)

/-- Every watchdog that runs does so for a tick (R410). -/
def wdogTick (d : Device) : Device :=
  { d with wdogRan := d.wdogRan.map fun x => if d.wdogRuns x.1 then (x.1, x.2 + 1) else x }

/-- Cooldowns stand still in S2 (R499). -/
def coolHold (d : Device) : Device :=
  d.when (d.asleep == 2) fun d => { d with dmp := d.dmp.map fun x => (x.1, { x.2 with coolFrom := x.2.coolFrom + 1 }) }

/-- One network-time tick; without a tick source the counter stands still.  Frames that PORT is copying are queued by then
(log 25), and Beads 12 and 13 answer what has come (log 138). -/
def timeTick (d : Device) : Device :=
  let d := coolHold (wdogTick (ndAnswers (ptxQueue (mtxQueue d))))
  let d := if d.tickRuns then counterTick d else d
  { d with ticks := d.ticks + 1 }

/-! ## Validity (R369) -/

/-- VGO in TIME_CTL. -/
def vgo (st : Nat) (d : Device) : Device :=
  let v := d.get L.TIME_STAT_VSTATE
  let kick := fun (d : Device) => { d with tctl := { d.tctl with kickFrom := d.ticks } }
  if st = 2 && (v = 1 || v = 3 || v = 4) then kick (setVstate 2 d)
  else if st = 2 && v = 2 then kick d
  else if st = 3 && (v = 2 || v = 4) then setVstate 3 d
  else if st = 0 && v ≠ 0 then setVstate 0 d
  else timeEvent L.TIME_EVENT_STATE_ERR 0 1 [] d

/-- KICK in TIME_CTL. -/
def kick (d : Device) : Device := { d with tctl := { d.tctl with kickFrom := d.ticks } }

/-- TIME_CTL written with the given VGO, KICK and STATE. -/
def timeCtl (v k st : Nat) (d : Device) : Device :=
  let d := if v = 1 then vgo st d else d
  if k = 1 then kick d else d

/-- No KICK for HOLD_TMO ms. -/
def holdTimeout (d : Device) : Device :=
  if d.get L.TIME_STAT_VSTATE = 2 && d.get L.TIME_CFG_HOLD_TMO ≠ 0 then setVstate 3 d else d

/-! ## Captures (R377) -/

/-- Entries of capture input `i`. -/
def Device.caps (d : Device) (i : Nat) : List (List Nat) := tabGet d.tctl.tcap [] i

/-- Replace them; LEVEL follows. -/
def setCaps (i : Nat) (l : List (List Nat)) (d : Device) : Device :=
  ({ d with tctl := { d.tctl with tcap := tabPut d.tctl.tcap i l } }).set (L.TCAP_STAT_LEVEL i) l.length

/-- An edge at a capture input. -/
def tcapEdge (i : Nat) (rising : Bool) (d : Device) : Device :=
  let e := d.get (L.TCAP_CFG_EDGE i)
  if d.on (L.TCAP_CFG_EN i) && d.tickRuns && (e ≥ 2 || e == bit (!rising)) then
    if 8 ≤ (d.caps i).length then timeEvent L.TIME_EVENT_TCAP_OVF (0x10 + i) 1 [] (d.inc (L.TCAP_STAT_OVF i))
    else setCaps i (d.caps i ++ [stampWords d.counter (bit (!rising)) 0]) d
  else d

/-- The words a read of TCAP_ENTRY returns. -/
def Device.capWords (d : Device) (i : Nat) : List Nat := ((d.caps i).headD [0, 0, 0]).take 3

/-- A Bead's read of TCAP_ENTRY removes the head. -/
def tcapRemove (i : Nat) (d : Device) : Device := setCaps i ((d.caps i).drop 1) d

/-- The words a read of TIME_ETS returns. -/
def Device.etsWords (d : Device) : List Nat := d.ets.headD [0, 0, 0, 0]

/-- A Bead's read of TIME_ETS removes the head (R373). -/
def etsRemove (d : Device) : Device :=
  ({ d with ets := d.ets.drop 1 }).set L.TIME_PSTAT_ETS_LVL (d.ets.length - 1)

/-! ## Crystal calibration (R384) -/

/-- GO in EMB_CAL; while a measurement runs it has no effect. -/
def embGo (d : Device) : Device :=
  if d.on L.EMB_CAL_BUSY then d
  else if d.get L.TIME_STAT_VSTATE ≠ 2 then timeEvent L.TIME_EVENT_CAL_ERR 0 1 [] d
  else ({ d with tctl := { d.tctl with calN := max 10 (min 20 (d.get L.EMB_CAL_N)) } }).set L.EMB_CAL_BUSY 1

/-- The window ends: `span` is the counter between its two edges in 2^-32 ns. -/
def embDone (span : Nat) (d : Device) : Device :=
  if d.on L.EMB_CAL_BUSY then
    let p := span / 2 ^ d.tctl.calN
    let d := (d.set L.EMB_PERIOD_W0_FRAC (p % 2 ^ 32)).set L.EMB_PERIOD_W1_NS (p / 2 ^ 32)
    timeEvent L.TIME_EVENT_CAL_DONE 0 0 [] (d.set L.EMB_CAL_BUSY 0)
  else d

/-! ## Sleep accounting (R381–R383) -/

/-- The entry step that stops the tick: what Ember keeps, at crystal count `e0` (R381). -/
def timeSave (e0 : Nat) (d : Device) : Device :=
  { d with tctl := { d.tctl with
      saved := some ⟨d.counter, e0, d.get L.TIME_STAT_VSTATE, d.get L.TIME_UNC_UNC, d.tctl.inc, none,
        d.get L.TIME_UNCRATE_EMB_UNC, d.ticks⟩ } }

/-- EMB_PERIOD in 2^-32 ns. -/
def Device.embPeriod (d : Device) : Nat := d.wide2 A.EMB_PERIOD_W0

/-- The counter is loaded at crystal count `e1` (R382, R383). -/
def timeBridge (e1 : Nat) (d : Device) : Device :=
  match d.tctl.saved with
  | none => d
  | some s =>
    let diff := fun (a b : Nat) => (a + 2 ^ 48 - b) % 2 ^ 48
    let cyc := diff e1 s.e0
    let elapsed := match s.stop with
      | some x => diff x s.e0 * d.embPeriod + diff e1 x * (625 * 2 ^ 32 / 10)
      | none => cyc * d.embPeriod
    let unc := match s.stop with
      | some _ => 2 ^ 32 - 1
      | none => min (2 ^ 32 - 1) (s.unc + 9 + elapsed * s.embUnc / (2 ^ 32 * 10 ^ 9))
    let v := match s.stop with
      | some _ => if s.vstate = 0 then 0 else 1
      | none => if s.vstate ≤ 1 then s.vstate else 4
    let d := setCounter ((s.te + elapsed) % timeSpan) { d with tickRuns := true, tctl := { d.tctl with inc := s.inc, saved := none } }
    let d := (d.set L.TIME_INC_W0_FRAC (s.inc % 2 ^ 32)).set L.TIME_INC_W1_NS (s.inc / 2 ^ 32)
    let d := ((d.set L.TIME_SLEEP_W0_CYC_LO (cyc % 2 ^ 32)).set L.TIME_SLEEP_W1_CYC_HI (cyc / 2 ^ 32)).set L.TIME_SLEEP_W1_RCFB
      (bit s.stop.isSome)
    let d := setVstate v (d.set L.TIME_UNC_UNC unc)
    (timeEvent L.TIME_EVENT_BRIDGE 0 0 [(elapsed / 2 ^ 32, 64), (unc, 32)] d).each 8 pulsePass

/-- XIN stops between entry and wake (R383): the Ember count at which it stops. -/
def xinStop (e : Nat) (d : Device) : Device :=
  match d.tctl.saved with
  | some s => if s.stop.isSome then d else { d with tctl := { d.tctl with saved := some { s with stop := some e } } }
  | none => d

/-- A warm reset keeps the counter, INC, UNC, FOFF and FN_ADD; pulses, captures, egress entries and the
receive buffer clear (R385).  The register file has been reset before. -/
def timeWarm (old d : Device) : Device :=
  let keep := fun (l : Loc) (d : Device) => d.set l (old.get l)
  let d := { d with
    time := old.time, tickRuns := old.tickRuns, ets := []
    tctl := { old.tctl with tcap := [], pulses := [], calN := 0, setPend := none, adjPend := none, incPend := none } }
  let d := keep L.TIME_INC_W0_FRAC (keep L.TIME_INC_W1_NS (keep L.TIME_UNC_UNC (keep L.TIME_FRAME_FOFF (keep L.TIME_CFG_FN_ADD d))))
  keep L.EMB_PERIOD_W0_FRAC (keep L.EMB_PERIOD_W1_NS (keep L.TIME_STAT_VSTATE d))

/-- LOCKED becomes HOLDOVER at a warm reset, but not at the reset of an S3 wake (R369, R385, R503). -/
def timeHold (d : Device) : Device := if d.get L.TIME_STAT_VSTATE = 2 then setVstate 3 d else d

/-! ## Meanings -/

/-- TIME_STEP_APPLY (R364, R365). -/
def execTimeStepApply (s : State) : Host.Outcome State Fault Refusal := actDev .timeStepApply s timeTick
/-- HOLD_TIMEOUT (R369). -/
def execHoldTimeout (s : State) : Host.Outcome State Fault Refusal := actDev .holdTimeout s holdTimeout
/-- TCAP_EDGE (R377). -/
def execTcapEdge (i : Nat) (rising : Bool) (s : State) : Host.Outcome State Fault Refusal :=
  actDev (.tcapEdge i rising) s (tcapEdge i rising)
/-- PULSE_DUE (R378, R379). -/
def execPulseDue (k : Nat) (s : State) : Host.Outcome State Fault Refusal := actDev (.pulseDue k) s (pulseDue k)
/-- PULSE_WIDTH_END (R378). -/
def execPulseWidthEnd (k : Nat) (s : State) : Host.Outcome State Fault Refusal := actDev (.pulseWidthEnd k) s (pulseLow k)
/-- EMB_CAL_DONE (R384). -/
def execEmbCalDone (span : Nat) (s : State) : Host.Outcome State Fault Refusal :=
  actDev (.embCalDone span) s (embDone span)

end Sys2Proof.Machine
end

