-- ==== Sys2Proof/Machine/Tally.lean ====
section
/-! DEFINITION. The Tally log: merger, ring, kept ring, fault latch, interrupt request, escalation, and memory protection
(R386–R405). -/
namespace Sys2Proof.Machine

/-! ## Record words -/

/-- The four words of a record (R386). -/
def LogRec.words (r : LogRec) : List Nat :=
  [r.stamp % 2 ^ 32, r.stamp / 2 ^ 32 % 2 ^ 32,
    r.island % 16 * 2 ^ 28 + bit r.late * 2 ^ 27 + r.sev % 8 * 2 ^ 24 + r.cls % 32 * 2 ^ 19 + r.src % 128 * 2 ^ 12 + r.code % 2 ^ 12,
    r.payload.toNat]

/-- An event of TLY_EVENT: CLASS TALLY, SOURCE the FABRIC island, REG 0; it raises the request (R400). -/
def tallyEvent (l : Loc) (period : Nat) (d : Device) : Device :=
  tallyIrq (d.eventLimited l period isleFABRIC 2 isleFABRIC 0 1 [])

/-! ## The ring (R394) -/

/-- Entries of the ring. -/
def Device.ringSize (d : Device) : Nat := 2 ^ d.get L.TLY_RING_SZ
/-- The entry written next; a ring made smaller since keeps WR within itself. -/
def Device.ringEntry (d : Device) : Nat := d.get L.TLY_WR_WR % d.ringSize
/-- Unread entries. -/
def Device.ringLevel (d : Device) : Nat :=
  (d.ringEntry + d.ringSize - d.get L.TLY_RD_RD % d.ringSize) % d.ringSize
/-- The ring is full: WR + 1 = RD modulo 2^SZ. -/
def Device.ringFull (d : Device) : Bool := (d.get L.TLY_WR_WR + 1) % d.ringSize == d.get L.TLY_RD_RD % d.ringSize

/-- TLY_STAT follows the pointers. -/
def ringShow (d : Device) : Device := (d.set L.TLY_STAT_LEVEL d.ringLevel).set L.TLY_STAT_FULL (bit d.ringFull)

/-- One record at entry WR; LEVEL reaching LVL_THR raises the request, a ring that becomes full its event. -/
def ringPut (r : LogRec) (d : Device) : Device :=
  let wr := d.ringEntry
  let a := 0x10000000 + d.get L.TLY_RING_BASE * 4096 + 16 * wr
  let before := d.ringLevel
  let d := (r.words.zip [0, 4, 8, 12]).foldl (fun (d : Device) x => d.storeWord (a + x.2) x.1) d
  let d := ringShow (d.set L.TLY_WR_WR ((wr + 1) % d.ringSize))
  let thr := d.get L.TLY_LVL_THR_LVL_THR
  let d := if thr ≠ 0 && before < thr && thr ≤ d.ringLevel then tallyIrq d else d
  if d.ringFull && before + 1 = d.ringLevel then tallyEvent L.TLY_EVENT_FULL ticksPerMs d else d

/-- An emitted record goes to the ring (R394). -/
def ringWrite (r : LogRec) (d : Device) : Device :=
  if d.ringFull then
    if d.on L.TLY_CFG_MODE then
      { (d.inc L.TLY_CNT_DROP) with tally := { d.tally with dropped := d.tally.dropped + 1 } }
    else
      ringPut r ((d.set L.TLY_RD_RD ((d.get L.TLY_RD_RD + 1) % d.ringSize)).inc L.TLY_CNT_OVWR)
  else if d.tally.dropped = 0 then ringPut r d
  else
    let lost : LogRec := ⟨r.stamp, isleFABRIC, false, 2, 2, isleFABRIC, common 12, word d.tally.dropped, r.epoch⟩
    let d := ringPut lost { d with tally := { d.tally with dropped := 0 } }
    if d.ringFull then
      if d.on L.TLY_CFG_MODE then { (d.inc L.TLY_CNT_DROP) with tally := { d.tally with dropped := 1 } }
      else ringPut r ((d.set L.TLY_RD_RD ((d.get L.TLY_RD_RD + 1) % d.ringSize)).inc L.TLY_CNT_OVWR)
    else ringPut r d

/-! ## Emission (R393, R396, R399, R400, R405) -/

/-- Whether the merger can emit `n` records: into the ring, or into the 256 it holds while EN = 0 (R394). -/
def Device.canEmit (d : Device) (n : Nat) : Bool := d.on L.TLY_CFG_EN || d.tally.backlog.length + n ≤ 256

/-- A copy in the kept ring (R396). -/
def keepRec (r : LogRec) (d : Device) : Device :=
  let k := d.get L.TLY_KEEP_WR_WR
  ({ d with tally := { d.tally with kept := tabPut d.tally.kept k r } }).set L.TLY_KEEP_WR_WR ((k + 1) % 256)

/-- The first record of the highest severity since FN_LATCH last cleared (R399). -/
def faultRec (r : LogRec) (d : Device) : Device :=
  let higher := match d.tally.faultSev with
    | none => true
    | some s => s < r.sev
  if higher then
    let d := { d with tally := { d.tally with faultSev := some r.sev } }
    (r.words.zip [0, 1, 2, 3]).foldl (fun (d : Device) x => d.set (L.TLY_FAULT_REC_WORD x.2) x.1) d
  else d

/-- Network-time ticks of 1 s. -/
def ticksPerS : Nat := 245760000

/-- Records of SEV 3 or 4 of a pair within 1 s; ESCALATE at ESC_N, at most one in the next 1 s (R405). -/
def escalate (r : LogRec) (d : Device) : Device :=
  if r.sev = 3 || r.sev = 4 then
    let key := 128 * r.cls + r.src
    let recent := (d.ticks :: tabGet d.tally.window [] key).filter fun t => d.ticks - t < ticksPerS
    let d := { d with tally := { d.tally with window := tabPut d.tally.window key recent } }
    let n := d.get L.TLY_CFG_ESC_N
    let quiet := match tabGet? d.tally.escalated key with
      | some t => ticksPerS ≤ d.ticks - t
      | none => true
    if n ≠ 0 && n ≤ recent.length && quiet then
      ({ d with tally := { d.tally with escalated := tabPut d.tally.escalated key d.ticks } }).log isleFABRIC 6 r.cls r.src
        (common 13) [(r.cls, 8), (r.src, 8), (recent.length, 16)]
    else d
  else d

/-- The merger emits one record. -/
def emitRec (r : LogRec) (d : Device) : Device :=
  let d := d.inc (L.TLY_SEVCNT_COUNT r.sev)
  let d := d.set L.TLY_STAT_MAXSEV (max (d.get L.TLY_STAT_MAXSEV) r.sev)
  let d := faultRec r d
  let d := if d.get L.TLY_CFG_KEEP_SEV ≤ r.sev then keepRec r d else d
  let d := if d.get L.TLY_CFG_FN_SEV ≤ r.sev then d.set L.TLY_FAULT_FN_LATCH 1 else d
  let d := if d.get L.TLY_CFG_IRQ_SEV ≤ r.sev then tallyIrq d else d
  let d := escalate r d
  if d.on L.TLY_CFG_EN then ringWrite r d
  else { d with tally := { d.tally with backlog := d.tally.backlog ++ [r] } }

/-- Merge order (R391, R393): epoch, stamp, island; equals keep their order. -/
def recBefore (a b : LogRec) : Bool :=
  if a.epoch ≠ b.epoch then a.epoch < b.epoch
  else if a.stamp ≠ b.stamp then a.stamp < b.stamp
  else a.island < b.island

/-- A record among those the merger holds. -/
def mergeIn (r : LogRec) : List LogRec → List LogRec
  | [] => [r]
  | x :: l => if recBefore r x then r :: x :: l else x :: mergeIn r l

/-- The STEP record of TIME_EVENT (R391), its first word. -/
def LogRec.isStep (r : LogRec) : Bool := r.cls == 3 && r.code == 0

/-- The parts of one record are emitted consecutively (R389). -/
def emitParts (rs : List LogRec) (d : Device) : Device := rs.foldl (fun d r => emitRec r d) d

/-- Records with LATE = 1 are emitted at once and counted (R393). -/
def emitLate (rs : List LogRec) (d : Device) : Device :=
  emitParts (rs.map fun r => { r with late := true }) (d.addSat L.TLY_LATE_LATE rs.length)

/-- A further record with the content of `r`: the same stamp, island, class, source and code, with CONT = 1 (R389). -/
def LogRec.follows (r x : LogRec) : Bool :=
  x.code == r.code % 2048 + 2048 && x.stamp == r.stamp && x.island == r.island && x.cls == r.cls && x.src == r.src && x.epoch == r.epoch

/-- A record's parts at the front of a list, its first at hand, and what follows them (R389). -/
def recordParts (r : LogRec) (l : List LogRec) : List LogRec × List LogRec := (r :: l.takeWhile r.follows, l.dropWhile r.follows)

/-- Ember holds records of a sleep, which come before any of the waking islands (R392). -/
def Device.sleepRecords (d : Device) : Bool := match tabGet d.tally.bufs [] isleEMBER with
  | r :: _ => r.late
  | [] => false

/-- A STEP record reaches the merger: every held record of an older epoch, then it, then the new epoch (R391). -/
def mergeStep (r : LogRec) (parts : List LogRec) (d : Device) : Device :=
  let old := d.tally.held.filter fun x => x.epoch < r.epoch
  let d := { d with tally := { d.tally with held := d.tally.held.filter fun x => r.epoch ≤ x.epoch, merged := r.epoch } }
  emitParts parts (emitParts old d)

/-- The oldest record of an island's buffer, with its parts, reaches the merger (R389, R391, R393); those of a sleep come first
(R392), and none comes in S2 and S3. -/
def tallyArrive (i : Nat) (d : Device) : Device :=
  match tabGet d.tally.bufs [] i with
  | [] => d
  | r :: l =>
    let (parts, l) := recordParts r l
    if !d.canEmit parts.length || d.emberSleeps || (i != isleEMBER && d.sleepRecords) then d
    else
      let d := ({ d with tally := { d.tally with bufs := tabPut d.tally.bufs i l } }).set (L.TLY_ISL_LEVEL i) l.length
      if r.isStep && d.tally.merged < r.epoch then mergeStep r parts d
      else if r.late || r.epoch < d.tally.merged || (r.epoch = d.tally.merged && r.stamp + 2000 < d.tai % 2 ^ 64) then
        emitLate parts d
      else { d with tally := { d.tally with held := parts.foldl (fun h x => mergeIn x h) d.tally.held } }

/-- The first held record is emitted, all its parts (R389). -/
def emitHeld (d : Device) : Device :=
  match d.tally.held with
  | [] => d
  | r :: l =>
    let (parts, l) := recordParts r l
    if d.canEmit parts.length then emitParts parts { d with tally := { d.tally with held := l } } else d

/-- The first held record is emitted, all its parts, once network time has reached its stamp + 2 µs (R393); records of an epoch whose STEP record
is still to come wait for it, and those of an epoch that has ended wait for nothing (R391). -/
def tallyEmit (d : Device) : Device :=
  match d.tally.held with
  | [] => d
  | r :: _ =>
    if r.epoch < d.tally.merged || (r.epoch = d.tally.merged && r.stamp + 2000 ≤ d.tai % 2 ^ 64) then emitHeld d else d

/-- The island buffers and the merger are drained to the ring before sleep (R501). -/
def tallyDrain (d : Device) : Device :=
  let n := (d.tally.bufs.map (·.2.length)).foldl (· + ·) 0
  let d := d.each n fun _ d => (List.range 16).foldl (fun d i => tallyArrive i d) d
  d.each d.tally.held.length fun _ => emitHeld

/-! ## Registers -/

/-- TLY_CFG written with EN = 1 (R394): refused where the ring is not in shared SRAM or SZ is out of range; records held meanwhile
are written when EN becomes 1.  `old` is the word before. -/
def tallyCfg (old : Nat) (d : Device) : Device :=
  if !d.on L.TLY_CFG_EN then d
  else
    let sz := d.get L.TLY_RING_SZ
    if sz < 8 || 20 < sz || 0x2000000 < d.get L.TLY_RING_BASE * 4096 + 16 * 2 ^ sz then
      tallyEvent L.TLY_EVENT_CFG_ERR 0 (d.set L.TLY_CFG_EN 0)
    else if bitsOf old 31 1 = 1 then d
    else d.tally.backlog.foldl (fun d r => ringWrite r d) { d with tally := { d.tally with backlog := [] } }

/-- The highest word of TLY_SWREC is written by master `m` (R397). -/
def swRec (m : Nat) (d : Device) : Device :=
  d.push ⟨d.localTime isleFABRIC, isleFABRIC, false, min 6 (d.get L.TLY_SWREC_W1_SEV), 31, m, d.get L.TLY_SWREC_W1_CODE,
    word (d.get L.TLY_SWREC_W0_PAYLOAD), d.tally.epoch⟩

/-- FN_LATCH clears: the next record of R399 is the first again. -/
def latchClear (d : Device) : Device :=
  ({ d with tally := { d.tally with faultSev := none } }).set L.TLY_FAULT_FN_LATCH 0

/-- A Bead's read of TLY_STAT (R400). -/
def statRead (d : Device) : Device :=
  ({ d with tally := { d.tally with irq := false } }).set L.TLY_STAT_MAXSEV 0

/-- KCLR (R396). -/
def keptClear (d : Device) : Device :=
  ({ d with tally := { d.tally with kept := [] } }).set L.TLY_KEEP_WR_WR 0

/-- FAULT_N is driven low: until the ROM starts (R82, R519), and as R399 says. -/
def Device.faultLow (d : Device) : Bool := !d.boot.romRun || d.on L.TLY_FAULT_FN_LATCH || d.on L.DMP_STAT_THERM

/-- An island's counter loads the time broadcast (R390). -/
def stampLoad (i : Nat) (d : Device) : Device :=
  if d.tickRuns then { d with tally := { d.tally with clocks := tabPut d.tally.clocks i (d.tai % 2 ^ 64, d.ticks) } } else d

/-! ## Memory protection (R401, R402) -/

/-- The island that reports a memory's errors. -/
def eccIsle : EccWord → Nat
  | .sram _ => isleFABRIC
  | .weight _ => isleGRID
  | .capture _ => isleLANE
  | .emberTime _ => isleEMBER
  | .emberKept _ _ => isleEMBER
  | .ember _ => isleEMBER
  | .fdSection _ _ _ _ _ => islePORT
  | .tdSection _ _ => islePORT
  | .isle i _ _ => i

/-- A single-bit error is corrected (R401). -/
def eccCorrect (w : EccWord) (d : Device) : Device :=
  let (n, off) := w.mem
  (d.inc (L.TLY_ECC_CORR n)).logLimited (A.TLY_ECC n * 4096) ticksPerMs (eccIsle w) 3 21 n (common 8) [(off, 32)]

/-- A section is lost (R350). -/
def eccSection (d : Device) : Device :=
  (gstCount 17 1 d).event L.GST_EVENT_ECC islePORT 13 0 0 5 []

/-- What an uncorrectable error does to its memory's users (R350, R395, R402). -/
def eccEffect (w : EccWord) (d : Device) : Device :=
  let mark := fun (a : Nat) => if d.eccBad.contains a then d else { d with eccBad := a :: d.eccBad }
  match w with
  | .sram o => mark (0x10000000 + o)
  | .weight o => mark (0x12000000 + o)
  | .capture o => mark (0x16000000 + o)
  | .emberTime _ =>
    match d.tctl.saved with
    | some s =>
      let (v, d) := d.draw
      { d with tctl := { d.tctl with saved := some { s with te := v % timeSpan, stop := some s.e0 } } }
    | none => d
  | .emberKept k _ =>
    match tabGet? d.tally.kept k with
    | some r => { d with tally := { d.tally with kept := tabPut d.tally.kept k { r with sev := 6, code := common 9 } } }
    | none => d
  | .ember _ => d
  | .fdSection c fn n id _ =>
    let s := d.symc c fn n
    if s.secs.any fun x => x.id == id then
      let s' := { s with secs := s.secs.filter fun x => x.id != id }
      eccSection (if s.fixed then d.setSym c fn n s' else symTouch c fn n s' d)
    else d
  | .tdSection k _ =>
    if k < d.tdSecs.length then eccSection { d with tdSecs := d.tdSecs.take k ++ d.tdSecs.drop (k + 1) } else d
  | .isle i k _ =>
    let b := tabGet d.tally.bufs [] i
    match b[k]? with
    | some r =>
      let lost : LogRec := { r with sev := 2, cls := 2, src := i, code := common 12, payload := word 1 }
      { d with tally := { d.tally with bufs := tabPut d.tally.bufs i (b.take k ++ [lost] ++ b.drop (k + 1)) } }
    | none => d

/-- An uncorrectable error (R402). -/
def eccFail (w : EccWord) (d : Device) : Device :=
  let (n, off) := w.mem
  eccEffect w (((d.inc (L.TLY_ECC_UNCORR n)).set (L.TLY_ECC_ADDR_OFFSET n) off).log (eccIsle w) 6 21 n (common 9) [(off, 32)])

/-- One word is checked (R401): 0 no error, 1 a single-bit error, 2 an uncorrectable one. -/
def scrub (w : EccWord) (result : Nat) (d : Device) : Device :=
  if result = 1 then eccCorrect w d else if result = 2 then eccFail w d else d

/-! ## Meanings -/

/-- STAMP_BROADCAST (R390). -/
def execStampBroadcast (i : Nat) (s : State) : Host.Outcome State Fault Refusal :=
  actDev (.stampBroadcast i) s (stampLoad i)
/-- TALLY_RECORD_ARRIVE (R393). -/
def execTallyRecordArrive (i : Nat) (s : State) : Host.Outcome State Fault Refusal :=
  actDev (.tallyRecordArrive i) s (tallyArrive i)
/-- TALLY_RECORD_EMIT (R393). -/
def execTallyRecordEmit (s : State) : Host.Outcome State Fault Refusal := actDev .tallyRecordEmit s tallyEmit
/-- SCRUB_CHECK (R401, R402). -/
def execScrubCheck (w : EccWord) (result : Nat) (s : State) : Host.Outcome State Fault Refusal :=
  actDev (.scrubCheck w result) s (scrub w result)

end Sys2Proof.Machine
end

