-- ==== Sys2Proof/Machine/Clk.lean ====
section
/-! DEFINITION. Clock synthesis: the lock sequence, sampler outages, reference loss and coasting, the auxiliary PLL and the
clock outputs (R90–R112, R528, R529). -/
namespace Sys2Proof.Machine

/-- A CLK event (CLASS 5, SOURCE 0, REG 0, FABRIC), with the severity of R398. -/
def clkEvent (l : Loc) (sev : Nat) (d : Device) : Device := d.event l isleFABRIC 5 0 0 sev []

/-- MSTATE (R110). -/
def Device.mstate (d : Device) : Nat := d.get L.CLK_STAT_MSTATE
/-- MSTATE set. -/
def setMstate (st : Nat) (d : Device) : Device := d.set L.CLK_STAT_MSTATE st

/-- The doubler is powered: in the full-rate mode in force, and within an outage in the mode that its end takes (R98, R101;
log 111). -/
def Device.doublerOn (d : Device) : Bool := if d.clk.outage then !d.on L.CLK_CFG_CONV_LP else !d.lowPower

/-- A doubler that is powered down has no lock (R98, R101). -/
def doublerSettle (d : Device) : Device := if d.doublerOn then d else d.set L.CLK_STAT_DBL_LOCK 0

/-! ## Sampler outage (R112) -/

/-- The transmit side stops: a calibration run that measures ends, converters gated, bursts cut (R98, R112, R271, R294). -/
def txSideStop (d : Device) : Device := pathOutage ((calOutage d).each 64 txGate)

/-- The receive side stops: converters gated, receive samples invalid, captures end (R112, R183). -/
def rxSideStop (d : Device) : Device :=
  let d := d.each 72 rxGate
  let d := d.chan.foldl (fun d x => if isDuc x.1 then d else chanInvalid x.1 2 0 true d) d
  d.each 8 fun k => capStop k 1

/-- A sampler outage starts, or takes over a transmit-only outage (R98, R112); one in progress goes on. -/
def outageStart (d : Device) : Device :=
  if d.clk.outage then d
  else
    let d := { d with clk := { d.clk with outage := true, txOutage := false, outageFrom := if d.asleep = 0 then d.laneNow else d.clk.outageFrom } }
    let d := (d.inc L.CLK_COUNT_OUTAGES).set L.CLK_STAT_ALIGNED 0
    let d := laneRebase (fun d => (d.set L.CLK_STAT_LANE_SRC 1).set L.CLK_STAT_TICK_SRC 1) d
    let d := d.each 64 fun p => trialBreak p 6
    doublerSettle (symsMark (txSideStop (rxSideStop (calOutage d))))

/-- A transmit-only outage starts (R98). -/
def txOutageStart (d : Device) : Device :=
  if d.clk.outage || d.clk.txOutage then d
  else
    let d := { d with clk := { d.clk with txOutage := true, txOutageFrom := d.laneNow } }
    txSideStop ((d.inc L.CLK_COUNT_OUTAGES).each 64 fun p => trialBreak p 6)

/-- The transmit side runs again after a strobe (R99, R152, R271). -/
def txSideStart (d : Device) : Device := pathStrobe (d.each 64 txUngate)

/-- A converter mode takes effect at the strobe (R101, R137, R148, R172): commits armed for block 0 are evaluated with it, so
that only a chain without one that passes stops (R497). -/
def modeTake (d : Device) : Device :=
  let new := d.get L.CLK_CFG_CONV_LP
  if d.get L.CLK_STAT_CONV_LP_ACTIVE = new then d
  else
    let d := (laneRebase (fun d => d.set L.CLK_STAT_CONV_LP_ACTIVE new) d).each 72 rxRescale
    chanModeCheck (chanBlock 0 ((doublerSettle d).each 64 ncoModeCheck))

/-- The runs of VALID = 0 that an outage has made end with the length it has had (R112, R183), in samples of the LANE clock
that the strobe brings. -/
def outageRuns (d : Device) : Device :=
  let ta := (d.laneNow - d.lanePlace d.clk.outageFrom).toNat
  d.chan.foldl (fun d x => if isDuc x.1 then d else chanInvalidAt d.clk.outageFrom x.1 2 ta true d) d

/-- The strobe of R99 that ends a sampler outage: the NCOs restart (R148, R165), the runs of the outage close and the mode that
waits takes effect. -/
def outageEnd (d : Device) : Device :=
  let d := setMstate 4 { d with clk := { d.clk with outage := false, strobeAt := d.laneNow, txStrobeAt := d.laneNow } }
  let d := d.set L.CLK_STAT_ALIGNED 1
  let d := laneRebase (fun d => (d.set L.CLK_STAT_LANE_SRC 0).set L.CLK_STAT_TICK_SRC 0) d
  let d := laneBlockFrom d.laneNow 0 d
  let d := modeTake (outageRuns ((d.set L.CLK_CFG_RELOCK 0).set L.CLK_CFG_REALIGN 0))
  clkEvent L.CLK_EVENT_OUTAGE_END 0 (txSideStart (d.each 72 rxUngate))

/-- ALIGNMENT_STROBE: ALIGN_WAIT ends (R110), or a transmit-only outage with the doubler locked again (R98). -/
def strobe (d : Device) : Device :=
  if d.mstate = 3 then outageEnd d
  else if d.clk.txOutage && d.on L.CLK_STAT_DBL_LOCK then
    clkEvent L.CLK_EVENT_OUTAGE_END 0 (txSideStart { d with clk := { d.clk with txOutage := false, txStrobeAt := d.laneNow } })
  else d

/-! ## Lock sequence (R94–R98, R110) -/

/-- SEARCH is entered: no lock, the ring at mid-range. -/
def enterSearch (d : Device) : Device :=
  let d := ((setMstate 1 d).set L.CLK_STAT_MDLL_LOCK 0).set L.CLK_STAT_DBL_LOCK 0
  (d.set L.CLK_MDLL_CTRL 512).set L.CLK_STAT_BAND_EDGE 0

/-- NOREF is entered; where the reference is present it goes on to SEARCH (R110). -/
def enterNoref (d : Device) : Device :=
  let d := ((setMstate 8 d).set L.CLK_STAT_MDLL_LOCK 0).set L.CLK_STAT_DBL_LOCK 0
  if d.on L.CLK_STAT_REF_PRESENT then enterSearch d else d

/-- The MDLL starts at PORST_N release or at a wake from S2: SEARCH, in a sampler outage with no cause event (R110, R112). -/
def mdllStart (d : Device) : Device := if d.mstate = 0 then enterSearch (outageStart d) else d

/-- The band search ends (R94). -/
def bandChosen (band : Nat) (d : Device) : Device :=
  if d.mstate = 1 then setMstate 2 (d.set L.CLK_MDLL_BAND band) else d

/-- ACQUIRE becomes ALIGN_WAIT once every lock the mode in force needs is there (R110). -/
def acquired (d : Device) : Device :=
  if d.mstate = 2 && d.on L.CLK_STAT_MDLL_LOCK && (!d.doublerOn || d.on L.CLK_STAT_DBL_LOCK) then setMstate 3 d else d

/-- MDLL_LOCK sets (R95). -/
def mdllLocked (d : Device) : Device :=
  let st := d.mstate
  if st = 2 || st = 3 || st = 4 || st = 7 then acquired (d.set L.CLK_STAT_MDLL_LOCK 1) else d

/-- Four bad periods (R95, R110). -/
def mdllUnlock (d : Device) : Device :=
  let st := d.mstate
  if (st = 2 || st = 3 || st = 4 || st = 7) && d.on L.CLK_STAT_MDLL_LOCK then
    let d := clkEvent L.CLK_EVENT_MDLL_UNLOCK 5 d
    if st = 2 then (d.set L.CLK_STAT_MDLL_LOCK 0).set L.CLK_STAT_DBL_LOCK 0
    else enterSearch (outageStart d)
  else d

/-- No lock 500 µs after SEARCH (R97). -/
def lockFail (d : Device) : Device :=
  if (d.mstate = 1 || d.mstate = 2) && !d.on L.CLK_STAT_MDLL_LOCK then enterSearch (clkEvent L.CLK_EVENT_LOCK_FAIL 5 d) else d

/-- DBL_LOCK sets (R98), where the doubler is powered. -/
def dblLocked (d : Device) : Device :=
  if d.on L.CLK_STAT_MDLL_LOCK && d.doublerOn then acquired (d.set L.CLK_STAT_DBL_LOCK 1) else d

/-- The doubler loses lock (R98, R110); in low-power mode it is not monitored.  In COASTING, QUALIFY and SLEWING, which the
rule does not name, DBL_UNLOCK is raised and no outage starts (log 111). -/
def dblUnlock (d : Device) : Device :=
  if !d.on L.CLK_STAT_DBL_LOCK then d
  else
    let st := d.mstate
    let d := (clkEvent L.CLK_EVENT_DBL_UNLOCK 5 d).set L.CLK_STAT_DBL_LOCK 0
    if st = 4 then txOutageStart d
    else if st = 3 then setMstate 2 d
    else d

/-- CTRL lies within 52 codes of either end of its range (R96). -/
def ctrlAtEdge (ctrl : Nat) : Bool := ctrl < 52 || 971 < ctrl

/-- CTRL moves to a value (R96): BAND_EDGE follows it, and is raised when CTRL leaves its range. -/
def bandEdge (ctrl : Nat) (d : Device) : Device :=
  let was := d.on L.CLK_STAT_BAND_EDGE
  let d := (d.set L.CLK_MDLL_CTRL ctrl).set L.CLK_STAT_BAND_EDGE (bit (ctrlAtEdge ctrl))
  if ctrlAtEdge ctrl && !was then clkEvent L.CLK_EVENT_BAND_EDGE 2 d else d

/-- CLK_CFG written: RELOCK and REALIGN start an outage where R110 lists them and otherwise stay as they were.  Of both in one
write RELOCK acts first, which leaves no state for REALIGN (log 111).  ACQUIRE ends where the mode now written needs no doubler lock. -/
def clkCfgWrite (old : Nat) (d : Device) : Device :=
  let re := d.on L.CLK_CFG_RELOCK && bitsOf old 8 1 == 0
  let al := d.on L.CLK_CFG_REALIGN && bitsOf old 9 1 == 0
  let d := if re then
      if d.mstate = 4 || d.mstate = 7 then enterSearch (outageStart d) else d.set L.CLK_CFG_RELOCK 0
    else d
  let d := if al then
      if d.mstate = 4 then setMstate 3 (outageStart d) else d.set L.CLK_CFG_REALIGN 0
    else d
  acquired (doublerSettle d)

/-- A converter mode waits for the frame boundary in LOCKED (R101, R110). -/
def Device.modeChanges (d : Device) : Bool := d.mstate == 4 && d.get L.CLK_STAT_CONV_LP_ACTIVE != d.get L.CLK_CFG_CONV_LP

/-- The strobe to come at the next frame boundary brings a converter mode (R101). -/
def Device.modeComes (d : Device) : Bool := d.mstate == 3 && d.get L.CLK_STAT_CONV_LP_ACTIVE != d.get L.CLK_CFG_CONV_LP

/-- The converter-mode part of a frame boundary (R101, R110): a change that waits starts its outage in LOCKED. -/
def modeBoundary (d : Device) : Device := if d.modeChanges then setMstate 3 (outageStart d) else d

/-- The alignment measurement of a frame, in ps (R100). -/
def alignMeasure (off : Int) (d : Device) : Device :=
  let d := d.set L.CLK_ALIGN_ALIGN_OFF (encodeSigned 16 off)
  if d.on L.CLK_STAT_ALIGNED && d.get L.CLK_ALIGN_ALIGN_TOL < off.natAbs then
    clkEvent L.CLK_EVENT_ALIGN_DRIFT 2 (d.set L.CLK_STAT_ALIGNED 0)
  else d

/-! ## Reference loss and coasting (R105, R109–R111) -/

/-- Tenths of a microsecond since the missing edge. -/
def Device.coastLen (d : Device) : Nat := (d.ticks - d.clk.coastFrom) * 1000 / 24576

/-- The coast ends: COAST_DUR holds its length (CLK_JUMP). -/
def coastExit (d : Device) : Device := d.set L.CLK_JUMP_COAST_DUR (min 65535 d.coastLen)

/-- A coast starts, unless it would be the ninth within 1 s (R111); MSTATE is no longer LOCKED, which ends bursts (R268,
R270). -/
def coastStart (d : Device) : Device :=
  let recent := d.clk.coasts.filter fun t => d.ticks - t < ticksPerS
  if 8 ≤ recent.length then enterNoref (outageStart (clkEvent L.CLK_EVENT_COAST_LIMIT 5 d))
  else
    let d := { d with clk := { d.clk with coasts := d.ticks :: recent, coastFrom := d.ticks } }
    burstRecheckAll (setMstate 5 (d.inc L.CLK_COUNT_COASTS))

/-- A missing REFCLK edge (R90, R105, R109, R110). -/
def refMissing (d : Device) : Device :=
  let d := (d.set L.CLK_STAT_REF_PRESENT 0).set L.CLK_REFMON_VALID 0
  let d := (d.set L.CLK_STAT_MON_SRC 1).set L.CLK_STAT_AUX_HOLDOVER 1
  match d.mstate with
  | 1 => enterNoref d
  | 2 => enterNoref d
  | 3 => enterNoref d
  | 4 => coastStart (clkEvent L.CLK_EVENT_REF_LOSS 2 d)
  | 6 => setMstate 5 d
  | 7 => coastStart d
  | _ => d

/-- A qualified return of REFCLK (R105, R109, R110). -/
def refReturn (d : Device) : Device :=
  let d := ((d.set L.CLK_STAT_REF_PRESENT 1).set L.CLK_STAT_MON_SRC 0).set L.CLK_STAT_AUX_HOLDOVER (bit d.clk.auxHeld)
  match d.mstate with
  | 5 => setMstate 6 d
  | 8 => enterSearch d
  | _ => d

/-- A jump has been measured, in ps (R109, R110). -/
def jumpMeasured (j : Int) (d : Device) : Device :=
  if d.mstate = 6 then
    let d := coastExit (d.set L.CLK_JUMP_JUMP (encodeSigned 16 j))
    if j.natAbs ≤ 2 then setMstate 4 d
    else if j.natAbs * 10 ≤ 5086 then setMstate 7 (clkEvent L.CLK_EVENT_JUMP_SMALL 2 d)
    else enterSearch (outageStart (clkEvent L.CLK_EVENT_JUMP_LARGE 5 d))
  else d

/-- 100 µs since the missing edge (R110). -/
def coastExpired (d : Device) : Device :=
  if d.mstate = 5 || d.mstate = 6 then
    enterNoref (outageStart (clkEvent L.CLK_EVENT_COAST_EXPIRED 5 (coastExit d)))
  else d

/-- The slew residual falls within ±2 ps (R110). -/
def slewDone (d : Device) : Device := if d.mstate = 7 then setMstate 4 d else d

/-- The 1 ms measurement of REFCLK against FHREFCLK, in 0.01 ppm (R109). -/
def refFreq (err : Int) (d : Device) : Device :=
  if d.on L.CLK_STAT_REF_PRESENT && d.on L.CLK_STAT_FH_PRESENT then
    let d := (d.set L.CLK_REFMON_REF_ERR (encodeSigned 16 err)).set L.CLK_REFMON_VALID 1
    if 20000 < err.natAbs then clkEvent L.CLK_EVENT_REF_FREQ 2 d else d
  else d

/-- FHREFCLK is qualified (R528); the monitor runs while the PORT domain is powered, and from PORST_N release. -/
def fhQualified (d : Device) : Device :=
  if d.coldHeld || d.domState 5 ≠ 2 then d else d.set L.CLK_STAT_FH_PRESENT 1

/-- FHREFCLK is missing (R528): the ports lose alignment.  A port in ALIGN is DOWN at once; an UP port stays UP until the loss has
lasted 100 µs, which LINK_DOWN reports (R318). -/
def fhMissing (d : Device) : Device :=
  if d.on L.CLK_STAT_FH_PRESENT then
    portUnlock 1 (portUnlock 0 ((d.set L.CLK_STAT_FH_PRESENT 0).set L.CLK_REFMON_VALID 0))
  else d

/-! ## Auxiliary PLL (R102–R105) -/

/-- AUX_LOCK sets (R90, R102, R527): the islands move to the aux outputs, and network time ticks unless it awaits its bridge. -/
def auxLocked (d : Device) : Device :=
  if d.clk.auxHeld then d
  else
    let d := { d with tickRuns := d.tickRuns || d.tctl.saved.isNone }
    (d.set L.CLK_STAT_AUX_LOCK 1).set L.CLK_STAT_AUX_HOLDOVER (bit (!d.on L.CLK_STAT_REF_PRESENT))

/-- AUX_LOCK is lost with the reference present (R105). -/
def auxUnlock (d : Device) : Device :=
  if d.on L.CLK_STAT_AUX_LOCK && d.on L.CLK_STAT_REF_PRESENT then
    let d := { d with clk := { d.clk with auxHeld := true } }
    clkEvent L.CLK_EVENT_AUX_UNLOCK 6 ((d.set L.CLK_STAT_AUX_LOCK 0).set L.CLK_STAT_AUX_HOLDOVER 1)
  else d

/-- ±100 ppm in units of 10^-12 (R104). -/
def auxOffsetMax : Int := 0x05F5E100

/-- CLK_AUX_OFFSET written (R104): beyond ±100 ppm it is clamped. -/
def auxOffsetWrite (d : Device) : Device :=
  let t := d.getS L.CLK_AUX_OFFSET_TARGET
  if auxOffsetMax < t then clkEvent L.CLK_EVENT_AUX_CLAMP 1 (d.set L.CLK_AUX_OFFSET_TARGET (encodeSigned 32 auxOffsetMax))
  else if t < -auxOffsetMax then clkEvent L.CLK_EVENT_AUX_CLAMP 1 (d.set L.CLK_AUX_OFFSET_TARGET (encodeSigned 32 (-auxOffsetMax)))
  else d

/-- One step of 0.05 ppm toward the target (R104). -/
def auxOffsetStep (d : Device) : Device :=
  let t := d.getS L.CLK_AUX_OFFSET_TARGET
  let a := d.getS L.CLK_AUX_APPLIED_APPLIED
  let new : Int := if a < t then min t (a + 50000) else max t (a - 50000)
  d.set L.CLK_AUX_APPLIED_APPLIED (encodeSigned 32 new)

/-! ## CLKOUT (R106, R107) -/

/-- Maximum frequency of a format in Hz (R106). -/
def formatMax (f : Nat) : Nat :=
  match f with
  | 0 => 1600000000
  | 1 => 400000000
  | 2 => 3072000000
  | _ => 250000000

/-- The setting of CLKOUT `i` is one R107 allows: SDIV even and at least 4, the frequency within its format. -/
def Device.clkOutOk (d : Device) (i : Nat) : Bool :=
  let sdiv := d.get (L.CLK_OUT_SDIV i)
  let top := formatMax (d.get (L.CLK_OUT_FORMAT i))
  sdiv % 2 == 0 && 4 ≤ sdiv &&
    if d.on (L.CLK_OUT_SRC i) then 6144000000 ≤ top * sdiv
    else 9600000000 * 768 ≤ top * (768 * d.get (L.CLK_AUXDIV_N (4 + i)) + d.get (L.CLK_AUXDIV_K (4 + i)))

/-- CLKOUT `i` runs or stays disabled as its setting says (R107). -/
def clkOutSettle (i : Nat) (d : Device) : Device :=
  let show' := fun (v : Nat) (d : Device) => { d with clk := { d.clk with outs := putBits d.clk.outs i 1 v } }
  if d.on (L.CLK_OUT_EN i) then
    if d.clkOutOk i then show' 1 d else clkEvent L.CLK_EVENT_CLKOUT_ERR 1 (show' 0 d)
  else show' 0 d

/-- CLKOUT `i` is held static during a sampler outage (R107). -/
def Device.clkOutStatic (d : Device) (i : Nat) : Bool :=
  d.clk.outage && d.on (L.CLK_OUT_SRC i) && bitsOf d.clk.outs i 1 == 1

/-- CLK_AUXDIV instance `i` written (R103): N below 2 or K above 767 changes nothing. -/
def auxdivWrite (i old : Nat) (d : Device) : Device :=
  if d.get (L.CLK_AUXDIV_N i) < 2 || 767 < d.get (L.CLK_AUXDIV_K i) then
    clkEvent L.CLK_EVENT_DIV_ERR 1 (d.wr (A.CLK_AUXDIV i) old)
  else if i = 3 then
    let new := d.rd (A.CLK_AUXDIV i)
    laneRebase (fun d => d.wr (A.CLK_AUXDIV i) new) (d.wr (A.CLK_AUXDIV i) old)
  else if 4 ≤ i && d.on (L.CLK_OUT_EN (i - 4)) && !d.on (L.CLK_OUT_SRC (i - 4)) then clkOutSettle (i - 4) d
  else d

/-- CLK_COUNT.CLR (CLK_COUNT). -/
def clkCountClr (d : Device) : Device := (d.set L.CLK_COUNT_OUTAGES 0).set L.CLK_COUNT_COASTS 0

/-! ## Warm reset (R529) -/

/-- The registers of CLK have been reset: live status stays, outputs stop, the auxiliary PLL may lock again. -/
def clkWarm (old d : Device) : Device :=
  let d := d.wr A.CLK_STAT (old.rd A.CLK_STAT)
  let d := (d.wr A.CLK_MDLL (old.rd A.CLK_MDLL)).set L.CLK_AUX_APPLIED_APPLIED (old.get L.CLK_AUX_APPLIED_APPLIED)
  laneKeep old { d with clk := { old.clk with outs := 0, auxHeld := false }, block := old.block }

/-! ## Meanings -/

/-- MDLL_BAND_CHOSEN (R94, R110). -/
def execMdllBandChosen (band : Nat) (s : State) : Host.Outcome State Fault Refusal :=
  actDev (.mdllBandChosen band) s (bandChosen band)
/-- MDLL_LOCK_SET (R95). -/
def execMdllLockSet (s : State) : Host.Outcome State Fault Refusal := actDev .mdllLockSet s mdllLocked
/-- MDLL_UNLOCK (R95, R110). -/
def execMdllUnlock (s : State) : Host.Outcome State Fault Refusal := actDev .mdllUnlock s mdllUnlock
/-- MDLL_LOCK_FAIL (R97). -/
def execMdllLockFail (s : State) : Host.Outcome State Fault Refusal := actDev .mdllLockFail s lockFail
/-- DBL_LOCK_SET (R98). -/
def execDblLockSet (s : State) : Host.Outcome State Fault Refusal := actDev .dblLockSet s dblLocked
/-- DBL_UNLOCK (R98, R110). -/
def execDblUnlock (s : State) : Host.Outcome State Fault Refusal := actDev .dblUnlock s dblUnlock
/-- BAND_EDGE (R96). -/
def execBandEdge (ctrl : Nat) (s : State) : Host.Outcome State Fault Refusal := actDev (.bandEdge ctrl) s (bandEdge ctrl)
/-- REF_MISSING_EDGE (R109, R110). -/
def execRefMissingEdge (s : State) : Host.Outcome State Fault Refusal := actDev .refMissingEdge s refMissing
/-- REF_QUALIFIED_RETURN (R109, R110). -/
def execRefQualifiedReturn (s : State) : Host.Outcome State Fault Refusal := actDev .refQualifiedReturn s refReturn
/-- JUMP_MEASURED (R110). -/
def execJumpMeasured (jump : Int) (s : State) : Host.Outcome State Fault Refusal :=
  actDev (.jumpMeasured jump) s (jumpMeasured jump)
/-- COAST_EXPIRED (R110). -/
def execCoastExpired (s : State) : Host.Outcome State Fault Refusal := actDev .coastExpired s coastExpired
/-- SLEW_COMPLETE (R111). -/
def execSlewComplete (s : State) : Host.Outcome State Fault Refusal := actDev .slewComplete s slewDone
/-- FHREFCLK_QUALIFIED (R528). -/
def execFhrefclkQualified (s : State) : Host.Outcome State Fault Refusal :=
  actDev .fhrefclkQualified s fhQualified
/-- FHREFCLK_MISSING (R528). -/
def execFhrefclkMissing (s : State) : Host.Outcome State Fault Refusal := actDev .fhrefclkMissing s fhMissing
/-- REF_FREQ_MEASUREMENT (R109). -/
def execRefFreqMeasurement (err : Int) (s : State) : Host.Outcome State Fault Refusal :=
  actDev (.refFreqMeasurement err) s (refFreq err)
/-- AUX_OFFSET_STEP (R104). -/
def execAuxOffsetStep (s : State) : Host.Outcome State Fault Refusal := actDev .auxOffsetStep s auxOffsetStep
/-- AUX_UNLOCK (R105). -/
def execAuxUnlock (s : State) : Host.Outcome State Fault Refusal := actDev .auxUnlock s auxUnlock

end Sys2Proof.Machine
end

