-- ==== Sys2Proof/Machine/Dma.lean ====
section
/-! DEFINITION. The DMA engine's channels, descriptors, pacing queues and arbiter (R447–R467); the data path is in DmaRun. -/
namespace Sys2Proof.Machine

/-- A channel with nothing in hand. -/
def DmaCtl.idle : DmaCtl := ⟨[], 0, none, 0, 0, false⟩
/-- Channel `ch`. -/
def Device.dmac (d : Device) (ch : Nat) : DmaCtl := tabGet d.dma DmaCtl.idle ch
/-- Replace channel `ch`. -/
def Device.setDma (d : Device) (ch : Nat) (c : DmaCtl) : Device := { d with dma := tabPut d.dma ch c }
/-- STATE of channel `ch` (R448). -/
def Device.dmaState (d : Device) (ch : Nat) : Nat := d.get (L.DMA_CSTAT_STATE ch)
/-- STATE set. -/
def setDmaState (ch st : Nat) (d : Device) : Device := d.set (L.DMA_CSTAT_STATE ch) st

/-- The receiver named in DMA_CNOTE (R466). -/
def dmaNotify (ch : Nat) (d : Device) : Device :=
  if d.on (L.DMA_CNOTE_HOST ch) then msix (d.get (L.DMA_CNOTE_VEC ch)) d else deliverTo (64 + d.get (L.DMA_CNOTE_BEAD ch)) d

/-- An event of a channel (R466): CLASS DMA, SOURCE the channel, REG 1, at most one record per 1 ms. -/
def dmaEvent (l : Nat → Loc) (ch : Nat) (d : Device) : Device := d.eventLimited (l ch) ticksPerMs isleFABRIC 7 ch 1 1 []

/-- An event of queue `q` in DMA_EVENT, whose field starts at `base`. -/
def dmaQueueEvent (base q : Nat) (d : Device) : Device :=
  d.eventLimited ⟨A.DMA_EVENT, base + q, 1⟩ ticksPerMs isleFABRIC 7 0 0 1 []

/-! ## Descriptor fields (R449) -/

/-- Word `k` of a descriptor. -/
def dword (desc : List Nat) (k : Nat) : Nat := desc.getD k 0
/-- Element size in bytes. -/
def dSize (desc : List Nat) : Nat := bitsOf (dword desc 0) 14 6 + 1
/-- Count of loop `k`. -/
def dCount (desc : List Nat) (k : Nat) : Nat :=
  match k with
  | 0 => bitsOf (dword desc 3) 0 16
  | 1 => bitsOf (dword desc 3) 16 16
  | _ => bitsOf (dword desc 4) 0 16
/-- Step of loop `k` of a side: 0 source, 1 destination. -/
def dStep (desc : List Nat) (side k : Nat) : Int := signedOf 32 (dword desc (5 + 2 * k + side))
/-- Base address of a side. -/
def dBase (desc : List Nat) (side : Nat) : Nat := dword desc (1 + side)
/-- LAST. -/
def dLast (desc : List Nat) : Bool := bitsOf (dword desc 0) 23 1 == 1
/-- CRC_MODE. -/
def dCrcMode (desc : List Nat) : Nat := bitsOf (dword desc 0) 25 2
/-- Total number of elements (R450). -/
def dTotal (desc : List Nat) : Nat := dCount desc 0 * dCount desc 1 * dCount desc 2

/-- Address of element (i0, i1, i2) on a side, modulo 2^32 (R450). -/
def dAddr (desc : List Nat) (side i0 i1 i2 : Nat) : Nat :=
  (((dBase desc side : Nat) + i0 * dStep desc side 0 + i1 * dStep desc side 1 + i2 * dStep desc side 2 : Int) % (2 ^ 32 : Nat)).toNat

/-- The bounding box of a side, exactly (R451). -/
def dBox (desc : List Nat) (side : Nat) : Int × Int :=
  let ext := (List.range 3).map fun k => ((dCount desc k : Int) - 1) * dStep desc side k
  (ext.foldl (fun (a : Int) x => a + min 0 x) (dBase desc side), ext.foldl (fun (a : Int) x => a + max 0 x) (dBase desc side) + dSize desc - 1)

/-- The memory windows and register blocks of R64: first and last byte, and whether it is a register block. -/
def fabricTargets : List (Nat × Nat × Bool) :=
  [(0x10000000, 0x11FFFFFF, false), (0x12000000, 0x155FFFFF, false), (0x16000000, 0x167FFFFF, false),
   (0x00000, 0x0FFFF, true), (0x10000, 0x1FFFF, true), (0x20000, 0x2FFFF, true), (0x30000, 0x3FFFF, true),
   (0x40000, 0x4FFFF, true), (0x50000, 0x5FFFF, true), (0x60000, 0x6FFFF, true), (0x70000, 0x7FFFF, true),
   (0x80000, 0x8FFFF, true), (0x90000, 0x9FFFF, true), (0xA0000, 0xAFFFF, true), (0xB0000, 0xBFFFF, true),
   (0xC0000, 0xCFFFF, true), (0x100000, 0x13FFFF, true), (0x140000, 0x151FFF, true), (0x180000, 0x18FFFF, true),
   (0x200000, 0x2FFFFF, true), (0x300000, 0x3FFFFF, true), (0x400000, 0x4FFFFF, true), (0x500000, 0x5FFFFF, true),
   (0x600000, 0x6FFFFF, true)]

/-- The target a box lies in, if any: none, a memory window (false), a register block (true) (R451). -/
def boxTarget (b : Int × Int) : Option Bool :=
  match fabricTargets.find? fun t => (t.1 : Int) ≤ b.1 && b.2 ≤ (t.2.1 : Int) with
  | some t => some t.2.2
  | none => none

/-- Two boxes share a byte (R454). -/
def boxesMeet (a b : Int × Int) : Bool := a.1 ≤ b.2 && b.1 ≤ a.2

/-- The two run-ahead banks (R210, R211). -/
def runAheadBoxes : List (Int × Int) := [(0x13200000, 0x13AFFFFF), (0x14D00000, 0x155FFFFF)]

/-- A box is one R451 and R452 allow. -/
def boxOk (desc : List Nat) (side : Nat) : Bool :=
  let b := dBox desc side
  let sz := dSize desc
  match boxTarget b with
  | none => false
  | some true =>
    (sz == 4 || sz == 8) && dBase desc side % sz == 0 && (List.range 3).all fun k => dStep desc side k % sz == 0
  | some false => !(runAheadBoxes.any (boxesMeet b))

/-- 64-byte aligned in shared SRAM (R449). -/
def descPlace (a : Nat) : Bool := a % 64 == 0 && 0x10000000 ≤ a && a < 0x12000000

/-- The CAUSE that refuses a descriptor at address `at'` (R453): 0 none, 1 FIELD, 2 RANGE, 3 OVERLAP. -/
def descCheck (desc : List Nat) (at' : Nat) : Nat :=
  let crc := dword desc 11
  let useCrc := dCrcMode desc ≠ 0
  let reserved := bitsOf (dword desc 0) 20 3 = 0 && bitsOf (dword desc 0) 0 14 = 0 && bitsOf (dword desc 4) 16 16 = 0 &&
    bitsOf (dword desc 14) 16 8 = 0
  let counts := (List.range 3).all fun k => dCount desc k ≠ 0
  let crcOk := !useCrc || (crc % 4 = 0 && 0x10000000 ≤ crc && crc < 0x12000000)
  let dst := dBox desc 1
  if !(reserved && counts && crcOk && (dLast desc || descPlace (dword desc 13))) then 1
  else if !(boxOk desc 0 && boxOk desc 1) then 2
  else if (boxesMeet (dBox desc 0) dst && bitsOf (dword desc 0) 27 1 = 0) || boxesMeet dst (at', at' + 63) ||
      (useCrc && boxesMeet dst (crc, crc + 3)) then 3
  else 0

/-! ## Position (R457, R460) -/

/-- Index of the next element. -/
def Device.dmaIdx (d : Device) (ch : Nat) : Nat × Nat × Nat :=
  (d.get (L.DMA_CIDX_I0 ch), d.get (L.DMA_CIDX_I1 ch), d.get (L.DMA_CIDX2_I2 ch))

/-- Elements of the descriptor in hand that are still to move. -/
def Device.dmaRemaining (d : Device) (ch : Nat) : Nat :=
  let desc := (d.dmac ch).desc
  let (i0, i1, i2) := d.dmaIdx ch
  dTotal desc - ((i2 * dCount desc 1 + i1) * dCount desc 0 + i0)

/-- The position registers at element number `n` in the order of R450. -/
def dmaPlace (ch n : Nat) (d : Device) : Device :=
  let desc := (d.dmac ch).desc
  let n0 := max 1 (dCount desc 0)
  let n1 := max 1 (dCount desc 1)
  let (i0, i1, i2) := (n % n0, n / n0 % n1, n / n0 / n1)
  let d := ((d.set (L.DMA_CIDX_I0 ch) i0).set (L.DMA_CIDX_I1 ch) i1).set (L.DMA_CIDX2_I2 ch) i2
  (d.set (L.DMA_CPOS_SRC_ADDR ch) (dAddr desc 0 i0 i1 i2)).set (L.DMA_CPOS_DST_ADDR ch) (dAddr desc 1 i0 i1 i2)

/-- Residues at the next element; all 0 once every element has moved. -/
def Device.dmaResidues (d : Device) (ch : Nat) : Nat × Nat × Nat :=
  let desc := (d.dmac ch).desc
  if d.dmaRemaining ch = 0 then (0, 0, 0)
  else
    let (i0, i1, i2) := d.dmaIdx ch
    (dCount desc 0 - i0, dCount desc 1 - i1, dCount desc 2 - i2)

/-- A memory word that holds `a` has an uncorrectable error (R401). -/
def Device.wordBad (d : Device) (a : Nat) : Bool := d.eccBad.contains (a / 8 * 8)

/-! ## End of a descriptor (R457–R461) -/

/-- HALT (R459): CDESC keeps the descriptor. -/
def dmaHalt (ch : Nat) (d : Device) : Device :=
  dmaNotify ch (dmaEvent L.DMA_CEVENT_FETCH_ERR ch ((setDmaState ch 7 d).setDma ch DmaCtl.idle))

/-- The write-back of R457: words 14, 15 and 0.  True where it ended in a bus error. -/
def dmaWriteBack (ch result cause : Nat) (r : Nat × Nat × Nat) (d : Device) : Device × Bool :=
  let a := d.get (L.DMA_CDESC_ADDR ch)
  let w0 := dword (d.dmac ch).desc 0
  if d.wordBad a || d.wordBad (a + 56) then (dmaHalt ch d, true)
  else
    let d := (d.storeWord (a + 56) (result * 2 ^ 28 + cause * 2 ^ 24 + r.2.2)).storeWord (a + 60) (r.2.1 * 2 ^ 16 + r.1)
    let bad := if result = 1 then 1 else bitsOf w0 30 1
    let d := d.storeWord a (putBits w0 29 3 1 + bad * 2 ^ 30)
    let d := d.inc (L.DMA_CCNT_DESC ch)
    (if result = 1 then (d.inc (L.DMA_CCNT_BADS ch)).set (L.DMA_CSTAT_CAUSE ch) cause else d, false)

/-- The channel goes on after a descriptor: FETCH at NEXT, or IDLE where LAST = 1. -/
def dmaNext (ch : Nat) (d : Device) : Device :=
  let desc := (d.dmac ch).desc
  let d := d.setDma ch { d.dmac ch with desc := [], burst := none, left := 0 }
  if dLast desc then setDmaState ch 0 d else setDmaState ch 1 (d.set (L.DMA_CDESC_ADDR ch) (dword desc 13))

/-- The descriptor in hand ends OK or BAD (R457, R458, R466). -/
def dmaFinish (ch result cause : Nat) (r : Nat × Nat × Nat) (d : Device) : Device :=
  let irq := bitsOf (dword (d.dmac ch).desc 0) 28 1 = 1
  let (d, failed) := dmaWriteBack ch result cause r d
  if failed then d
  else
    let d := if result = 1 then dmaNotify ch (dmaEvent L.DMA_CEVENT_BAD ch d)
      else if irq then dmaNotify ch (d.set (L.DMA_CEVENT_DONE ch) 1) else d
    dmaNext ch d

/-- ABORTED is raised and notified; the channel is IDLE. -/
def dmaAborted (ch : Nat) (d : Device) : Device :=
  let d := setDmaState ch 0 (d.setDma ch { d.dmac ch with desc := [], burst := none, left := 0 })
  dmaNotify ch (dmaEvent L.DMA_CEVENT_ABORTED ch d)

/-- An abort takes effect on the descriptor in hand (R460). -/
def dmaAbort (ch : Nat) (d : Device) : Device :=
  let (d, failed) := dmaWriteBack ch 2 0 (d.dmaResidues ch) d
  if failed then d else dmaAborted ch d

/-- A stop that met the end of a descriptor (R461): it applies before the next fetch. -/
def dmaStopAtEnd (ch st : Nat) (d : Device) : Device :=
  if d.dmaState ch = 7 then d
  else if st = 4 then
    if d.dmaState ch = 1 then setDmaState ch 5 (d.setDma ch { d.dmac ch with before := 1 }) else d
  else dmaAborted ch d

/-! ## Pacing (R462, R463) -/

/-- The channel is paced and its queue's request is withdrawn. -/
def Device.dmaHeld (d : Device) (ch : Nat) : Bool :=
  d.on (L.DMA_CCFG_PACED ch) && !d.on (L.DMA_QLVL_REQ (d.get (L.DMA_CCFG_QUEUE ch)))

/-- RUN or WAIT as the request says, once no burst is in progress. -/
def dmaPace (ch : Nat) (d : Device) : Device :=
  let st := d.dmaState ch
  let c := d.dmac ch
  if (st = 2 || st = 3) && c.burst.isNone && c.left = 0 then setDmaState ch (if d.dmaHeld ch then 3 else 2) d else d

/-- The request of queue `q` follows its LEVEL, and its channels follow the request. -/
def dmaRequest (q : Nat) (d : Device) : Device :=
  let level := d.get (L.DMA_QLVL_LEVEL q)
  let hi := d.get (L.DMA_QCFG_HI q)
  let lo := tabGet d.dmaLo 2 q
  let was := d.get (L.DMA_QLVL_REQ q)
  let req :=
    if !d.on (L.DMA_QCFG_EN q) then 0
    else if d.on (L.DMA_QCFG_DIR q) then (if level ≤ lo then 1 else if hi ≤ level then 0 else was)
    else (if hi ≤ level then 1 else if level ≤ lo then 0 else was)
  let d := d.set (L.DMA_QLVL_REQ q) req
  d.dma.foldl (fun d x => if d.get (L.DMA_CCFG_QUEUE x.1) = q then dmaPace x.1 d else d) d

/-- LEVEL of queue `q` changes by a signed amount (R462). -/
def dmaLevel (q : Nat) (delta : Int) (d : Device) : Device :=
  let n : Int := d.get (L.DMA_QLVL_LEVEL q) + delta
  let d := if n < 0 || 0xFFFFF < n then dmaQueueEvent 0 q d else d
  dmaRequest q (d.set (L.DMA_QLVL_LEVEL q) (max 0 (min 0xFFFFF n)).toNat)

/-- DMA_QCFG of queue `q` written: it commits with DMA_QLO, or is refused (R462). -/
def dmaQcfg (q old : Nat) (d : Device) : Device :=
  let lo := d.get (L.DMA_QLO_LO q)
  if d.get (L.DMA_QCFG_HI q) ≤ lo then dmaQueueEvent 8 q (d.wr (A.DMA_QCFG q) old)
  else dmaRequest q { d with dmaLo := tabPut d.dmaLo q lo }

/-! ## Commands (R448, R460) -/

/-- A command or write the channel's state ignores. -/
def dmaCmdErr (ch : Nat) (d : Device) : Device := dmaEvent L.DMA_CEVENT_CMD_ERR ch d

/-- GO. -/
def dmaGo (ch : Nat) (d : Device) : Device :=
  match d.dmaState ch with
  | 0 => setDmaState ch 1 (d.setDma ch DmaCtl.idle)
  | 7 => setDmaState ch 1 (d.setDma ch DmaCtl.idle)
  | 5 => dmaPace ch (setDmaState ch (d.dmac ch).before d)
  | _ => dmaCmdErr ch d

/-- The words of the descriptor at CDESC. -/
def Device.dmaDescAt (d : Device) (mem : List Host.Cell) (a : Nat) : List Nat :=
  (List.range 16).map fun k =>
    (d.peek mem (a + 4 * k)).toNat + (d.peek mem (a + 4 * k + 1)).toNat * 2 ^ 8 + (d.peek mem (a + 4 * k + 2)).toNat * 2 ^ 16 +
      (d.peek mem (a + 4 * k + 3)).toNat * 2 ^ 24

/-- The descriptor at CDESC has a word that reads with a bus error, or does not lie in shared SRAM. -/
def Device.dmaFetchFails (d : Device) (a : Nat) : Bool := !descPlace a || (List.range 8).any fun k => d.wordBad (a + 8 * k)

/-- A stop in one of the two styles.  In PAUSING and ABORTING a further one changes nothing: the spec gives it no transition and
names CMD_ERR for IDLE, PAUSED and HALT only (log 143). -/
def dmaStopStyle (ch : Nat) (abort : Bool) (mem : List Host.Cell) (d : Device) : Device :=
  let st := d.dmaState ch
  let c := d.dmac ch
  if st = 1 then
    if !abort then setDmaState ch 5 (d.setDma ch { c with before := 1 })
    else
      let a := d.get (L.DMA_CDESC_ADDR ch)
      if d.dmaFetchFails a then dmaHalt ch d
      else
        let desc := d.dmaDescAt mem a
        if bitsOf (dword desc 0) 31 1 = 0 then dmaAborted ch d
        else
          let (d, failed) := dmaWriteBack ch 2 0 (dCount desc 0, dCount desc 1, dCount desc 2) (d.setDma ch { c with desc := desc })
          if failed then d else dmaAborted ch d
  else if st = 2 || st = 3 then
    match c.burst with
    | some _ => setDmaState ch (if abort then 6 else 4) (d.setDma ch { c with before := st })
    | none => if abort then dmaAbort ch d else setDmaState ch 5 (d.setDma ch { c with before := st })
  else if st = 4 || st = 6 then d
  else dmaCmdErr ch d

/-- STOP. -/
def dmaStop (ch : Nat) (mem : List Host.Cell) (d : Device) : Device := dmaStopStyle ch (d.on (L.DMA_CCFG_STOP_STYLE ch)) mem d

/-- DMA_CCTL written: STOP wins over GO (R448). -/
def dmaCctl (ch v : Nat) (mem : List Host.Cell) (d : Device) : Device :=
  if bitsOf v 30 1 = 1 then dmaStop ch mem d else if bitsOf v 31 1 = 1 then dmaGo ch d else d

/-- DMA_CCFG written (R448): ignored outside IDLE, PAUSED and HALT. -/
def dmaCcfg (ch old : Nat) (d : Device) : Device :=
  let st := d.dmaState ch
  if st = 0 || st = 5 || st = 7 then d else dmaCmdErr ch (d.wr (A.DMA_CCFG ch) old)

/-- DMA_CDESC written: in IDLE and HALT, an address that is 64-byte aligned in shared SRAM. -/
def dmaCdesc (ch old : Nat) (d : Device) : Device :=
  let st := d.dmaState ch
  if (st = 0 || st = 7) && descPlace (d.get (L.DMA_CDESC_ADDR ch)) then d else dmaCmdErr ch (d.wr (A.DMA_CDESC ch) old)

/-! ## Fetch (R453, R459) -/

/-- The accepted descriptor's CRC register (R455). -/
def dmaCrcStart (ch : Nat) (d : Device) : Device :=
  let desc := (d.dmac ch).desc
  if dCrcMode desc = 0 || bitsOf (dword desc 0) 24 1 = 1 then d
  else
    (d.set (L.DMA_CCRC_CRC ch) (if dCrcMode desc = 3 then dword desc 12 % 2 ^ 16 else dword desc 12)).setDma ch
      { d.dmac ch with half := false }

/-- A fetched descriptor is checked and run, refused or found unowned (R453). -/
def dmaFetched (ch : Nat) (mem : List Host.Cell) (d : Device) : Device :=
  let a := d.get (L.DMA_CDESC_ADDR ch)
  if d.dmaState ch ≠ 1 || !d.on L.DMA_CFG_EN then d
  else if d.dmaFetchFails a then dmaHalt ch d
  else
    let desc := d.dmaDescAt mem a
    if bitsOf (dword desc 0) 31 1 = 0 then dmaEvent L.DMA_CEVENT_EMPTY ch (setDmaState ch 0 d)
    else
      let d := d.setDma ch { d.dmac ch with desc := desc, burst := none, left := 0, waited := 0 }
      let cause := descCheck desc a
      if cause ≠ 0 then dmaFinish ch 1 cause (dCount desc 0, dCount desc 1, dCount desc 2) d
      else dmaPace ch (setDmaState ch 2 (dmaCrcStart ch (dmaPlace ch 0 d)))

/-! ## Arbiter (R464, R465) -/

/-- The channel has a burst that may start. -/
def Device.dmaEligible (d : Device) (ch : Nat) : Bool :=
  let c := d.dmac ch
  d.dmaState ch == 2 && c.burst.isNone && (0 < c.left || !d.dmaHeld ch)

/-- The first of a list of channels after the last one granted, round-robin. -/
def roundRobin (last : Option Nat) (chs : List Nat) : Option Nat :=
  match last with
  | none => chs.head?
  | some n => match chs.find? fun c => n < c with
    | some c => some c
    | none => chs.head?

/-- The channel that takes the next grant (R465). -/
def Device.dmaPick (d : Device) : Option Nat :=
  let chs := (d.dma.map (·.1)).filter d.dmaEligible
  let age := d.get L.DMA_CFG_AGE
  match chs.find? fun c => age ≠ 0 && age ≤ (d.dmac c).waited with
  | some c => some c
  | none => [3, 2, 1, 0].findSome? fun p =>
      roundRobin (tabGet? d.dmaLast p) (chs.filter fun c => d.get (L.DMA_CCFG_PRIO c) == p)

/-- Elements of the next burst of a channel (R464). -/
def Device.dmaBurstLen (d : Device) (ch : Nat) : Nat :=
  let c := d.dmac ch
  let b := d.get (L.DMA_CCFG_BURST ch)
  min (d.dmaRemaining ch) (if 0 < c.left then c.left else if b = 0 then 256 else b)

/-- Bursts in flight, as DMA_STAT shows. -/
def dmaFlight (d : Device) : Device := d.set L.DMA_STAT_INFLIGHT (d.dma.filter fun x => x.2.burst.isSome).length

/-- The arbiter grants a burst start (R463–R465). -/
def dmaGrant (d : Device) : Device :=
  if !d.on L.DMA_CFG_EN || 8 ≤ d.get L.DMA_STAT_INFLIGHT then d
  else match d.dmaPick with
    | none => d
    | some ch =>
      let others := ((d.dma.map (·.1)).filter d.dmaEligible).filter (· != ch)
      let c := d.dmac ch
      let paced := c.left = 0 && d.on (L.DMA_CCFG_PACED ch)
      let d := d.setDma ch { c with burst := some (d.dmaBurstLen ch), left := 0, waited := 0 }
      let d := others.foldl (fun d k => d.setDma k { d.dmac k with waited := (d.dmac k).waited + 1 }) d
      let d := dmaFlight { d with dmaLast := tabPut d.dmaLast (d.get (L.DMA_CCFG_PRIO ch)) ch }
      if paced then dmaLevel (d.get (L.DMA_CCFG_QUEUE ch)) (d.getS (L.DMA_CCFG_QSTEP ch)) d else d

/-- Every channel reads PAUSED, IDLE or HALT (R501). -/
def Device.dmaQuiet (d : Device) : Bool := d.dma.all fun x =>
  let st := d.dmaState x.1
  st == 0 || st == 5 || st == 7

/-! ## Meanings -/

/-- DMA_DESCRIPTOR_FETCHED (R453). -/
def execDmaDescriptorFetched (ch : Nat) (s : State) : Host.Outcome State Fault Refusal :=
  act (.dmaDescriptorFetched ch) s (dmaFetched ch)
/-- DMA_BURST_START (R465). -/
def execDmaBurstStart (s : State) : Host.Outcome State Fault Refusal := actDev .dmaBurstStart s dmaGrant

end Sys2Proof.Machine
end

