-- ==== Sys2Proof/Machine/Mon.lean ====
section
/-! DEFINITION. The monitor converters, their sequencer, the mains tracker and the PWM outputs (R469–R483). -/
namespace Sys2Proof.Machine

/-- An event of MON_EVENT: CLASS MON, REG 0 (R480). -/
def monEvent (l : Loc) (src sev : Nat) (d : Device) : Device := d.event l isleMONITOR 8 src 0 sev []

/-- The quotient of an exact division, or one of the whole numbers beside it, by a free value (log 20). -/
def Device.divFree (d : Device) (num : Int) (den : Nat) : Int × Device :=
  if num % (den : Int) = 0 then (num / (den : Int), d)
  else
    let (v, d) := d.draw
    (num / (den : Int) + (v % 2 : Nat), d)

/-- A converter that is idle. -/
def MonConv.idle : MonConv := ⟨0, 0, 0, 0, false, false, 0, 0, 0, []⟩
/-- Converter `k`. -/
def Device.monc (d : Device) (k : Nat) : MonConv := tabGet d.mon MonConv.idle k
/-- Replace converter `k`. -/
def Device.setMon (d : Device) (k : Nat) (c : MonConv) : Device := { d with mon := tabPut d.mon k c }

/-! ## Entries (R475, R476) -/

/-- Word `j` of entry `e`. -/
def Device.monWord (d : Device) (e j : Nat) : Nat := d.get (L.MON_ENTRY_WORD e j)
/-- EN of entry `e`. -/
def Device.monOn (d : Device) (e : Nat) : Bool := bitsOf (d.monWord e 0) 31 1 == 1
/-- CONV. -/
def Device.monConv (d : Device) (e : Nat) : Nat := bitsOf (d.monWord e 0) 29 2
/-- INPUT. -/
def Device.monInput (d : Device) (e : Nat) : Nat := bitsOf (d.monWord e 0) 24 5
/-- TRIG. -/
def Device.monTrig (d : Device) (e : Nat) : Nat := bitsOf (d.monWord e 0) 20 2
/-- INT. -/
def Device.monInt (d : Device) (e : Nat) : Nat := bitsOf (d.monWord e 0) 16 4
/-- AVG. -/
def Device.monAvg (d : Device) (e : Nat) : Bool := bitsOf (d.monWord e 0) 7 1 == 1

/-- R476 refuses the entry. -/
def Device.monBad (d : Device) (e : Nat) : Bool :=
  let inp := d.monInput e
  let conv := d.monConv e
  23 ≤ inp || (conv == 3 && inp == 18) || ((inp == 19 || inp == 20) && conv != 3) || d.monTrig e == 3 || 9 ≤ d.monInt e ||
    bitsOf (d.monWord e 0) 0 7 != 0 || bitsOf (d.monWord e 2) 24 7 != 0 || bitsOf (d.monWord e 3) 24 7 != 0

/-- The input's CODE is signed (R480). -/
def signedInput (inp : Nat) : Bool := 12 ≤ inp && inp ≤ 15

/-- The CODE of a reading, and whether the input overranged (R469, R471): a MON ball or ZERO in pV against the full scale of GAIN,
a temperature in 1/256 °C, a rail, the diode or the reference in µV (log 10). -/
def monCode (inp gain : Nat) (raw : Int) : Int × Bool :=
  if inp ≤ 11 || inp = 21 then
    let full : Int := 3000000000000
    let v := raw * 2 ^ gain
    (max 0 (min 0xFFFFFF ((v * 2 ^ 25 + full) / (2 * full))), v < 0 || full < v)
  else
    let lo : Int := if signedInput inp then -0x800000 else 0
    let hi : Int := if signedInput inp then 0x7FFFFF else 0xFFFFFF
    (max lo (min hi raw), raw < lo || hi < raw)

/-! ## Sequencer (R476–R478, R481) -/

/-- The PTR field of converter `k`. -/
def monPtr (k : Nat) : Loc := ⟨A.MON_PTR, 8 * k, 6⟩

/-- A conversion's setup starts: LP_ACT takes LP (R481). -/
def monSetup (k : Nat) (d : Device) : Device :=
  let d := d.set ⟨A.MON_STAT, 20 + k, 1⟩ (d.get L.MON_CTL_LP)
  (d.setMon k { d.monc k with phase := 2 }).set ⟨A.MON_STAT, 24 + k, 1⟩ 1

/-- Converter `k` reaches entry `e` (R477). -/
def monArrive (k e : Nat) (d : Device) : Device :=
  let n := max 1 (bitsOf (d.monWord e 0) 8 8)
  let c : MonConv := { d.monc k with phase := 1, entry := e, left := n, sum := 0, ovr := false, held := false, first := 0 }
  let d := ((d.setMon k c).set (monPtr k) e).set ⟨A.MON_STAT, 24 + k, 1⟩ 0
  if d.monTrig e = 0 then monSetup k d else d

/-- The enabled entries of converter `k`, ascending. -/
def Device.monEntries (d : Device) (k : Nat) : List Nat := (List.range 64).filter fun e => d.monOn e && d.monConv e == k

/-- The converter goes on to its next entry, wrapping. -/
def monNext (k : Nat) (d : Device) : Device :=
  let es := d.monEntries k
  match es.find? fun e => (d.monc k).entry < e with
  | some e => monArrive k e d
  | none => match es with
    | e :: _ => monArrive k e d
    | [] => d

/-- Every converter stops with nothing stored. -/
def monStop (d : Device) : Device :=
  ({ d with mon := [] }.set L.MON_STAT_BUSY 0).set L.MON_STAT_RUN_ACT 0

/-- MON_CTL written (R476, R481). -/
def monCtl (old : Nat) (d : Device) : Device :=
  let was := bitsOf old 31 1 = 1
  if d.on L.MON_CTL_RUN then
    if was then d
    else match (List.range 64).find? fun e => d.monOn e && d.monBad e with
      | some e => monEvent L.MON_EVENT_CFG_ERR 0 1 ((d.set L.MON_CTL_RUN 0).set L.MON_STAT_BADENT e)
      | none =>
        (d.set L.MON_STAT_RUN_ACT 1).each 4 fun k d =>
          match d.monEntries k with
          | e :: _ => monArrive k e d
          | [] => d
  else if was then monStop d
  else d

/-- A write of an entry while RUN = 1 is ignored (R481). -/
def monEntry (e j old : Nat) (d : Device) : Device :=
  if d.on L.MON_CTL_RUN then monEvent L.MON_EVENT_CFG_ERR 0 1 (d.wr (A.MON_ENTRY e j) old) else d

/-- The setup ends (R474): the integration takes its start and, for INT ≥ 1, the mains period. -/
def monSetupEnd (k : Nat) (d : Device) : Device :=
  let c := d.monc k
  if c.phase = 2 then
    let t := d.localTime isleMONITOR
    let mains := d.monInt c.entry ≠ 0
    d.setMon k { c with
      phase := 3, start := t, first := if c.left = max 1 (bitsOf (d.monWord c.entry 0) 8 8) then t else c.first
      pm := if mains then d.get L.MON_MAINS_STAT_PERIOD else 0
      held := c.held || (mains && d.on L.MON_MAINS_STAT_HELD) }
  else d

/-- A computed result waits to be stored. -/
def monPush (k : Nat) (r : MonResult) (d : Device) : Device := d.setMon k { d.monc k with done := (d.monc k).done ++ [r] }

/-- The visit's last integration has ended: DELAY, or the next entry at once (R478). -/
def monDelay (k : Nat) (d : Device) : Device :=
  let d := d.set ⟨A.MON_STAT, 24 + k, 1⟩ 0
  if bitsOf (d.monWord (d.monc k).entry 1) 16 16 = 0 then monNext k d else d.setMon k { d.monc k with phase := 4 }

/-- An integration ends with the reading `raw` (`monCode`; R471, R474, R478, R479). -/
def monIntegrationEnd (k : Nat) (raw : Int) (d : Device) : Device :=
  let c := d.monc k
  if c.phase ≠ 3 then d
  else
    let now := d.localTime isleMONITOR
    let (code, excess) := monCode (d.monInput c.entry) (bitsOf (d.monWord c.entry 0) 22 2) raw
    let avg := d.monAvg c.entry
    let (mper, d) := d.divFree (c.pm * 100) 1536
    let n := max 1 (bitsOf (d.monWord c.entry 0) 8 8)
    let c' := { c with sum := c.sum + code, ovr := c.ovr || excess, left := c.left - 1 }
    let d := d.setMon k { c' with held := avg && c'.held }
    let d :=
      if !avg then monPush k ⟨c.entry, excess, c.held, code, (c.start + now) / 2, mper.toNat⟩ d
      else if c'.left = 0 then
        let (mean, d) := d.divFree c'.sum n
        monPush k ⟨c.entry, c'.ovr, c'.held, mean, (c.first + now) / 2, mper.toNat⟩ d
      else d
    if c'.left = 0 then monDelay k d else monSetup k d

/-- DELAY ends (R478). -/
def monDelayEnd (k : Nat) (d : Device) : Device := if (d.monc k).phase = 4 then monNext k d else d

/-- A trigger instant: the entries that wait for trigger `t` start (R477). -/
def monTrigger (t : Nat) (d : Device) : Device :=
  d.each 4 fun k d => if (d.monc k).phase = 1 && d.monTrig (d.monc k).entry = t then monSetup k d else d

/-- No trigger within 1 s (R477). -/
def monTimeout (k : Nat) (d : Device) : Device :=
  if (d.monc k).phase = 1 then monNext k (monEvent L.MON_EVENT_TRIG_TMO k 1 (d.inc L.MON_CNT_SKIP)) else d

/-! ## Results (R479, R480) -/

/-- A threshold of an entry: its bit, its register and REG; `dir` 0 HI, 1 LO. -/
def monThreshold (dir e code : Nat) (d : Device) : Device :=
  let l : Loc := ⟨(if dir = 0 then A.MON_THI_LO else A.MON_TLO_LO) + 4 * (e / 32), e % 32, 1⟩
  d.eventLimited l ticksPerMs isleMONITOR 8 e (1 + 2 * dir + e / 32) 1 [(code, 24)]

/-- The stored result is compared (R480). -/
def monCompare (e : Nat) (code : Int) (d : Device) : Device :=
  let lim := fun (w : Nat) => if signedInput (d.monInput e) then signedOf 24 (bitsOf w 0 24) else ((bitsOf w 0 24 : Nat) : Int)
  let w2 := d.monWord e 2
  let w3 := d.monWord e 3
  let hyst : Int := d.get L.MON_HYST_HYST
  let above : Loc := ⟨A.MON_RES_W0 e, 28, 1⟩
  let below : Loc := ⟨A.MON_RES_W0 e, 27, 1⟩
  let c := encodeSigned 24 code
  let d := if d.on above then (if code < lim w2 - hyst then d.set above 0 else d)
    else if bitsOf w2 31 1 = 1 && lim w2 ≤ code then monThreshold 0 e c (d.set above 1) else d
  if d.on below then (if lim w3 + hyst < code then d.set below 0 else d)
  else if bitsOf w3 31 1 = 1 && code ≤ lim w3 then monThreshold 1 e c (d.set below 1) else d

/-- The oldest computed result of converter `k` is stored (R479). -/
def monStore (k : Nat) (d : Device) : Device :=
  match (d.monc k).done with
  | [] => d
  | r :: rs =>
    let d := d.setMon k { d.monc k with done := rs }
    let old := d.get (L.MON_RES_W0_WORD r.entry)
    let w := 2 ^ 31 + bit r.ovr * 2 ^ 30 + bit r.held * 2 ^ 29 + bitsOf old 27 2 * 2 ^ 27 + encodeSigned 24 r.code
    let seq := (bitsOf (d.get (L.MON_RES_W3_WORD r.entry)) 16 16 + 1) % 65536
    let d := (d.set (L.MON_RES_W0_WORD r.entry) w).set (L.MON_RES_W1_WORD r.entry) (r.time % 2 ^ 32)
    let d := (d.set (L.MON_RES_W2_WORD r.entry) (r.time / 2 ^ 32)).set (L.MON_RES_W3_WORD r.entry) (seq * 65536 + r.mper)
    let d := if r.ovr then (d.inc L.MON_CNT_OVR).eventLimited L.MON_EVENT_OVR ticksPerMs isleMONITOR 8 k 0 2 [] else d
    monCompare r.entry r.code d

/-! ## Mains (R472, R473) -/

/-- The nominal period before VALID first sets. -/
def nominalMains (nom : Nat) : Nat := if nom = 0 then 307200 else 256000

/-- MON_MAINS_CFG written: NOM sets P_m until VALID first sets. -/
def mainsCfg (d : Device) : Device :=
  if d.mains.ever then d else d.set L.MON_MAINS_STAT_PERIOD (nominalMains (d.get L.MON_MAINS_CFG_NOM))

/-- VALID clears (R473). -/
def mainsLost (d : Device) : Device :=
  if d.on L.MON_MAINS_STAT_VALID then
    monEvent L.MON_EVENT_MAINS_LOST 0 1 ((d.set L.MON_MAINS_STAT_VALID 0).set L.MON_MAINS_STAT_HELD 1)
  else d

/-- P_m is the mean of the last four periods, rounded to whole cycles; a half goes either way (log 20). -/
def mainsMean (ps : List Nat) (d : Device) : Nat × Device :=
  let s := ps.foldl (· + ·) 0
  if s % 4 = 2 then
    let (v, d) := d.draw
    (s / 4 + v % 2, d)
  else ((s + 2) / 4, d)

/-- The MONITOR island is powered and out of reset (R498). -/
def Device.monPowered (d : Device) : Bool := !d.coldHeld && d.asleep != 3

/-- A MAINS_SYNC edge `cycles` after the last accepted one (R472). -/
def mainsEdge (cycles : Nat) (d : Device) : Device :=
  let t := d.mains
  if !d.monPowered then d
  else if !t.seen then { d with mains := { t with seen := true } }
  else if cycles < 184320 then d
  else
    let inRange := 215040 ≤ cycles && cycles ≤ 384000
    let match' := match t.prev with
      | some p => (max p cycles - min p cycles) * 100 ≤ p
      | none => false
    if inRange && match' then
      let good := (cycles :: t.good).take 4
      let d := { d with mains := { t with prev := some cycles, good := good } }
      if good.length < 4 then d
      else
        let (p, d) := mainsMean good d
        let d := d.set L.MON_MAINS_STAT_PERIOD p
        if d.on L.MON_MAINS_STAT_VALID then d
        else
          let d := { d with mains := { d.mains with ever := true } }
          monEvent L.MON_EVENT_MAINS_OK 0 1 ((d.set L.MON_MAINS_STAT_VALID 1).set L.MON_MAINS_STAT_HELD 0)
    else mainsLost { d with mains := { t with prev := some cycles, good := [] } }

/-- No edge for 30 ms (R473). -/
def mainsTimeout (d : Device) : Device := mainsLost { d with mains := { d.mains with prev := none, good := [] } }

/-! ## PWM (R482, R483) -/

/-- Output `j` takes the settings held at the start of a period; unpowered it stays low. -/
def pwmStart (j : Nat) (d : Device) : Device :=
  d.when d.monPowered fun d => { d with pwm := tabPut d.pwm j (d.rd (A.MON_PWM_CFG j), d.rd (A.MON_PWM_DUTY j)) }

/-- Cycles per period of settings (R482). -/
def pwmPeriod (cfg : Nat) : Nat := max 15 (bitsOf cfg 0 24)
/-- High cycles per period; 0 while EN = 0 (R482, R483). -/
def pwmHigh (cfg duty : Nat) : Nat :=
  if bitsOf cfg 31 1 = 0 then 0 else (2 * pwmPeriod cfg * min 65536 (bitsOf duty 0 17) + 65536) / 131072

/-- The MON block after a warm reset: the sequencer stops, the tracker starts afresh, PWM runs on (R481). -/
def monReset (old d : Device) : Device := { d with mon := [], mains := ⟨false, none, [], false⟩, pwm := old.pwm }

/-! ## Meanings -/

/-- MON_SETUP_END (R474). -/
def execMonSetupEnd (k : Nat) (s : State) : Host.Outcome State Fault Refusal := actDev (.monSetupEnd k) s (monSetupEnd k)
/-- MON_INTEGRATION_END (R474). -/
def execMonIntegrationEnd (k : Nat) (raw : Int) (s : State) : Host.Outcome State Fault Refusal :=
  actDev (.monIntegrationEnd k raw) s (monIntegrationEnd k raw)
/-- MON_DELAY_END (R478). -/
def execMonDelayEnd (k : Nat) (s : State) : Host.Outcome State Fault Refusal := actDev (.monDelayEnd k) s (monDelayEnd k)
/-- MON_TIMER_TICK (R477). -/
def execMonTimerTick (s : State) : Host.Outcome State Fault Refusal :=
  actDev .monTimerTick s fun d => if d.get L.MON_TRIG_TIMER = 0 then d else monTrigger 1 d
/-- MON_PWM_TRIGGER (R477). -/
def execMonPwmTrigger (s : State) : Host.Outcome State Fault Refusal := actDev .monPwmTrigger s (monTrigger 2)
/-- MON_TRIGGER_TIMEOUT (R477). -/
def execMonTriggerTimeout (k : Nat) (s : State) : Host.Outcome State Fault Refusal :=
  actDev (.monTriggerTimeout k) s (monTimeout k)
/-- PWM_PERIOD_START (R483). -/
def execPwmPeriodStart (j : Nat) (s : State) : Host.Outcome State Fault Refusal := actDev (.pwmPeriodStart j) s (pwmStart j)

end Sys2Proof.Machine
end

