-- ==== Sys2Proof/Machine/Pwr.lean ====
section
/-! DEFINITION. Power domains, performance levels and sleep (R485–R503). -/
namespace Sys2Proof.Machine

/-- A PWR event: CLASS PWR, SOURCE the domain (R485), REG 0, EMBER. -/
def pwrEvent (l : Loc) (src sev : Nat) (items : List (Nat × Nat)) (d : Device) : Device := d.event l isleEMBER 4 src 0 sev items

/-! ## Domains (R486, R489, R490) -/

/-- What a domain's power-up starts again (R486). -/
def domainUp (n : Nat) (d : Device) : Device :=
  if n = 4 then mdllStart d
  else if 32 ≤ n then
    let p := n - 32
    let d := if d.on (L.RXADC_CFG_EN p) then rxEnable p d else d
    if d.on (L.TXDAC_CFG_EN p) then dmpAllow p (txEnable p d) else d
  else if 24 ≤ n then
    if d.on (L.RXADC_CFG_EN (40 + n)) then rxEnable (40 + n) d else d
  else if 9 ≤ n then d.set (L.MBX_BSTAT_STATE (n - 8)) 0
  else d

/-- What a domain takes with it when its switches start to open (R486). -/
def domainDown (n : Nat) (d : Device) : Device :=
  if n = 4 then
    let d := ((setMstate 0 (outageStart d)).set L.CLK_STAT_MDLL_LOCK 0).set L.CLK_STAT_DBL_LOCK 0
    d
  else if 32 ≤ n then burstRecheckAll (txDisable (n - 32) (rxDisable (n - 32) d))
  else if 24 ≤ n then rxDisable (40 + n) (capStop (n - 24) 1 d)
  else if n = 6 || n = 7 then symsMark d
  else d

/-- Power good (R489). -/
def domainGood (n : Nat) (d : Device) : Device :=
  if neverOff n || d.domState n ≠ 1 then d
  else
    let d := domainUp n (setDom n 2 d)
    if d.votes n = 0 then setDom n 3 d else d

/-- No power good 1 ms after the switches close (R489, R490). -/
def domainFail (n : Nat) (d : Device) : Device :=
  if neverOff n || d.domState n ≠ 1 then d
  else depVotes (pwrEvent L.PWR_EVENT_DFAIL n 1 [] (setDom n 0 { d with dfail := n :: d.dfail.filter (· != n) }))

/-- The hysteresis ends (R489). -/
def domainExpire (n : Nat) (d : Device) : Device :=
  if neverOff n || d.domState n ≠ 3 then d else domainDown n (setDom n 4 d)

/-- The switches are open (R489): a vote set meanwhile powers up. -/
def domainOff (n : Nat) (d : Device) : Device :=
  if neverOff n || d.domState n ≠ 4 then d
  else depVotes (setDom n (if d.votes n = 0 then 0 else 1) d)

/-- The vote bits a master owns (R488); only Bead 0 clears BOOT. -/
def ownVotes (m : Nat) (clear : Bool) : List Nat :=
  if m < 16 then [m] ++ (if m = 15 then [18] else []) ++ (if m = 0 && clear then [22] else [])
  else if m = 16 || m = 17 then [16]
  else if m = 21 then [17]
  else []

/-- Votes a write asks for that its master does not own. -/
def foreignVotes (m bits : Nat) (clear : Bool) : Bool :=
  (List.range 23).any fun b => bitsOf bits b 1 == 1 && !(ownVotes m clear).contains b

/-- VOTE_ERR (R488): at most one record per master per 1 ms. -/
def voteErr (m n : Nat) (d : Device) : Device :=
  (d.set L.PWR_EVENT_VOTE_ERR 1).logLimited (limiterKey L.PWR_EVENT_VOTE_ERR m) ticksPerMs isleEMBER 1 4 n L.PWR_EVENT_VOTE_ERR.lo []

/-- PWR_VSET written by master `m` (R488). -/
def voteSet (m n bits : Nat) (d : Device) : Device :=
  if neverOff n then d
  else
    let d := if foreignVotes m bits false then voteErr m n d else d
    (ownVotes m false).foldl (fun d b => if bitsOf bits b 1 = 1 then vote n b d else d) d

/-- PWR_VCLR written by master `m` (R488). -/
def voteClear (m n bits : Nat) (d : Device) : Device :=
  if neverOff n then d
  else
    let d := if foreignVotes m bits true then voteErr m n d else d
    (ownVotes m true).foldl (fun d b => if bitsOf bits b 1 = 1 then unvoteOne n b d else d) d

/-- Every votable domain with a vote powers up after a reset (R488). -/
def domainsBoot (d : Device) : Device :=
  (List.range 24).foldl (fun d n => if neverOff n || d.votes n = 0 then d else setDom n 1 d) d

/-! ## Performance levels (R494–R496) -/

/-- VDD_CORE requested at a level, in mV (R75, R494). -/
def Device.coreVoltage (d : Device) (level : Nat) : Nat :=
  match level with
  | 1 => 600
  | 2 => max 600 (660 - d.voltOffset)
  | 3 => max 600 (720 - d.voltOffset)
  | 4 => max 600 (780 - d.voltOffset)
  | _ => 780

/-- N and K of AUX0 to AUX3 at a level (R102). -/
def levelDividers (level : Nat) : List (Nat × Nat) :=
  match level with
  | 4 => [(6, 0), (8, 0), (7, 624), (6, 192)]
  | 3 => [(8, 0), (10, 0), (10, 320), (6, 192)]
  | 2 => [(12, 0), (12, 0), (15, 480), (12, 384)]
  | _ => [(24, 0), (24, 0), (31, 192), (12, 384)]

/-- AUX0–AUX3 at the values of a level. -/
def setDividers (level : Nat) (d : Device) : Device :=
  laneRebase (fun d => d.each 4 fun k d =>
    let (n, x) := (levelDividers level).getD k (24, 0)
    (d.set (L.CLK_AUXDIV_N k) n).set (L.CLK_AUXDIV_K k) x) d

/-- A level runs in low-power converter mode (R494). -/
def levelLp (level : Nat) : Bool := level ≤ 2

/-- The band of carrier `i` on its paths lies in usable bands of a converter mode (R116, R146). -/
def Device.bandsOk (d : Device) (lp : Bool) (i : Nat) : Bool :=
  let s := (d.ofPlanned i).1
  let half := s.band * 15000 / 2 * 2 ^ 48
  s.paths.all fun p =>
    let k := chainFor i p
    let f := hz48 (if (d.chn k).commit.isSome then d.stagedFtw k else (d.chn k).ftw)
    let within := fun (lo hi : Nat) => lo * 1000 * 2 ^ 48 + half ≤ f && f + half ≤ hi * 1000 * 2 ^ 48
    let bands : List (Nat × Nat) :=
      if i < 4 then
        (if lp then [(410000, 3010560), (3133440, 6082560)] else [(410000, 6082560), (6205440, 7125000)])
      else if lp then [(410000, 1474560), (1597440, 3010560), (3133440, 4546560)]
      else [(410000, 3010560), (3133440, 6082560), (6205440, 7125000)]
    bands.any fun b => within b.1 b.2

/-- The admission check of a direction at a level (R199): each carrier's plan taken with those below it; the carrier, ERRC, UTIL
and WORST of the first that fails, else of the last. -/
def Device.admitCheck (d : Device) (level dir : Nat) : Option (Nat × Nat × Nat × Nat) :=
  let planned := d.ofPlan (4 * dir) (d.ofPlanned (4 * dir))
  let each := (List.range 4).filterMap fun c =>
    let take := fun (l : List (Nat × OfSet × Nat)) => l.filter fun x => x.1 ≤ 4 * dir + c
    if planned.any fun x => x.1 == 4 * dir + c then
      some (c, d.admission level dir (take planned) (take (d.ofForce dir)))
    else none
  (each.find? fun x => x.2.1 != 0).orElse fun _ => each.getLast?

/-- The first carrier of a direction that breaks the beamformer's capacity at a level (R229). -/
def Device.beamFail (d : Device) (level dir : Nat) : Option (Nat × Nat) :=
  (List.range 4).findSome? fun c =>
    let e := d.capacityFail level dir fun k => if k ≤ 4 * dir + c then (d.grd k).ccfgPlan else 0
    if e = 0 then none else some (c, e)

/-- A refused level change (R496). -/
def levelRefuse (lerr : Nat) (d : Device) : Device := pwrEvent L.PWR_EVENT_LVL_REFUSED 0 1 [] (d.set L.PWR_LSTAT_LERR lerr)

/-- A failing check of step 1 (R496). -/
def levelFails (i detail : Nat) (d : Device) : Device :=
  levelRefuse 2 (((d.set L.PWR_LRES_CARRIER (i % 4)).set L.PWR_LRES_DIR (i / 4)).set L.PWR_LRES_DETAIL detail)

/-- The admission check of a direction for a level change: OF_ADM reports it, admitted or refused (R198, R199, R495); the second
answer says that it passes. -/
def levelAdmit (level dir : Nat) (d : Device) : Device × Bool :=
  match d.admitCheck level dir with
  | none => (d, true)
  | some (c, e, util, worst) =>
    let d := ((d.set (L.OF_ADM_CAUSE dir) e).set (L.OF_ADM_UTIL dir) util).set (L.OF_ADM_WORST dir) worst
    if e = 0 then (d, true) else (levelFails (4 * dir + c) (0x10 + e) d, false)

/-- The checks of step 1 at a level (R495): the second answer says that they pass. -/
def levelChecks (level : Nat) (d : Device) : Device × Bool :=
  match (List.range 8).find? fun i => (d.ofPlanned i).1.en && !d.bandsOk (levelLp level) i with
  | some i => (levelFails i 0x14 d, false)
  | none =>
    let (d, ok) := levelAdmit level 0 d
    let (d, ok) := if ok then levelAdmit level 1 d else (d, false)
    if !ok then (d, false)
    else match [0, 1].findSome? fun dir => (d.beamFail level dir).map fun x => (dir, x) with
      | some (dir, c, e) => (levelFails (4 * dir + c) (0x20 + e) (d.set (L.BM_DSTAT_PLC dir) e), false)
      | none => (d, true)

/-- A level change is complete once nothing is pending (R495). -/
def levelFinish (d : Device) : Device :=
  if d.on L.PWR_LSTAT_CHG && d.avs = 0 && !d.on L.PWR_LSTAT_CONV_PEND && !d.on L.PWR_LSTAT_VPEND then
    pwrEvent L.PWR_EVENT_LVL_DONE 0 1 [] (d.set L.PWR_LSTAT_CHG 0)
  else d

/-- VDD_CORE to a voltage; the report awaited is `kind` (R75, R495). -/
def setVoltage (mv kind : Nat) (d : Device) : Device :=
  if d.fixedVoltage then d else { (d.set L.PWR_LSTAT_VOUT mv) with avs := kind }

/-- Steps 4 and 5 (R495). -/
def levelTake (level : Nat) (d : Device) : Device :=
  let d := (d.set L.PWR_LSTAT_LEVEL level).set L.CLK_CFG_CONV_LP (bit (levelLp level))
  (doublerSettle d).set L.PWR_LSTAT_CONV_PEND (bit (d.lowPower != levelLp level))

/-- PWR_LCTL with GO (R495). -/
def levelGo (level : Nat) (d : Device) : Device :=
  if level < 1 || 4 < level || d.on L.PWR_LSTAT_CHG || d.get L.PWR_SSTAT_STEP ≠ 0 then levelRefuse 1 d
  else
    let cur := d.level
    let lower := cur = 0 || level < cur
    let (d, passes) := if lower then levelChecks level d else (d, true)
    if !passes then d
    else
      let d := ((d.set L.PWR_LSTAT_TARGET level).set L.PWR_LSTAT_CHG 1).set L.PWR_LSTAT_LERR 0
      if lower then
        let d := setDividers level d
        let interim := levelLp level && !d.lowPower && !d.fixedVoltage
        let d := if interim then setVoltage (d.coreVoltage 3) 3 (d.set L.PWR_LSTAT_VPEND 1)
          else setVoltage (d.coreVoltage level) 2 d
        levelFinish (levelTake level d)
      else
        let d := setVoltage (d.coreVoltage level) 1 d
        if d.fixedVoltage then levelFinish (levelTake level (setDividers level d)) else d

/-- The regulator reports (R495). -/
def avsReport (d : Device) : Device :=
  let target := d.get L.PWR_LSTAT_TARGET
  match d.avs with
  | 1 => levelFinish (levelTake target (setDividers target ({ d with avs := 0 }.set L.PWR_LSTAT_VPEND 0)))
  | 2 => levelFinish ({ d with avs := 0 }.set L.PWR_LSTAT_VPEND 0)
  | 3 =>
    let d := { d with avs := 0 }
    if d.on L.PWR_LSTAT_CONV_PEND then d else setVoltage (d.coreVoltage target) 4 d
  | 4 => levelFinish ({ d with avs := 0 }.set L.PWR_LSTAT_VPEND 0)
  | _ => d

/-- No report within 1 ms (R496). -/
def avsTimeout (d : Device) : Device :=
  if d.avs = 0 then d
  else
    let d := if d.avs = 1 then d else d.set L.PWR_LSTAT_VPEND 1
    pwrEvent L.PWR_EVENT_AVS_FAIL 0 1 [] (({ d with avs := 0 }.set L.PWR_LSTAT_LERR 3).set L.PWR_LSTAT_CHG 0)

/-- The converter mode matches after a strobe (R495): the target voltage where it waited. -/
def levelMode (d : Device) : Device :=
  if d.on L.PWR_LSTAT_CONV_PEND && d.get L.CLK_STAT_CONV_LP_ACTIVE = d.get L.CLK_CFG_CONV_LP then
    let d := d.set L.PWR_LSTAT_CONV_PEND 0
    if d.on L.PWR_LSTAT_CHG && d.on L.PWR_LSTAT_VPEND && d.avs = 0 then setVoltage (d.coreVoltage (d.get L.PWR_LSTAT_TARGET)) 4 d
    else levelFinish d
  else d

/-! ## Sleep entry (R498–R502) -/

/-- The entry step in progress. -/
def Device.step' (d : Device) : Nat := d.get L.PWR_SSTAT_STEP
/-- STEP set. -/
def setStep (n : Nat) (d : Device) : Device := d.set L.PWR_SSTAT_STEP n

/-- The preconditions of S2 and S3 (R443): no carrier enabled, every path OFF. -/
def Device.quiet (d : Device) : Bool :=
  (List.range 8).all (fun i => !(d.grd i).of.en) && (List.range 64).all fun p => d.pathState p == 0

/-- An entry is abandoned (R502). -/
def sleepAbort (cause : Nat) (d : Device) : Device :=
  let step := d.step'
  let d := d.sleep.paused.foldl (fun d ch => if d.dmaState ch = 5 then dmaGo ch d else d) d
  let d := { d with sleep := { d.sleep with paused := [] }, tctl := { d.tctl with saved := none } }
  let d := d.each 16 fun n => deliverTo (64 + n)
  let d := ((setStep 0 d).set L.PWR_SSTAT_ACAUSE cause).inc L.PWR_SSTAT_ABORTS
  pwrEvent L.PWR_EVENT_ABORT 0 1 [(cause, 3), (step, 3)] d

/-- PWR_SCTL with GO (R501): step 1, then the first step that waits. -/
def sleepGo (st : Nat) (mem : List Host.Cell) (d : Device) : Device :=
  if st = 0 || d.step' ≠ 0 || d.asleep ≠ 0 then d
  else
    let d := setStep 1 { d with sleep := { d.sleep with target := st, paused := [], held := 0, waking := false } }
    if 2 ≤ st && !d.quiet then sleepAbort 2 d
    else if st = 1 then setStep 3 d
    else
      let chs := (d.dma.map (·.1)).filter fun ch => d.dmaState ch == 1 || d.dmaState ch == 2 || d.dmaState ch == 3
      let d := chs.foldl (fun d ch => dmaStopStyle ch false mem d) d
      setStep 2 { d with sleep := { d.sleep with paused := chs } }

/-- A step is done: the next one that is not skipped. -/
def stepDone (step : Nat) (d : Device) : Device :=
  if d.step' ≠ step then d
  else setStep (if step = 4 && d.sleep.target = 1 then 6 else step + 1) d

/-- A doorbell is queued for a Bead. -/
def Device.beadQueued (d : Device) : Bool := d.mbx.any fun x => !x.2.isEmpty && d.receiver x.1 < 16

/-- Step 4 ends (R501): the island buffers have been drained to the ring. -/
def flushDone (d : Device) : Device :=
  if d.step' ≠ 4 then d else if d.beadQueued then sleepAbort 5 d else stepDone 4 (tallyDrain d)

/-- Step 5 ends at crystal count `e` (R381). -/
def saveDone (e : Nat) (d : Device) : Device := if d.step' = 5 then stepDone 5 (timeSave e d) else d

/-- A step exceeds its bound (R501): the causes of steps 2 and 3 are named, that of another step is not (log 30). -/
def stepTimeout (d : Device) : Device :=
  match d.step' with
  | 0 => d
  | 2 => sleepAbort 3 d
  | 3 => sleepAbort 4 d
  | 6 => d
  | _ =>
    let (v, d) := d.draw
    sleepAbort (v % 8) d

/-- The gated interval begins (R498): converters gated, samples and symbols marked as in R112. -/
def gateAll (d : Device) : Device :=
  let d := if d.clk.outage then d else { d with clk := { d.clk with outageFrom := d.laneNow } }
  symsMark (txSideStop (rxSideStop (calOutage d)))

/-- Domains in ON or HYST among a set move to GATED or RET. -/
def domainsTo (st : Nat) (which : Nat → Bool) (d : Device) : Device :=
  (List.range 96).foldl (fun d n =>
    if !neverOff n && which n && (d.domState n = 2 || d.domState n = 3) then setDom n st d else d) d

/-- The stamp of a record made at crystal count `e` (R392). -/
def Device.emberStamp (d : Device) (e : Nat) : Nat :=
  match d.tctl.saved with
  | some s => d.sleepStamp ((e + 2 ^ 48 - s.e0) % 2 ^ 48)
  | none => d.localTime isleEMBER

/-- Synthesisers and auxiliary PLL off, links down (R498, R499), every TPULSE low (R379). -/
def powerStop (d : Device) : Device :=
  let d := portDown 1 (portDown 0 d)
  let d := ((setMstate 0 d).set L.CLK_STAT_MDLL_LOCK 0).set L.CLK_STAT_DBL_LOCK 0
  let d := ((d.set L.CLK_STAT_AUX_LOCK 0).set L.CLK_STAT_ALIGNED 0).set L.CLK_STAT_FH_PRESENT 0
  let d := d.set L.CLK_REFMON_VALID 0
  let d := d.each 8 fun k d => d.when (d.on (L.TP_STAT_HIGH k)) (pulseLow k)
  { d with tickRuns := false }

/-- Step 6 ends at crystal count `e` (R498, R501). -/
def enterDone (e : Nat) (d : Device) : Device :=
  if d.step' ≠ 6 then d
  else
    let st := d.sleep.target
    let d := { d with sleep := { d.sleep with stamp := d.emberStamp e } }
    let d := (gateAll (setStep 0 d)).set L.PWR_SSTAT_SSTATE st
    if st = 1 then domainsTo 5 (fun n => n != 4) d
    else if st = 2 then
      let d := powerStop (domainsTo 6 (fun _ => true) d)
      if d.fixedVoltage then d else d.set L.PWR_LSTAT_VOUT 600
    else
      let d := powerStop (domainsTo 0 (fun _ => true) d)
      { monStop d with mbx := [], pwm := [], tally := { d.tally with bufs := d.tally.bufs.filter (·.1 == isleEMBER), held := [], backlog := [] } }

/-! ## Wake (R500–R503) -/

/-- A wake source acts in a sleep state (R500). -/
def sourceActs (src st : Nat) : Bool :=
  match src with
  | 0 => true
  | 1 => st ≤ 2
  | 2 => st == 1
  | 3 => st == 1
  | 4 => st ≤ 2
  | 5 => true
  | _ => true

/-- The source is enabled: SMB always, the timer only with an instant, a GPIO only with its edge (R500). -/
def Device.sourceOn (d : Device) (src pin edge : Nat) : Bool :=
  if src = 0 then true
  else if bitsOf (d.get L.PWR_WAKE_EN_EN) (src - 1) 1 = 0 then false
  else if src = 5 then d.get L.PWR_WAKE_AT_LO_CYC_LO ≠ 0 || d.get L.PWR_WAKE_AT_HI_CYC_HI ≠ 0
  else if src = 6 then bitsOf (d.rd A.PWR_GPIO_WAKE) (2 * pin) 2 % (2 * edge) ≥ edge
  else true

/-- PWR_WAKE_SRC holds the sources of the last wake or abort (R502, R503). -/
def wakeSrc (bits : Nat) (d : Device) : Device := d.set ⟨A.PWR_WAKE_SRC, 0, 8⟩ bits

/-- A wake starts from S1 or S2 (R503): at S2 the voltage returns and the MDLL searches, unless the SYNTH domain was voted off
before the entry and stays OFF: its search then starts when it powers up (R486; log 111). -/
def wakeStart (bits : Nat) (d : Device) : Device :=
  if d.sleep.waking then d
  else
    let d := wakeSrc bits { d with sleep := { d.sleep with waking := true } }
    if d.asleep = 2 then
      let d := if d.fixedVoltage then d else d.set L.PWR_LSTAT_VOUT (d.coreVoltage d.level)
      if d.domState 4 = 6 then mdllStart (setDom 4 2 d) else d
    else d

/-- A wake event that counts: abort of an entry, a held wake, or a wake (R500, R502). -/
def wakeAct (bits : Nat) (d : Device) : Device :=
  let step := d.step'
  if step = 6 then { d with sleep := { d.sleep with held := d.sleep.held ||| bits } }
  else if step ≠ 0 then sleepAbort 1 (wakeSrc bits d)
  else if d.asleep ≠ 0 then wakeStart bits d
  else d

/-- A wake event of a source (R500). -/
def wakeEvent (src pin edge : Nat) (d : Device) : Device :=
  let st := if d.asleep ≠ 0 then d.asleep else d.sleep.target
  if (d.asleep ≠ 0 || d.step' ≠ 0) && d.sourceOn src pin edge && sourceActs src st then wakeAct (2 ^ src) d else d

/-- A doorbell accepted for a Bead (R500, R501): a wake event, and in step 4 an abort. -/
def mbxWake (d : Device) : Device :=
  if d.step' = 4 && d.beadQueued && bitsOf (d.get L.PWR_WAKE_EN_EN) 1 1 = 0 then sleepAbort 5 d else wakeEvent 2 0 1 d

/-- The ENTER record with the stamp of step 6, which is late where it was made in S2 or S3, and WAKE (PWR_EVENT, R392, R503). -/
def wakeRecords (d : Device) : Device :=
  let r : LogRec := ⟨d.sleep.stamp, isleEMBER, d.sleep.target != 1, 1, 4, 0, L.PWR_EVENT_ENTER.lo, 0, d.tally.epoch⟩
  pwrEvent L.PWR_EVENT_WAKE 0 1 [] ((d.set L.PWR_EVENT_ENTER 1).push r)

/-- The wake completes (R503). -/
def wakeDone (d : Device) : Device :=
  if !d.sleep.waking then d
  else
    let st := d.asleep
    let d := { d with sleep := { d.sleep with waking := false } }
    let d := (List.range 96).foldl (fun d n =>
      if !neverOff n && (d.domState n = 5 || d.domState n = 6) then setDom n (if d.votes n = 0 then 3 else 2) d else d) d
    let d := (d.when (st == 1 && !d.clk.outage) outageRuns).set L.PWR_SSTAT_SSTATE 0
    let d := if st = 1 then
        let d := if d.clk.outage then d else d.each 72 rxUngate
        symsMark (if d.clk.outage || d.clk.txOutage then d else txSideStart d)
      else d
    let d := d.sleep.paused.foldl (fun d ch => if d.dmaState ch = 5 then dmaGo ch d else d) d
    wakeRecords { d with sleep := { d.sleep with paused := [] } }

/-! ## Accesses to a domain that is not ON (R491–R493) -/

/-- The bus error of a stall: BUS_TIMEOUT and the syndrome (R493). -/
def busError (m a cause : Nat) (d : Device) : Device :=
  let n := domainOf a
  let d := ((d.set L.PWR_SYN_CAUSE cause).set L.PWR_SYN_MASTER m).set L.PWR_SYN_DOMAIN n
  let d := (d.set L.PWR_SYN_ADDR_ADDR a).log isleEMBER 1 4 n (common 7) [(a, 32)]
  { d with reply := some ⟨m, a, 0, true⟩ }

/-- The wake source a master maps to (R491): its bit in PWR_WAKE_SRC, if enabled. -/
def Device.masterWakes (d : Device) (m : Nat) : Option Nat :=
  if m = 17 then some 1
  else if m = 16 then (if d.sourceOn 1 0 1 then some 2 else none)
  else if m = 21 then some 0
  else none

/-- A domain is held by a sleep entry after its last abort point (R491). -/
def Device.domHeld (d : Device) (n : Nat) : Bool :=
  d.step' == 6 && (if d.sleep.target = 1 then n == 6 || n == 7 || 8 ≤ n else !(n == 0 || n == 1 || n == 3))

/-- What an access to a domain does (R491): 0 it completes, 1 it waits, 2 it has ended in a bus error. -/
def domainAccess (m a : Nat) (d : Device) : Nat × Device :=
  let n := domainOf a
  let st := d.domState n
  if d.domHeld n || st = 5 || st = 6 || (d.asleep = 3 && n ≠ 0) then
    match d.masterWakes m with
    | some b => (1, wakeAct (2 ^ 7 + b) d)
    | none => (2, busError m a 2 d)
  else if st = 2 then (0, d)
  else if st = 3 then (0, setDom n 2 d)
  else if d.dfail.contains n then (2, busError m a 3 d)
  else (1, vote n 21 d)

/-! ## Meanings -/

/-- DOMAIN_HYST_EXPIRY (R489). -/
def execDomainHystExpiry (n : Nat) (s : State) : Host.Outcome State Fault Refusal :=
  actDev (.domainHystExpiry n) s (domainExpire n)
/-- DOMAIN_DOWN_DONE (R489). -/
def execDomainDownDone (n : Nat) (s : State) : Host.Outcome State Fault Refusal :=
  actDev (.domainDownDone n) s (domainOff n)
/-- AVS_REPORT (R495). -/
def execAvsReport (s : State) : Host.Outcome State Fault Refusal := actDev .avsReport s avsReport
/-- AVS_TIMEOUT (R496). -/
def execAvsTimeout (s : State) : Host.Outcome State Fault Refusal := actDev .avsTimeout s avsTimeout
/-- SLEEP_DMA_PAUSED (R501). -/
def execSleepDmaPaused (s : State) : Host.Outcome State Fault Refusal :=
  actDev .sleepDmaPaused s fun d => if d.dmaQuiet then stepDone 2 d else d
/-- SLEEP_BEADS_IDLE (R501). -/
def execSleepBeadsIdle (s : State) : Host.Outcome State Fault Refusal := actDev .sleepBeadsIdle s (stepDone 3)
/-- SLEEP_FLUSH_DONE (R501). -/
def execSleepFlushDone (s : State) : Host.Outcome State Fault Refusal := actDev .sleepFlushDone s flushDone
/-- SLEEP_SAVE_DONE (R381). -/
def execSleepSaveDone (e : Nat) (s : State) : Host.Outcome State Fault Refusal := actDev (.sleepSaveDone e) s (saveDone e)
/-- SLEEP_STEP_TIMEOUT (R501, R502). -/
def execSleepStepTimeout (s : State) : Host.Outcome State Fault Refusal := actDev .sleepStepTimeout s stepTimeout
/-- TIME_BRIDGE_LOAD (R382). -/
def execTimeBridgeLoad (e : Nat) (s : State) : Host.Outcome State Fault Refusal := actDev (.timeBridgeLoad e) s (timeBridge e)
/-- XIN_STOP (R383). -/
def execXinStop (e : Nat) (s : State) : Host.Outcome State Fault Refusal := actDev (.xinStop e) s (xinStop e)

end Sys2Proof.Machine
end

