-- ==== Sys2Proof/Machine/Boot.lean ====
section
/-! DEFINITION. Resets, OTP settings, container authentication, the boot ROM, the debug unlock, PCIe and the watchdogs
(R76–R79, R86, R89, R406, R408, R410, R411, R504–R521). -/
namespace Sys2Proof.Machine

/-! ## Values at the start of a reset (R385, R408, R505, R529) -/

/-- The bits of a field in its word. -/
def Loc.bits (l : Loc) : Nat := (2 ^ l.w - 1) * 2 ^ l.lo

/-- Fields that a warm reset leaves beside the RWS fields (R408, R504, R521, R396). -/
def retainedBits : RegName → Nat
  | .RXADC_MAP => 2 ^ 32 - 1
  | .RXADC_STAT => (L.RXADC_STAT_FAILED 0).bits + (L.RXADC_STAT_REDUND 0).bits + (L.RXADC_STAT_SPARE 0).bits
  | .RXADC_FAULT => 2 ^ 32 - 1
  | .TXDAC_STAT => (L.TXDAC_STAT_FAILED_N 0).bits + (L.TXDAC_STAT_EXCL_PEND 0).bits + (L.TXDAC_STAT_SPARES 0).bits +
      (L.TXDAC_STAT_REDUND 0).bits
  | .TXDAC_FAULT => 2 ^ 32 - 1
  | .TXDAC_SEGFAIL => 2 ^ 32 - 1
  | .BM_DSTAT => (L.BM_DSTAT_ELEM_DROP 0).bits + (L.BM_DSTAT_REDUND 0).bits + (L.BM_DSTAT_SPARES 0).bits
  | .BM_FAULT => 2 ^ 32 - 1
  | .BM_FAULT_SYM => 2 ^ 32 - 1
  | .BM_RETIRED => 2 ^ 32 - 1
  | .BM_RODMAP => 2 ^ 32 - 1
  | .TLY_KEEP_WR => L.TLY_KEEP_WR_WR.bits
  | .PWR_WAKE_SRC => 2 ^ 32 - 1
  | .BOOT_DBG => L.BOOT_DBG_UNLOCK.bits
  | .BOOT_DBG_NONCE => 2 ^ 32 - 1
  | _ => 0

/-- The bits of the sticky fields (R22). -/
def stickyBits (fs : List FieldRow) : Nat :=
  fs.foldl (fun n f => if f.acc = .rws then n + (2 ^ (f.hi + 1) - 2 ^ f.lo) else n) 0

/-- A register word after a warm reset: sticky and retained fields kept, the rest at reset; MSI-X words keep (R505). -/
def warmWord (a w : Nat) : Nat :=
  match regAt a with
  | none => w
  | some (r, _, _) =>
    let keep := stickyBits r.fields ||| retainedBits r.name
    (w &&& keep) ||| (resetWord a &&& ((2 ^ 32 - 1) ^^^ keep))

/-- The registers after a warm reset.  The correction coefficients of R133 are not in the list of R408: they are reset
(log 114). -/
def warmRegs : List (Nat × Word) → List (Nat × Word)
  | [] => []
  | (a, w) :: t =>
    let v := warmWord a w.toNat
    if (regAt a).isSome && v = resetWord a then warmRegs t else (a, word v) :: warmRegs t

/-- The RESET record, first after every reset (R388, R398, R504). -/
def resetRecord (d : Device) : Device :=
  let cause := d.get L.BOOT_RCAUSE_CAUSE
  d.log isleEMBER (if cause = 2 || cause = 3 then 7 else 0) 6 0 (common 11) [(cause, 32)]

/-- The fixed comparators act without firmware: a thermal trip stands through a reset until every sensor is below 105 °C
(R89; log 110). -/
def thermStands (old d : Device) : Device := d.when (old.on L.DMP_STAT_THERM) fun d => d.set L.DMP_STAT_THERM 1

/-- A cold reset with a cause (R505): all registers and states at reset, Ember retention kept but for POWER_ON, OTP, flash
and the free values beside. -/
def coldReset (cause : Nat) (d : Device) : Device :=
  let wr := d.get L.TLY_KEEP_WR_WR
  let r : Device := { Device.reset with
    drawn := d.drawn
    delivered := d.delivered, otpBurns := d.otpBurns, flashTakes := d.flashTakes
    boot := { Device.reset.boot with
      porstLow := d.boot.porstLow, g1 := d.boot.g1, railHold := d.boot.railHold, thermHold := d.boot.thermHold
      perstLow := d.boot.perstLow, otp := d.boot.otp, dieId := d.boot.dieId, wortilKey := d.boot.wortilKey
      branch := d.boot.branch, flash := d.boot.flash, flashOk := d.boot.flashOk } }
  let r := if cause = 0 then r
    else { (r.set L.TLY_KEEP_WR_WR wr) with tally := { r.tally with kept := d.tally.kept } }
  let (nonce, r) := r.draw
  let r := r.when (cause != 0) (thermStands d)
  (r.set L.BOOT_DBG_NONCE_NONCE nonce).set L.BOOT_RCAUSE_CAUSE cause

/-- The cold reset ends (R511): votable domains power up, the synthesisers start, and the first record is RESET. -/
def coldRelease (d : Device) : Device := if d.coldHeld then d else resetRecord (mdllStart (domainsBoot d))

/-- Receive converter after a warm reset: retired slices stay retired (R408), and a takeover under way is completed (R129). -/
def rxKept (c : RxCtl) : RxCtl :=
  { RxCtl.idle with concealed := c.concealed, takeover := c.takeover, hides := c.hides.filter fun h => h.2.2.isNone }
/-- Transmit converter after a warm reset: excluded segments stay excluded (R408). -/
def txKept (c : TxCtl) : TxCtl :=
  { TxCtl.idle with mapped := c.mapped, excluded := c.excluded, unspared := c.unspared, failing := c.failing }

/-- A warm reset with a cause (R504, R505, R385, R408, R529).  Its first record is RESET; the records of an S3 sleep stay in Ember's buffer
ahead of it (R388, R392). -/
def warmReset (cause : Nat) (old : Device) : Device :=
  let s3 := cause == 7
  let d : Device := { Device.reset with
    regs := warmRegs old.regs
    ticks := old.ticks, drawn := old.drawn
    rx := old.rx.map fun x => (x.1, rxKept x.2)
    tx := old.tx.map fun x => (x.1, txKept x.2)
    tally := { Device.reset.tally with
      kept := old.tally.kept, clocks := old.tally.clocks, epoch := old.tally.epoch, merged := old.tally.epoch
      bufs := if s3 then old.tally.bufs.filter (·.1 == isleEMBER) else [] }
    delivered := old.delivered, msixPend := old.msixPend, otpBurns := old.otpBurns, flashTakes := old.flashTakes
    sleep := if s3 then { old.sleep with paused := [], held := 0 } else Device.reset.sleep
    fixedVoltage := old.fixedVoltage, voltOffset := old.voltOffset
    fnAdd := old.fnAdd
    boot := { old.boot with
      fabricReady := false, cands := [], version := 0
      staged := if cause = 5 then old.boot.staged else none
      bootStaged := cause = 5 && old.boot.staged.isSome } }
  let d := resetRecord ((thermStands old (timeWarm old d)).set L.BOOT_RCAUSE_CAUSE cause)
  let d := monReset old (if s3 then d else timeHold d)
  let d := domainsBoot (if s3 then d else clkWarm old d)
  let d := if s3 then mdllStart d
    else (List.range 24).foldl (fun d n => if !neverOff n && d.votes n ≠ 0 && old.domState n = 2 then setDom n 2 d else d) d
  d.each 72 rxTakeoverEnd

/-! ## OTP (R506–R510) -/

/-- A word of the unit-maker array. -/
def Device.otpWord (d : Device) (i : Nat) : Nat := tabGet d.boot.otp 0 i
/-- A word of generation `g` at a byte offset. -/
def Device.genWord (d : Device) (g off : Nat) : Nat := d.otpWord (g * 512 + off / 4)
/-- The bytes of generation `g` from 0, `4 n` of them. -/
def Device.genBytes (d : Device) (g n : Nat) : List Byte :=
  (List.range n).foldr (fun k l => bytesOf 4 (d.genWord g (4 * k)) ++ l) []
/-- A generation is written: some byte is not zero. -/
def Device.genWritten (d : Device) (g : Nat) : Bool := (List.range 512).any fun k => d.genWord g (4 * k) != 0
/-- A generation is valid (R509): its first word, and its check word over 0x000–0x7F7. -/
def Device.genValid (d : Device) (g : Nat) : Bool :=
  d.genWord g 0 == 0x50470100 + g && crc32 (d.genBytes g 510) == d.genWord g 0x7FC
/-- The highest valid generation: the one a load takes. -/
def Device.genTop (d : Device) : Option Nat := [3, 2, 1, 0].find? d.genValid
/-- The generation in use since the last load (R509, R522). -/
def Device.genInUse (d : Device) : Option Nat := if d.on L.BOOT_STAT_NOGEN then none else some (d.get L.BOOT_STAT_GEN)
/-- A slot is revoked in any generation. -/
def Device.slotRevoked (d : Device) (s : Nat) : Bool := (List.range 4).any fun g => bitsOf (d.genWord g 0x7F8) s 1 == 1
/-- The key hash of slot `s` of a generation, as a number; 0 is an empty slot. -/
def Device.keyOf (d : Device) (g? : Option Nat) (s : Nat) : Nat :=
  match g? with
  | none => 0
  | some g => (List.range 16).foldl (fun n k => n + d.genWord g (0x200 + 64 * s + 4 * k) * 2 ^ (32 * k)) 0
/-- The key hash of slot `s` of the generation in use. -/
def Device.keySlot (d : Device) (s : Nat) : Nat := d.keyOf d.genInUse s
/-- Four flags as bits. -/
def fourBits (f : Nat → Bool) : Nat := bit (f 0) + 2 * bit (f 1) + 4 * bit (f 2) + 8 * bit (f 3)

/-- Only the bits that the register's rows name are written. -/
def imageWrite (a v : Nat) (d : Device) : Device :=
  match regAt a with
  | none => d
  | some (r, _, _) =>
    let m := r.fields.foldl (fun n f => n + (2 ^ (f.hi + 1) - 2 ^ f.lo)) 0
    d.wr a (v &&& m)

/-- An event of BOOT (CLASS 6, REG 0, FABRIC). -/
def bootEvent (l : Loc) (items : List (Nat × Nat)) (d : Device) : Device := d.event l isleFABRIC 6 0 0 1 items

/-- The SMBus address of the boot options: 0x0C acts as 0x5A (R508). -/
def smbAddrOf (opt : Nat) : Nat := if bitsOf opt 0 7 = 0x0C then 0x5A else bitsOf opt 0 7

/-- Ember loads the settings (R509, R510). -/
def otpLoad (d : Device) : Device :=
  let valid := fourBits d.genValid
  let written := fourBits d.genWritten
  let d := ((d.set L.BOOT_GEN_VALID valid).set L.BOOT_GEN_WRITTEN written).set L.BOOT_KEY_REVOKED (fourBits d.slotRevoked)
  let d := d.set L.BOOT_KEY_PRESENT (fourBits fun s => d.keyOf d.genTop s != 0)
  let top := match d.genTop with
    | some g => g + 1
    | none => 0
  let fall := (List.range 4).any fun g => top ≤ g && bitsOf written g 1 == 1
  let d := if fall then bootEvent L.BOOT_EVENT_GEN_FALLBACK [] (d.set L.BOOT_STAT_GEN_FALLBACK 1) else d
  match d.genTop with
  | none =>
    let d := ((d.set L.BOOT_STAT_NOGEN 1).set L.BOOT_OPT_OPT 0x5A).set L.MBX_SMB_ADDR 0x5A
    let d := ((d.set L.FH_UNIT_UNIT 0).set L.FH_MAC_LO_ADDR_LO 0).set L.FH_MAC_HI_ADDR_HI 0
    dmpLoad { d with fixedVoltage := false, voltOffset := 0 }
  | some g =>
    let opt := d.genWord g 0x40
    let d := (((d.set L.BOOT_STAT_GEN g).set L.BOOT_OPT_OPT opt).set L.BOOT_TRIM_SEED (d.genWord g 0x50)).set L.MBX_SMB_ADDR
      (smbAddrOf opt)
    let unit := bitsOf (d.genWord g 0x10) 0 16
    let d := d.set L.FH_UNIT_UNIT (if unit = 0xFFFF then 0 else unit)
    let d := (d.set L.FH_MAC_LO_ADDR_LO (d.genWord g 0x14)).set L.FH_MAC_HI_ADDR_HI (bitsOf (d.genWord g 0x18) 0 16)
    let d := d.set L.CLK_CFG_REF_MODE (bitsOf opt 31 1)
    let d := [(A.DMP_CEIL0, 0x80), (A.DMP_CEIL1, 0x84), (A.DMP_CEIL2, 0x88), (A.DMP_CEIL_TMAP 0, 0x8C),
        (A.DMP_CEIL_TMAP 1, 0x90)].foldl (fun (d : Device) x => imageWrite x.1 (d.genWord g x.2) d) d
    let d := d.each 8 fun k d =>
      imageWrite (A.DMP_OBAND_HI k) (d.genWord g (0xA4 + 8 * k)) (imageWrite (A.DMP_OBAND_LO k) (d.genWord g (0xA0 + 8 * k)) d)
    dmpLoad { d with fixedVoltage := bitsOf opt 30 1 == 1, voltOffset := 5 * min 8 (bitsOf (d.genWord g 0x50) 0 4) }

/-! ## Containers (R513, R514) -/

/-- A little-endian word through a byte reader. -/
def readWord (rd : Nat → Byte) (a : Nat) : Nat :=
  (rd a).toNat + (rd (a + 1)).toNat * 2 ^ 8 + (rd (a + 2)).toNat * 2 ^ 16 + (rd (a + 3)).toNat * 2 ^ 24

/-- `n` bytes from `a`. -/
def readBytes (rd : Nat → Byte) (a n : Nat) : List Byte := (List.range n).map fun k => rd (a + k)

/-- A body padded to a multiple of 64. -/
def padded (n : Nat) : Nat := (n + 63) / 64 * 64

/-- The body a container of a KIND must have. -/
def bodyFits (kind n : Nat) : Bool :=
  match kind with
  | 1 => n ≤ 0x400000
  | 2 => n == 2040
  | _ => n == 16

/-- Check 1: the header of a container of the KIND expected. -/
def headerOk (rd : Nat → Byte) (kind : Nat) (d : Device) : Bool :=
  let body := readWord rd 0x10
  let len := readWord rd 4
  readWord rd 0 == 0x4F430100 + kind && bodyFits kind body && len == 0x800 + padded body + 3328 &&
    (kind != 1 || (len ≤ 0x400000 && bitsOf (d.get L.BOOT_OPT_OPT) 16 8 ≤ bitsOf (readWord rd 8) 24 8)) &&
    (readBytes rd 0x18 40).all (· == 0) && (readBytes rd 0x7E0 32).all (· == 0)

/-- The hash of a container's public key. -/
def keyHash (rd : Nat → Byte) : Nat := Config.shake256 (readBytes rd 0x40 1952)

/-- Checks 1 to 3 (R514): the DETAIL of the first that fails, else the slot, 4 for the Wortil key. -/
def authHeader (rd : Nat → Byte) (kind : Nat) (d : Device) : Except Nat Nat :=
  if !headerOk rd kind d then .error 4
  else if d.on L.BOOT_STAT_NOGEN then
    if kind = 3 then .error 4
    else if kind = 1 && keyHash rd = d.boot.wortilKey then .ok 4
    else .error 1
  else
    match (List.range 4).find? fun s => d.keySlot s != 0 && d.keySlot s == keyHash rd with
    | none => .error 1
    | some s => if bitsOf (d.rd A.BOOT_KEY) (L.BOOT_KEY_REVOKED.lo + s) 1 = 1 then .error 2 else .ok s

/-- Check 4: the signature over the digest of header and padded body. -/
def signatureOk (rd : Nat → Byte) : Bool :=
  let n := 0x800 + padded (readWord rd 0x10)
  Config.mldsaVerify (readBytes rd 0x40 1952) (Config.shake256 (readBytes rd 0 n)) (readBytes rd n 3309)

/-- The four checks in order. -/
def authenticate (rd : Nat → Byte) (kind : Nat) (d : Device) : Except Nat Nat :=
  match authHeader rd kind d with
  | .error e => .error e
  | .ok s => if signatureOk rd then .ok s else .error 3

/-! ## The ROM (R512, R515, R516) -/

/-- A byte of the flash. -/
def Device.flashByte (d : Device) (a : Nat) : Byte := tabGet d.boot.flash 0xFF a
/-- A byte of flash slot `s`. -/
def Device.slotByte (d : Device) (s a : Nat) : Byte := d.flashByte (0x100000 + s * 0x400000 + a)
/-- A byte of shared SRAM. -/
def sramByte (mem : List Host.Cell) (d : Device) (a : Nat) : Byte := d.peek mem (0x10000000 + a)

/-- A slot passed over: SLOT_FALLBACK and AUTH_FAIL with the slot and the DETAIL (R515). -/
def slotPassed (s detail : Nat) (d : Device) : Device :=
  bootEvent L.BOOT_EVENT_AUTH_FAIL [(s, 16), (detail, 16)]
    (bootEvent L.BOOT_EVENT_SLOT_FALLBACK [(s, 16), (detail, 16)] (d.set L.BOOT_STAT_SLOT_FALLBACK 1))

/-- Firmware starts (R516): TOP covers the body and 1 MiB, Bead 0's entry, source and key slot. -/
def firmwareStart (src : Nat) (st : Staged) (d : Device) : Device :=
  let d := d.set L.SYS_FW_PRIV_TOP ((st.bodyLen + 0x100000 + 4095) / 4096)
  let d := ((d.set (L.MBX_BENTRY_ENTRY 0) st.entry).set L.BOOT_STAT_SRC src).set L.BOOT_STAT_KEYSLOT st.slot
  let d := ((d.set L.BOOT_STAT_WKEY (bit st.wkey)).set L.BOOT_STAT_STAGE 1).set L.BOOT_CTL_FW 1
  { d with boot := { d.boot with version := st.version, cands := [], bootStaged := false } }

/-- A container's figures, with the slot that verified it. -/
def stagedOf (rd : Nat → Byte) (off slot : Nat) : Staged :=
  ⟨off, readWord rd 8, readWord rd 0x14, readWord rd 0x10, slot % 4, slot == 4⟩

/-- The body of a container copied to the base of shared SRAM. -/
def bodyLoad (rd : Nat → Byte) (d : Device) : Device := d.store 0x10000000 (readBytes rd 0x800 (readWord rd 0x10))

/-- The staged bundle starts from shared SRAM. -/
def stagedStart (mem : List Host.Cell) (d : Device) : Device :=
  match d.boot.staged with
  | none => d
  | some st => firmwareStart 2 st (bodyLoad (fun a => sramByte mem d (st.off + a)) d)

/-- A slot's header read by the ROM (R515). -/
def slotHeader (s : Nat) (d : Device) : Device :=
  if readWord (d.slotByte s) 0 = 0xFFFFFFFF then d
  else match authHeader (d.slotByte s) 1 d with
    | .error e => slotPassed s e d
    | .ok _ => { d with boot := { d.boot with cands := d.boot.cands ++ [s] } }

/-- The boot source of R508. -/
def Device.bootSrc (d : Device) : Nat := bitsOf (d.get L.BOOT_OPT_OPT) 27 2

/-- The ROM starts (R511, R515): FABRIC answers, both headers are read. -/
def romStart (mem : List Host.Cell) (d : Device) : Device :=
  if d.coldHeld || d.boot.fabricReady then d
  else
    let d := { d with boot := { d.boot with fabricReady := true, romRun := true, cands := [] } }
    if d.boot.bootStaged then stagedStart mem d
    else
      let d := if d.bootSrc = 2 || !d.boot.flashOk then d else slotHeader 1 (slotHeader 0 d)
      match d.boot.cands with
      | [] => d.set L.BOOT_STAT_SRC 3
      | [0, 1] =>
        if readWord (d.slotByte 0) 8 < readWord (d.slotByte 1) 8 then { d with boot := { d.boot with cands := [1, 0] } } else d
      | _ => d

/-- The body of the first candidate is loaded and its signature checked (R515). -/
def bundleLoaded (d : Device) : Device :=
  match d.boot.cands with
  | [] => d
  | s :: cs =>
    let rd := d.slotByte s
    let d := bodyLoad rd d
    if signatureOk rd then
      match authHeader rd 1 d with
      | .ok k => firmwareStart s (stagedOf rd 0 k) d
      | .error _ => d
    else
      let d := slotPassed s 3 { d with boot := { d.boot with cands := cs } }
      if cs.isEmpty then d.set L.BOOT_STAT_SRC 3 else d

/-! ## BOOT registers (R519, R521) -/

/-- BOOT_CTL written by master `m`: READY by Bead 0, FW by the ROM; another master's write of 1 is ignored with a record. -/
def bootCtl (m : Nat) (ready fw : Bool) (d : Device) : Device :=
  if m ≠ 0 then d.when (ready || fw) fun d => d.log isleFABRIC 1 6 m (common 18) [(0, 4), (0, 4), (A.BOOT_CTL, 24)]
  else
    let d := if fw && d.get L.BOOT_STAT_STAGE = 0 then (d.set L.BOOT_CTL_FW 1).set L.BOOT_STAT_STAGE 1 else d
    if ready then (d.set L.BOOT_CTL_READY 1).set L.BOOT_STAT_STAGE 2 else d

/-- A debug token is submitted (R521). -/
def debugGo (mem : List Host.Cell) (d : Device) : Device :=
  if bitsOf (d.get L.BOOT_OPT_OPT) 26 1 = 0 then d
  else
    let off := 64 * d.get L.BOOT_DBG_OFFSET
    let rd := fun a => sramByte mem d (off + a)
    let want := bytesOf 16 d.boot.dieId ++ bytesOf 4 (d.get L.BOOT_DBG_NONCE_NONCE)
    let ok := match authenticate rd 1 d with
      | .ok _ => readWord rd 0x10 == 20 && readBytes rd 0x800 20 == want
      | .error _ => false
    let (nonce, d) := d.draw
    let d := d.set L.BOOT_DBG_NONCE_NONCE nonce
    if ok then bootEvent L.BOOT_EVENT_DBG_UNLOCK [] (d.set L.BOOT_DBG_UNLOCK 1) else bootEvent L.BOOT_EVENT_AUTH_FAIL [] d

/-! ## PCIe (R505, R511, R519) -/

/-- PERST_N low: the endpoint alone is reset. -/
def perstAssert (d : Device) : Device :=
  { d with
    regs := d.regs.filter (fun x => x.1 < msixTable || msixTable + 1024 ≤ x.1), msixPend := []
    boot := { d.boot with perstLow := true, pcieUp := false, funcMask := false } }

/-- CLKREQ_N is driven low: from ROM start on (R86). -/
def Device.clkreqLow (d : Device) : Bool := d.boot.romRun

/-- Link training completes; the LTSSM leaves Detect at ROM start (R511, R519). -/
def pcieLink (d : Device) : Device :=
  if d.coldHeld || d.boot.perstLow || !d.boot.romRun then d else { d with boot := { d.boot with pcieUp := true } }

/-- The MSI-X function mask set or cleared; pending messages of vectors no longer masked are sent. -/
def funcMaskSet (v : Bool) (d : Device) : Device :=
  d.msixPend.foldr msixUnmask { d with boot := { d.boot with funcMask := v } }

/-- A configuration request completes normally while the link is up: 1 sets the function mask, 2 clears it; the content of
another read is the PCI Express specification's. -/
def pcieConfig (op : Nat) (d : Device) : Device :=
  if !d.boot.pcieUp then d
  else if op = 1 then funcMaskSet true d
  else if op = 2 then funcMaskSet false d
  else
    let (v, d) := d.draw
    { d with reply := some ⟨16, 0, v, false⟩ }

/-! ## Watchdogs (R406, R410, R411) -/

/-- The watchdog of a Bead runs and PERIOD ms have passed without a kick, 0 acting as 1 (R410). -/
def Device.wdogExpires (d : Device) (n : Nat) : Bool :=
  d.wdogRuns n && decide (max 1 (d.get (L.MBX_WDOG_PERIOD n)) * ticksPerMs ≤ tabGet d.wdogRan 0 n)

/-- The watchdog of Bead `n` expires at program counter `pc` (R406, R411). -/
def watchdog (n pc : Nat) (d : Device) : Device :=
  if !d.wdogExpires n then d
  else
    let again : Bool := match tabGet? d.wdogLast n with
      | some t => d.ticks - t ≤ 10000 * ticksPerMs
      | none => false
    let d := d.log isleBEAD 3 1 n (common 14) [(pc, 32)]
    if again then
      if n = 0 then warmReset 6 d
      else (d.set (L.MBX_BSTAT_STATE n) 2).log isleBEAD 6 1 n (common 15) [(pc, 32)]
    else
      (({ d with
        wdogLast := tabPut d.wdogLast n d.ticks
        wdogRan := tabPut d.wdogRan n 0 }).inc (L.MBX_BSTAT_RESTARTS n)).set (L.MBX_BSTAT_STATE n) 0

/-- MBX_WDOG[n] written (R410): EN arms, KICK restarts the period. -/
def wdogWrite (n old : Nat) (kick : Bool) (d : Device) : Device :=
  if kick || (bitsOf old 30 1 = 0 && d.on (L.MBX_WDOG_EN n)) then { d with wdogRan := tabPut d.wdogRan n 0 } else d

/-- JTAG halts a Bead. -/
def jtagHalt (n : Nat) (d : Device) : Device :=
  if d.get (L.MBX_BSTAT_STATE n) = 2 then d else d.set (L.MBX_BSTAT_STATE n) 3

/-- JTAG releases a Bead: its watchdog runs on. -/
def jtagResume (n : Nat) (d : Device) : Device :=
  if d.get (L.MBX_BSTAT_STATE n) = 3 then d.set (L.MBX_BSTAT_STATE n) 0 else d

/-! ## Sleep that ends in a reset (R501, R503) -/

/-- Entry step 6 ends; a wake held meanwhile starts, and S3 takes the link down.  FAULT_N and CLKREQ_N keep the levels that follow
ROM start through S3 and its wake reset (`romRun` stands): the spec does not give them while the ROM does not run (log 133). -/
def enterSleep (e : Nat) (d : Device) : Device :=
  if d.step' ≠ 6 then d
  else
    let d := enterDone e d
    let d := if d.asleep = 3 then { d with boot := { d.boot with pcieUp := false, fabricReady := false } } else d
    if d.sleep.held = 0 then d
    else
      let bits := d.sleep.held
      let d := { d with sleep := { d.sleep with held := 0 } }
      if d.asleep = 3 then warmReset 7 (wakeStart bits d) else wakeStart bits d

/-- A wake source acts (R500); the wake from S3 is a reset (R503). -/
def wakeSource (src pin edge : Nat) (d : Device) : Device :=
  let was := d.sleep.waking
  let d := wakeEvent src pin edge d
  if !was && d.sleep.waking && d.asleep = 3 then warmReset 7 d else d

/-- A step of the monitor of which THI, TLO or MAINS_LOST is raised wakes the device (R500): ABOVE or BELOW of an entry sets, or
VALID clears. -/
def monWakes (f : Device → Device) (d : Device) : Device :=
  let e := f d
  let rises := fun (i : Nat) (b : Nat) => bitsOf (d.get (L.MON_RES_W0_WORD i)) b 1 = 0 && bitsOf (e.get (L.MON_RES_W0_WORD i)) b 1 = 1
  e.when ((d.on L.MON_MAINS_STAT_VALID && !e.on L.MON_MAINS_STAT_VALID) || (List.range 64).any fun i => rises i 27 || rises i 28)
    (wakeSource 4 0 1)

/-- A frame delivered to a Bead wakes the device (R321, R500). -/
def portWakes (f : Device → Device) (d : Device) : Device :=
  let e := f d
  e.when (d.port.nd.length < e.port.nd.length || d.get L.TIME_PSTAT_PRX_LVL < e.get L.TIME_PSTAT_PRX_LVL) (wakeSource 3 0 1)

/-! ## Rails and temperature (R76–R79, R89) -/

/-- G1 comes within tolerance: the Ember detectors start and hold the cold reset until every rail is valid (R76, R77). -/
def g1Valid (d : Device) : Device := if d.boot.g1 then d else { d with boot := { d.boot with g1 := true, railHold := true } }

/-- A rail of G2–G5 falls (R79): cause RAIL, unless the detectors hold the reset for the rails already or have no supply. -/
def railLow (d : Device) : Device :=
  if d.boot.g1 && !d.boot.railHold then coldReset 2 { d with boot := { d.boot with railHold := true } } else d

/-- The cause of a cold reset as the Ember field latches it: while the Ember rail is lost it holds none, and the next start is a
power-on start (R79, R504). -/
def Device.latches (d : Device) (cause : Nat) : Nat := if d.boot.g1 then cause else 0

/-- VDD_EMBER or VDD_MON falls: Ember retention and its detectors are lost (R79). -/
def emberLoss (d : Device) : Device := coldReset 0 { d with boot := { d.boot with g1 := false, railHold := true } }

/-- Every rail, G1 among them, has been within tolerance for 1 ms (R76, R77, R79). -/
def railsUp (d : Device) : Device :=
  if d.boot.railHold then coldRelease { d with boot := { d.boot with g1 := true, railHold := false } } else d

/-- Every sensor is below 100 °C: the reset is no longer held, and the trip re-arms (R89). -/
def thermRelease (d : Device) : Device :=
  if d.boot.thermHold then coldRelease { d.set L.DMP_STAT_THERM 0 with boot := { d.boot with thermHold := false } } else d

/-! ## Meanings -/

/-- RAIL_G1_VALID (R76). -/
def execRailG1Valid (s : State) : Host.Outcome State Fault Refusal := actDev .railG1Valid s g1Valid
/-- PORST_N_ASSERT (R78, R505). -/
def execPorstNAssert (s : State) : Host.Outcome State Fault Refusal :=
  actDev .porstNAssert s fun d =>
    if d.boot.porstLow then d else coldReset (d.latches 1) { d with boot := { d.boot with porstLow := true } }
/-- PORST_N_RELEASE (R511). -/
def execPorstNRelease (s : State) : Host.Outcome State Fault Refusal :=
  actDev .porstNRelease s fun d =>
    if d.boot.porstLow then coldRelease { d with boot := { d.boot with porstLow := false } } else d
/-- RAIL_UNDERVOLTAGE (R79). -/
def execRailUndervoltage (s : State) : Host.Outcome State Fault Refusal :=
  actDev .railUndervoltage s railLow
/-- EMBER_RAIL_LOSS (R79). -/
def execEmberRailLoss (s : State) : Host.Outcome State Fault Refusal :=
  actDev .emberRailLoss s emberLoss
/-- RAIL_RESET_RELEASE (R79). -/
def execRailResetRelease (s : State) : Host.Outcome State Fault Refusal :=
  actDev .railResetRelease s railsUp
/-- THERMAL_RESET (R89). -/
def execThermalReset (s : State) : Host.Outcome State Fault Refusal :=
  actDev .thermalReset s fun d => coldReset (d.latches 3) { d with boot := { d.boot with thermHold := true } }
/-- THERMAL_RESET_RELEASE (R89). -/
def execThermalResetRelease (s : State) : Host.Outcome State Fault Refusal :=
  actDev .thermalResetRelease s thermRelease
/-- WARM_RESET (R504, R505). -/
def execWarmReset (cause : Nat) (s : State) : Host.Outcome State Fault Refusal := actDev (.warmReset cause) s (warmReset cause)
/-- OTP_SETTINGS_LOADED (R509, R510). -/
def execOtpSettingsLoaded (s : State) : Host.Outcome State Fault Refusal := actDev .otpSettingsLoaded s otpLoad
/-- BOOT_ROM_START (R511, R515). -/
def execBootRomStart (s : State) : Host.Outcome State Fault Refusal := act .bootRomStart s romStart
/-- BUNDLE_LOAD_DONE (R515). -/
def execBundleLoadDone (s : State) : Host.Outcome State Fault Refusal := actDev .bundleLoadDone s bundleLoaded
/-- PERST_N_ASSERT (R505). -/
def execPerstNAssert (s : State) : Host.Outcome State Fault Refusal := actDev .perstNAssert s perstAssert
/-- PERST_N_RELEASE (R505). -/
def execPerstNRelease (s : State) : Host.Outcome State Fault Refusal :=
  actDev .perstNRelease s fun d => { d with boot := { d.boot with perstLow := false } }
/-- PCIE_LINK_UP (R86, R511). -/
def execPcieLinkUp (s : State) : Host.Outcome State Fault Refusal := actDev .pcieLinkUp s pcieLink
/-- PCIE_CONFIGURATION_REQUEST (R519). -/
def execPcieConfigurationRequest (op : Nat) (s : State) : Host.Outcome State Fault Refusal :=
  actDev (.pcieConfigurationRequest op) s (pcieConfig op)
/-- JTAG_HALT (R410). -/
def execJtagHalt (n : Nat) (s : State) : Host.Outcome State Fault Refusal := actDev (.jtagHalt n) s (jtagHalt n)
/-- JTAG_RESUME (R410). -/
def execJtagResume (n : Nat) (s : State) : Host.Outcome State Fault Refusal := actDev (.jtagResume n) s (jtagResume n)
/-- WAKE_EVENT (R500). -/
def execWakeEvent (src pin edge : Nat) (s : State) : Host.Outcome State Fault Refusal :=
  actDev (.wakeEvent src pin edge) s (wakeSource src pin edge)
/-- MON_RESULT_STORED (R479, R480, R500). -/
def execMonResultStored (k : Nat) (s : State) : Host.Outcome State Fault Refusal :=
  actDev (.monResultStored k) s (monWakes (monStore k))
/-- MAINS_EDGE (R472, R500). -/
def execMainsEdge (cycles : Nat) (s : State) : Host.Outcome State Fault Refusal :=
  actDev (.mainsEdge cycles) s (monWakes (mainsEdge cycles))
/-- MAINS_TIMEOUT (R473, R500). -/
def execMainsTimeout (s : State) : Host.Outcome State Fault Refusal := actDev .mainsTimeout s (monWakes mainsTimeout)
/-- FRAME_RECEIVED (R320, R500). -/
def execFrameReceived (q : Nat) (f : RxFrame) (s : State) : Host.Outcome State Fault Refusal :=
  actDev (.frameReceived q f) s (portWakes (frameIn q f))
/-- SLEEP_ENTER_DONE (R498, R499, R501): S3 loses the memories. -/
def execSleepEnterDone (e : Nat) (s : State) : Host.Outcome State Fault Refusal :=
  let lost := s.dev.step' == 6 && s.dev.sleep.target == 3
  actDev (.sleepEnterDone e) (if lost then { s with mem := [] } else s) (enterSleep e)

end Sys2Proof.Machine
end

