-- ==== Sys2Proof/Machine/Effects.lean ====
section
/-! DEFINITION. What a register write does beside its fields (the GO, commit and enable rules of every chapter), and what a
register that is not a plain word reads as. -/
namespace Sys2Proof.Machine

/-- A register write as its effect sees it: master, instance, inner word, address, the words before (own, and the lower word of
a wide pair), the value written, and the values of the lower words of a wide commit. -/
structure Wr where
  m : Nat
  i : Nat
  j : Nat
  a : Nat
  old : Nat
  oldLo : Nat
  v : Nat
  lows : List Nat

/-- A field of the value written. -/
def Wr.get (w : Wr) (l : Loc) : Nat := bitsOf w.v l.lo l.w
/-- A one-bit field of the value written is 1. -/
def Wr.on (w : Wr) (l : Loc) : Bool := w.get l == 1
/-- A one-bit field rises, or falls, with the write. -/
def Wr.rises (w : Wr) (l : Loc) (d : Device) : Bool := bitsOf w.old l.lo l.w == 0 && d.get l == 1
/-- A one-bit field falls. -/
def Wr.falls (w : Wr) (l : Loc) (d : Device) : Bool := bitsOf w.old l.lo l.w == 1 && d.get l == 0

/-- Writing 1 to ERR clears the refusal cause of the instance (R530). -/
def errcClear (w : Wr) (ev errc : Loc) (d : Device) : Device := if w.on ev then d.set errc 0 else d

/-- XF_REQ written (R52–R58): its fields act only with GO. -/
def xfReqEffect (o : XfObj) (w : Wr) (d : Device) : Device :=
  if bitsOf w.v 31 1 = 1 then xfWrite o (bitsOf w.v 20 4) (bitsOf w.v 24 4) (bitsOf w.v 30 1) (bitsOf w.v 0 16) d else d

/-- What follows any change of a transmit frequency or enable: bursts and the Damper look again (R268, R302, R307). -/
def txTouched (d : Device) : Device := dmpSettleAll (burstRecheckAll d)

/-- MBX, SYS, TALLY, BOOT and PWR registers.  Bead 0 is the only writer of MBX_BENTRY: another Bead's write has no effect (R409). -/
def coreEffect (n : RegName) (w : Wr) (mem : List Host.Cell) (d : Device) : Device :=
  match n with
  | .SYS_HOSTVIOL => if w.on L.SYS_HOSTVIOL_CLR then d.set L.SYS_HOSTVIOL_COUNT 0 else d
  | .MBX_BIND => mbxBind w.m w.i w.old d
  | .MBX_BENTRY => if w.m = 0 then d else d.wr w.a w.old
  | .MBX_WDOG => wdogWrite w.i w.old (w.on (L.MBX_WDOG_KICK w.i)) d
  | .MBX_RING_W1 =>
    let d := mbxRing w.m w.i (w.lows.headD 0) (bitsOf w.v 0 8) d
    if (tabGet d.ringRes (0, 0) w.m).1 = 0 && d.receiver w.i < 16 then mbxWake d else d
  | .TLY_CFG => tallyCfg w.old d
  | .TLY_RING => ringShow d
  | .TLY_RD => ringShow d
  | .TLY_FAULT => if w.on L.TLY_FAULT_FN_LATCH then latchClear d else d
  | .TLY_KEEP_WR => if w.on L.TLY_KEEP_WR_KCLR then keptClear d else d
  | .TLY_SWREC_W1 => swRec w.m d
  | .BOOT_CTL => bootCtl w.m (w.on L.BOOT_CTL_READY) (w.on L.BOOT_CTL_FW) (d.wr w.a w.old)
  | .BOOT_DBG => if w.on L.BOOT_DBG_GO then debugGo mem d else d
  | .PWR_LCTL => if w.on L.PWR_LCTL_GO then levelGo (w.get L.PWR_LCTL_LEVEL) d else d
  | .PWR_SCTL => if w.on L.PWR_SCTL_GO then sleepGo (w.get L.PWR_SCTL_STATE) mem d else d
  | .PWR_VSET => voteSet w.m w.i w.v d
  | .PWR_VCLR => voteClear w.m w.i w.v d
  | _ => d

/-- TIME, CLK, DMA, MON, FH and GST registers. -/
def engineEffect (n : RegName) (w : Wr) (mem : List Host.Cell) (d : Device) : Device :=
  match n with
  | .TIME_SET_W2 => setCommit d
  | .TIME_ADJ_W1 => adjCommit d
  | .TIME_INC_W1 => incCommit d
  | .TIME_FRAME => foffCommit d
  | .TIME_CTL => timeCtl (w.get L.TIME_CTL_VGO) (w.get L.TIME_CTL_KICK) (w.get L.TIME_CTL_STATE) d
  | .EMB_CAL => if w.on L.EMB_CAL_GO then embGo d else d
  | .TP_CFG => pulseCfg w.i d
  | .TP_START_W2 => pulseArm w.i d
  | .TIME_PTX => if w.on L.TIME_PTX_GO then ptxGo w.m mem d else d
  | .TIME_PRX_RD => if w.on L.TIME_PRX_RD_POP then ptpPop d else d
  | .CLK_CFG => clkCfgWrite w.old d
  | .CLK_COUNT => if w.on L.CLK_COUNT_CLR then clkCountClr d else d
  | .CLK_AUX_OFFSET => auxOffsetWrite d
  | .CLK_AUXDIV => auxdivWrite w.i w.old d
  | .CLK_OUT => clkOutSettle w.i d
  | .DMA_QCFG => dmaQcfg w.i w.old d
  | .DMA_QLVL => dmaRequest w.i d
  | .DMA_QADJ => dmaLevel w.i (signedOf 21 w.v) d
  | .DMA_CCFG => dmaCcfg w.i w.old d
  | .DMA_CCTL => dmaCctl w.i w.v mem d
  | .DMA_CDESC => dmaCdesc w.i w.old d
  | .MON_CTL => monCtl w.old d
  | .MON_MAINS_CFG => mainsCfg d
  | .MON_ENTRY => monEntry w.i w.j w.old d
  | .FH_CFG => fhCfg w.old d
  | .GST_MTX => if w.on L.GST_MTX_GO then mtxGo w.m mem d else d
  | _ => d

/-- Path, Damper, COEX and calibration registers. -/
def pathEffect (n : RegName) (w : Wr) (d : Device) : Device :=
  match n with
  | .PATH_CFG =>
    let d :=
      if w.rises (L.PATH_CFG_EN w.i) d then pathEnable w.i d
      else if w.falls (L.PATH_CFG_EN w.i) d then pathDisable w.i d
      else d
    burstRecheckAll (coexSettle (lnaRefresh w.i d))
  | .PATH_CTL =>
    let d := if w.on (L.PATH_CTL_FE_GO w.i) then feGo w.i d else d
    if w.on (L.PATH_CTL_OUT_GO w.i) then pathOutGo w.i d
    else if w.on (L.PATH_CTL_RET_GO w.i) then pathRetGo w.i d
    else d
  | .PATH_SRCH => if w.on (L.PATH_SRCH_GO w.i) then searchGo w.i d else d
  | .AIR_CFG => if w.on L.AIR_CFG_GO then airGo d else d
  | .TUN_PUSH =>
    if w.on (L.TUN_PUSH_GO w.i) then
      tunPush w.i (d.get (L.TUN_DATA_WORD w.i)) (w.get (L.TUN_PUSH_WHEN w.i)) (w.get (L.TUN_PUSH_M w.i)) d
    else d
  | .COEX_CFG => dmpSettleAll (coexCfgWrite w.i w.old d)
  | .DMP_LIM0 => dmpLimits d
  | .DMP_LIM1 => dmpLimits d
  | .DMP_LIM2 => dmpLimTrips (bitsOf w.old L.DMP_LIM2_TRIP_EN.lo L.DMP_LIM2_TRIP_EN.w) d
  | .DMP_LIM_TMAP => dmpLimMaps w.i w.old d
  | .DMP_FBAND_LO => dmpLimits d
  | .DMP_FBAND_HI => dmpLimits d
  | .DMP_PGATE => dmpLimits d
  | .DMP_REARM =>
    if w.on L.DMP_REARM_GO then
      if w.on L.DMP_REARM_ALL then d.each 64 dmpRearm else dmpRearm (w.get L.DMP_REARM_PATH) d
    else d
  | .CAL_RXA_XF_REQ => xfReqEffect (.rxa w.i) w d
  | .CAL_TXA_XF_REQ => xfReqEffect (.txa w.i) w d
  | .CAL_LANE_XF_REQ => xfReqEffect (.lane w.i) w d
  | .CAL_GRID_XF_REQ => xfReqEffect (.grid w.i) w d
  | .CAL_RUN =>
    let d := if w.on L.CAL_RUN_GO then
        calGo (w.get L.CAL_RUN_APPLY) (w.get L.CAL_RUN_FADE) (w.get L.CAL_RUN_KIND) (w.get L.CAL_RUN_PATH) d
      else d
    if w.on L.CAL_RUN_ABORT && d.cal.running.isSome then calFail 10 d else d
  | .CAL_APPLY =>
    if w.on L.CAL_APPLY_GO then calApply (w.get L.CAL_APPLY_FADE) (w.get L.CAL_APPLY_PATH) (w.get L.CAL_APPLY_AT) d else d
  | _ => d

/-- Converter, channel, GRID and predistortion registers. -/
def signalEffect (n : RegName) (w : Wr) (mem : List Host.Cell) (d : Device) : Device :=
  match n with
  | .RXADC_CFG => rxCfgWrite w.i w.old d
  | .RXADC_DSA => rxDsaWrite w.i w.old d
  | .RXADC_OBS_SEL => obsSelWrite w.i (bitsOf w.old 0 5) (w.get (L.RXADC_OBS_SEL_SEL w.i)) d
  | .TXDAC_CFG =>
    let up := w.rises (L.TXDAC_CFG_EN w.i) d
    let d := txCfgWrite w.i w.old d
    txTouched (if up then dmpAllow w.i d else d)
  | .TXDAC_NCO_HI => txTouched (ncoCommit w.i w.oldLo w.old d)
  | .TXDAC_MUTE => txTouched (txMuteUpdate w.i d)
  | .CH_RXCTR => centreWrite w.i (w.get (L.CH_RXCTR_CTR w.i)) d
  | .CH_CHG =>
    if w.on (L.CH_CHG_GO w.i) then chanGo w.i (w.get (L.CH_CHG_AT_MODE w.i)) (w.get (L.CH_CHG_AT w.i)) d else d
  | .CH_EVENT => errcClear w (L.CH_EVENT_ERR w.i) (L.CH_STAT_ERRC w.i) d
  | .WCH_XF_REQ => xfReqEffect (.wch w.i) w d
  | .OF_CHG => if w.on (L.OF_CHG_GO w.i) then ofGo w.i (w.get (L.OF_CHG_AT_MODE w.i)) (w.get (L.OF_CHG_AT w.i)) d else d
  | .OF_EVENT => errcClear w (L.OF_EVENT_ERR w.i) (L.OF_STAT_ERRC w.i) d
  | .BM_CHG => if w.on (L.BM_CHG_GO w.i) then bmGo w.i (w.get (L.BM_CHG_AT_MODE w.i)) (w.get (L.BM_CHG_AT w.i)) d else d
  | .BM_CEVENT => errcClear w (L.BM_CEVENT_ERR w.i) (L.BM_CSTAT_ERRC w.i) d
  | .BM_XF_REQ => xfReqEffect (.beam w.i) w d
  | .BM_ERAMP =>
    if w.on (L.BM_ERAMP_GO w.i w.j) then
      rampsMovedAll (rampStart w.i w.j (d.get (L.BM_ERAMP_TARGET w.i w.j)) (d.get (L.BM_ERAMP_LEN w.i w.j)) d)
    else d
  | .DPD_XF_REQ => xfReqEffect (.dpd w.i) w d
  | .DPD_TRIAL => trialWrite w.i (w.get (L.DPD_TRIAL_GO w.i)) (w.get (L.DPD_TRIAL_ABORT w.i)) d
  | .DPD_PEVENT => errcClear w (L.DPD_PEVENT_ERR w.i) (L.DPD_PSTAT_ERRC w.i) d
  | .DPD_CAPREQ =>
    if w.on (L.DPD_CAPREQ_GO w.i) then capRequest w.i (w.get (L.DPD_CAPREQ_INPUT w.i)) (w.get (L.DPD_CAPREQ_M w.i)) d else d
  | .DPD_CAPSTAT =>
    let d := d.wr w.a w.old
    let d := if w.on (L.DPD_CAPSTAT_FULL0 w.i) then slotRelease (2 * w.i) mem d else d
    if w.on (L.DPD_CAPSTAT_FULL1 w.i) then slotRelease (2 * w.i + 1) mem d else d
  | .DPD_SJOB => if w.on L.DPD_SJOB_GO then solverGo w.m (w.get L.DPD_SJOB_DESC) d else d
  | _ => d

/-- Everything a write does beside its fields: each register belongs to one of the four groups. -/
def regEffect (n : RegName) (w : Wr) (mem : List Host.Cell) (d : Device) : Device :=
  signalEffect n w mem (pathEffect n w (engineEffect n w mem (coreEffect n w mem d)))

/-! ## Refusals before the fields (R56, R286, R292) -/

/-- The object and bank a bank word belongs to (R176, R238, R282). -/
def bankOf (n : RegName) (i j : Nat) : Option (XfObj × Nat) :=
  match n with
  | .WCH_COEF => some (.wch i, j / 384)
  | .DPD_BANK => some (.dpd i, j / 65)
  | .CAL_RXA_SKT => some (.rxa i, j / 9)
  | .CAL_RXA_BUFG => some (.rxa i, j)
  | .CAL_TXA_DLY => some (.txa i, j)
  | .CAL_TXA_IFS => some (.txa i, j)
  | .CAL_LANE_RXG => some (.lane i, j)
  | .CAL_LANE_TXG => some (.lane i, j)
  | .CAL_GRID_GE => some (.grid i, j / 64)
  | .CAL_GRID_SLOPE => some (.grid i, j / 64)
  | _ => none

/-- A register the runs hold while one is in progress (R286). -/
def isPilot (n : RegName) : Bool := n == .CAL_PILOT || n == .CAL_PILOT_LO || n == .CAL_PILOT_HI

/-- A write that its target turns away whole: the device with its record, and whether R56 is the reason. -/
def targetRefuses (n : RegName) (i j a : Nat) (d : Device) : Option (Device × Bool) :=
  if isPilot n && d.get L.CAL_RSTAT_STATE ≠ 0 then
    some (d.calEvent L.CAL_EVENT_PILOT_BUSY (match d.cal.running with | some r => r.path | none => 0) 1 [], false)
  else
    match bankOf n i j with
    | none => none
    | some (o, bank) =>
      if d.xfBusy o bank then some (xfBusyWrite o a d, true)
      else if d.calHolds o bank then
        some (d.calEvent L.CAL_EVENT_HELD (match d.cal.running with | some r => r.path | none => 0) 1 [], false)
      else none

/-! ## Live words -/

/-- A field of a word replaced. -/
def withField (l : Loc) (v n : Nat) : Nat := putBits n l.lo l.w v

/-- The kept record `k` as words; an entry with an uncorrectable error is stored so (R402). -/
def Device.keptWord (d : Device) (k j : Nat) : Nat :=
  match tabGet? d.tally.kept k with
  | some r => r.words.getD j 0
  | none => 0

/-- What master `m` reads in a register: its stored word, with the parts that follow other state. -/
def Device.live (d : Device) (m : Nat) (n : RegName) (i j a : Nat) : Nat :=
  let w := d.rd a
  match n with
  | .SYS_WHOAMI => withField L.SYS_WHOAMI_MASTER m w
  | .MBX_RRES =>
    let (res, ch) := tabGet d.ringRes (0, 0) m
    withField L.MBX_RRES_RES res (withField L.MBX_RRES_CH ch w)
  | .MBX_RRES_CODE => withField L.MBX_RRES_CODE_RES (tabGet d.ringRes (0, 0) m).1 w
  | .MBX_HOSTPEND_LO => d.hostPend 0
  | .MBX_HOSTPEND_HI => d.hostPend 32
  | .MBX_POP_W0 => (d.popWords i).1
  | .MBX_POP_W1 => (d.popWords i).2
  | .TLY_FAULT => withField L.TLY_FAULT_PIN (bit d.faultLow) (withField L.TLY_FAULT_THERM (bit (d.on L.DMP_STAT_THERM)) w)
  | .TLY_KEEP => d.keptWord i j
  | .TIME_NOW_W0 => d.time.frac
  | .TIME_NOW_W1 => d.time.ns
  | .TIME_NOW_W2 => d.time.sec % 2 ^ 32
  | .TIME_NOW_W3 => d.time.sec / 2 ^ 32
  | .TIME_STAT => withField L.TIME_STAT_FN d.frameNo (withField L.TIME_STAT_HALF d.halfNo w)
  | .TCAP_ENTRY_W0 => (d.capWords i).getD 0 0
  | .TCAP_ENTRY_W1 => (d.capWords i).getD 1 0
  | .TCAP_ENTRY_W2 => (d.capWords i).getD 2 0
  | .TIME_ETS_W0 => d.etsWords.getD 0 0
  | .TIME_ETS_W1 => d.etsWords.getD 1 0
  | .TIME_ETS_W2 => d.etsWords.getD 2 0
  | .TIME_ETS_W3 => d.etsWords.getD 3 0
  | .PWR_DSTAT => withField (L.PWR_DSTAT_STATE i) (d.domState i) w
  | .BOOT_OTP_WIN => d.otpWord i
  | .DMA_CSTAT => withField (L.DMA_CSTAT_REQ i) (d.get (L.DMA_QLVL_REQ (d.get (L.DMA_CCFG_QUEUE i)))) w
  | .DMP_PSTAT =>
    withField (L.DMP_PSTAT_STRIKES i) (min 15 (d.strikesNow i).length) (withField (L.DMP_PSTAT_COOL_LEFT i) (d.coolLeft i) w)
  | .GST_BUFSTAT =>
    withField L.GST_BUFSTAT_DESC d.descUsed (withField L.GST_BUFSTAT_KIB ((d.bytesUsed + 1023) / 1024) w)
  | _ => w

/-- What a read by master `m` removes or lowers beside RC fields: heads of FIFOs, the Tally request (R373, R377, R400, R417). -/
def readEffect (m : Nat) (n : RegName) (i : Nat) (d : Device) : Device :=
  match n with
  | .MBX_POP_W0 => mbxPop m i d
  | .TCAP_ENTRY_W0 => if m < 16 then tcapRemove i d else d
  | .TIME_ETS_W0 => if m < 16 then etsRemove d else d
  | .TLY_STAT => if m < 16 then statRead d else d
  | _ => d

end Sys2Proof.Machine
end

