-- ==== Sys2Proof/Machine/Bus.lean ====
section
/-! DEFINITION. The fabric: one access of a master to a register or a memory window, its checks, shadows, waits and answers
(R19–R26, R47, R56, R59–R64, R210, R211, R401, R402, R491–R493). -/
namespace Sys2Proof.Machine

/-! ## Who may write -/

/-- The island of an address (R64), for the stamp of a record. -/
def isleOf (a : Nat) : Nat :=
  if a < 0x30000 then isleFABRIC
  else if a < 0x40000 then islePORT
  else if a < 0x50000 then isleEMBER
  else if a < 0x80000 then isleFABRIC
  else if a < 0x90000 then isleMONITOR
  else if a < 0xB0000 then isleLANE
  else if a < 0xD0000 then islePORT
  else if a < 0x140000 then isleLANE
  else if a < 0x180000 then isleRXCONV
  else if a < 0x200000 then isleTXCONV
  else if a < 0x300000 then isleLANE
  else if a < 0x500000 then isleGRID
  else if a < 0x10000000 then isleLANE
  else if a < 0x12000000 then isleFABRIC
  else if a < 0x16000000 then isleGRID
  else isleLANE

/-- The master's write counts as a host write (R62): the host, and JTAG while the debug unlock is not in force. -/
def Device.hostLike (d : Device) (m : Nat) : Bool := m == 16 || m == 17 || (m == 21 && !d.on L.BOOT_DBG_UNLOCK)

/-- The instance is firmware-only (R21). -/
def Mark.firmware (k : Mark) (i : Nat) : Bool :=
  match k with
  | .fw => true
  | .fwBelow n => i < n
  | _ => false

/-- A refused host write (R62, R63): counted, its address kept, and recorded. -/
def hostViolation (m a : Nat) (d : Device) : Device :=
  (((d.inc L.SYS_HOSTVIOL_COUNT).set L.SYS_HOSTVIOL_LAST_MASTER m).set L.SYS_HOSTVIOL_ADDR_ADDR a).log (isleOf a) 1 0 m (common 3)
    [(a, 32)]

/-- An access of the wrong width or alignment (R19). -/
def widthError (m a : Nat) (d : Device) : Device := d.log isleFABRIC 1 0 m (common 5) [(a, 32)]
/-- An access that no window or block covers (R47). -/
def unmapped (m a : Nat) (d : Device) : Device := d.log isleFABRIC 1 0 m (common 6) [(a, 32)]

/-! ## Fields (R22, R25) -/

/-- The lock bit of the block an address lies in is set. -/
def Device.lockedAt (d : Device) (a : Nat) : Bool :=
  if a < 0x10000 then d.on L.SYS_LOCK_LOCK
  else if a < 0x20000 then d.on L.MBX_LOCK_LOCK
  else if a < 0x30000 then d.on L.TLY_LOCK_LOCK
  else if a < 0x50000 then false
  else if a < 0x60000 then d.on L.CLK_LOCK_LOCK
  else if a < 0x70000 then false
  else if a < 0x80000 then d.on L.DMA_LOCK_LOCK
  else if a < 0x90000 then false
  else if a < 0xA0000 then d.on L.DMP_LOCK_LOCK
  else if a < 0xB0000 then false
  else if a < 0xC0000 then d.on L.FH_LOCK_LOCK
  else if a < 0xD0000 then d.on L.GST_LOCK_LOCK
  else false

/-- CLASS and SOURCE of a record about a register of a block that locks (R387, R388). -/
def lockSource (n : RegName) (i m a : Nat) : Nat × Nat :=
  if a < 0x10000 then (0, m)
  else if a < 0x20000 then (1, match n with | .MBX_BENTRY => i | _ => m % 16)
  else if a < 0x30000 then (2, isleFABRIC)
  else if a < 0x60000 then (5, 0)
  else if a < 0x80000 then (7, 0)
  else if a < 0xA0000 then (9, match n with | .DMP_PGATE => i | _ => 0x7F)
  else if a < 0xC0000 then (12, 0)
  else (13, 0)

/-- One field under its access code: the new word, and whether a locked field was asked to change. -/
def FieldRow.write (f : FieldRow) (locked : Bool) (old v : Nat) (acc : Nat × Bool) : Nat × Bool :=
  let w := f.hi + 1 - f.lo
  let x := bitsOf v f.lo w
  let y := bitsOf old f.lo w
  match f.acc with
  | .rw => (putBits acc.1 f.lo w x, acc.2)
  | .rws => (putBits acc.1 f.lo w x, acc.2)
  | .w1c => (putBits acc.1 f.lo w (y &&& (2 ^ w - 1 - x)), acc.2)
  | .w1s => (putBits acc.1 f.lo w (y ||| x), acc.2)
  | .rwl => if locked then (acc.1, acc.2 || x != y) else (putBits acc.1 f.lo w x, acc.2)
  | .ro => acc
  | .wo => acc
  | .rc => acc

/-- Every field of a word in turn. -/
def fieldsWrite (fs : List FieldRow) (locked : Bool) (old v : Nat) : Nat × Bool :=
  fs.foldl (fun acc f => f.write locked old v acc) (old, false)

/-- The fields of instance `i` of a register: SRC of WCH0–WCH7 reads 64 + w and is RO (R175). -/
def RegRow.fieldsAt (r : RegRow) (i : Nat) : List FieldRow :=
  if r.name = .WCH_CFG && i < 8 then r.fields.filter fun f => f.lo != 23 else r.fields

/-- One register word written field by field; a refused change of a locked field is recorded (R22). -/
def putWord (r : RegRow) (i m a v : Nat) (d : Device) : Device :=
  let (new, refused) := fieldsWrite (r.fieldsAt i) (d.lockedAt a) (d.rd a) v
  let d := d.wr a new
  if refused then
    let (cls, src) := lockSource r.name i m a
    d.log (isleOf a) 1 cls src (common 4) [(a, 32)]
  else d

/-! ## Wide values (R59–R61) -/

/-- The write shadow of a master. -/
def Device.shadow (d : Device) (m : Nat) : List (Nat × Word) := tabGet d.writeShadow [] m

/-- The highest word of a wide value commits it: the held words, then this one, then its effect. -/
def wideCommit (r : RegRow) (i j m a v : Nat) (held : Nat → Option Nat) (mem : List Host.Cell) (d : Device) : Device :=
  let base := a - 4 * r.wpos
  let old := d.rd a
  let oldLo := d.rd (a - 4)
  let lows := (List.range r.wpos).map fun k => (held k).getD (d.rd (base + 4 * k))
  let d := (List.range r.wpos).foldl (fun (d : Device) k =>
    match held k, regAt (base + 4 * k) with
    | some x, some (rk, ik, _) => putWord rk ik m (base + 4 * k) x d
    | _, _ => d) d
  regEffect r.name ⟨m, i, j, a, old, oldLo, v, lows⟩ mem (putWord r i m a v d)

/-- A plain word and its effect. -/
def plainWrite (r : RegRow) (i j m a v : Nat) (mem : List Host.Cell) (d : Device) : Device :=
  let old := d.rd a
  regEffect r.name ⟨m, i, j, a, old, 0, v, []⟩ mem (putWord r i m a v d)

/-! ## The MSI-X table (R420) -/

/-- A word of the MSI-X table or its pending bits: what a read returns. -/
def Device.msixWord (d : Device) (a : Nat) : Nat :=
  if msixTable ≤ a && a < msixTable + 1024 then
    match tabGet? d.regs a with
    | some w => w.toNat
    | none => if a % 16 = 12 then 1 else 0
  else if 0x19000 ≤ a && a < 0x19008 then
    (List.range 32).foldl (fun n k => n + bit (d.msixPend.contains (8 * (a - 0x19000) + k)) * 2 ^ k) 0
  else 0

/-- A word of the MSI-X table written; a vector no longer masked sends its pending message. -/
def msixWrite (a v : Nat) (d : Device) : Device :=
  if msixTable ≤ a && a < msixTable + 1024 then
    let v := if a % 16 = 12 then v % 2 else if a % 16 = 0 then v / 4 * 4 else v
    msixUnmask ((a - msixTable) / 16) (d.wr a v)
  else d

/-! ## Register words -/

/-- A host write to a firmware-only register (R62); one to the binding table raises BIND_ERR too (R412). -/
def hostRefused (r : RegRow) (m a : Nat) (d : Device) : Device :=
  (hostViolation m a d).when (r.name == .MBX_BIND) (mbxEvent L.MBX_EVENT_BIND_ERR m [])

/-- How a 32-bit write of a register word ends: 0 it takes effect, 3 it completes without effect (R56, R62, R63).  A host's write to a
busy bank in a firmware-only register is a violation of R62 alone and sets no BANK_BUSY: the spec does not say which refusal
comes first (log 142). -/
def regStore (m a v : Nat) (mem : List Host.Cell) (d : Device) : Nat × Device :=
  match regAt a with
  | none => (0, msixWrite a v d)
  | some (r, i, j) =>
    if r.mark.firmware i && d.hostLike m then
      (3, hostRefused r m a d)
    else
      match targetRefuses r.name i j a d with
      | some (d, busy) => (if busy then 3 else 0, d)
      | none =>
        if r.wlen < 2 then (0, plainWrite r i j m a v mem d)
        else if r.wpos + 1 < r.wlen then (0, { d with writeShadow := tabPut d.writeShadow m (tabPut (d.shadow m) a (word v)) })
        else
          let base := a - 4 * r.wpos
          let sh := d.shadow m
          let held := fun k => (tabGet? sh (base + 4 * k)).map (·.toNat)
          let rest := sh.filter fun x => x.1 < base || a ≤ x.1
          (0, wideCommit r i j m a v held mem { d with writeShadow := tabPut d.writeShadow m rest })

/-- The value of a row is wider than 64 bits, so that its words beyond the first pair keep to R59 (R60). -/
def RegRow.beyond64 (r : RegRow) : Bool := 2 < r.wlen

/-- A 64-bit PCIe write of a pair (R60): both words in one cycle, no shadow; a value wider than 64 bits commits with the words
that its master's write shadow holds (R59).  Two firmware-only registers of one pair are two refused writes, the higher
address last: the spec does not say whether one access counts once (log 107). -/
def regStore64 (m a v : Nat) (mem : List Host.Cell) (d : Device) : Nat × Device :=
  let lo := v % 2 ^ 32
  let hi := v / 2 ^ 32 % 2 ^ 32
  let live := fun (r : RegRow) (i j a v : Nat) (low : Option Nat) (d : Device) =>
    if r.mark.firmware i && d.hostLike m then (3, hostRefused r m a d)
    else
      match targetRefuses r.name i j a d with
      | some (d, busy) => (if busy then 3 else 0, d)
      | none =>
        if r.wlen < 2 then (0, plainWrite r i j m a v mem d)
        else if r.wpos + 1 < r.wlen then (0, putWord r i m a v d)
        else
          let base := a - 4 * r.wpos
          let sh := if r.beyond64 then d.shadow m else []
          let held := fun k =>
            if k + 1 = r.wpos && low.isSome then low else (tabGet? sh (base + 4 * k)).map (·.toNat)
          let rest := (d.shadow m).filter fun x => !r.beyond64 || x.1 < base || a ≤ x.1
          (0, wideCommit r i j m a v held mem { d with writeShadow := tabPut d.writeShadow m rest })
  match regAt a, regAt (a + 4) with
  | some (r, i, j), some (r', i', j') =>
    if 2 ≤ r.wlen && r.wpos + 2 = r.wlen then live r' i' j' (a + 4) hi (some lo) d
    else
      let (x, d) := live r i j a lo none d
      let (y, d) := live r' i' j' (a + 4) hi none d
      (max x y, d)
  | some (r, i, j), none =>
    let (x, d) := live r i j a lo none d
    (x, msixWrite (a + 4) hi d)
  | none, some (r', i', j') => live r' i' j' (a + 4) hi none (msixWrite a lo d)
  | none, none => (0, msixWrite (a + 4) hi (msixWrite a lo d))

/-- RC fields clear (R22); those of a firmware-only register only on a Bead's read (R24). -/
def readClear (r : RegRow) (i m a : Nat) (d : Device) : Device :=
  let rc := r.fields.filter fun f => f.acc == .rc
  if rc.isEmpty || (r.mark.firmware i && 16 ≤ m) then d
  else rc.foldl (fun (d : Device) f => d.set ⟨a, f.lo, f.hi + 1 - f.lo⟩ 0) d

/-- The live word of a register at an address. -/
def Device.liveAt (d : Device) (m a : Nat) : Nat :=
  match regAt a with
  | none => d.msixWord a
  | some (r, i, j) => d.live m r.name i j a

/-- What follows the read of one register word. -/
def afterRead (m a : Nat) (d : Device) : Device :=
  match regAt a with
  | none => d
  | some (r, i, _) => readEffect m r.name i (readClear r i m a d)

/-- A 32-bit read of a register word (R59). -/
def regLoad (m a : Nat) (d : Device) : Nat × Device :=
  match regAt a with
  | none => (d.msixWord a, d)
  | some (r, i, j) =>
    if r.wlen < 2 then (d.live m r.name i j a, afterRead m a d)
    else if r.wpos = 0 then
      let rest := (List.range (r.wlen - 1)).map fun k => word (d.liveAt m (a + 4 * (k + 1)))
      let v := d.liveAt m a
      (v, afterRead m a { d with readShadow := tabPut d.readShadow m ⟨a, rest⟩ })
    else
      let base := a - 4 * r.wpos
      match tabGet? d.readShadow m with
      | some sh => if sh.base = base then ((sh.words.getD (r.wpos - 1) 0).toNat, d) else (d.liveAt m a, afterRead m a d)
      | none => (d.liveAt m a, afterRead m a d)

/-- A 64-bit PCIe read of a pair (R60, R363): both words in one cycle and live, without use of the shadows; the words beyond the first
64 bits of a longer value read live too. -/
def regLoad64 (m a : Nat) (d : Device) : Nat × Device :=
  (d.liveAt m a + d.liveAt m (a + 4) * 2 ^ 32, afterRead m (a + 4) (afterRead m a d))

/-! ## Memory windows (R63, R210, R211, R401, R402) -/

/-- The protected word an address lies in, for the records of R401. -/
def eccAt (a : Nat) : EccWord :=
  let b := a / 8 * 8
  if b < 0x12000000 then .sram (b - 0x10000000)
  else if b < 0x16000000 then .weight (b - 0x12000000)
  else .capture (b - 0x16000000)

/-- Bytes as a number, least significant first (R11). -/
def Device.peekNum (d : Device) (mem : List Host.Cell) (a : Nat) : Nat → Nat
  | 0 => 0
  | n + 1 => (d.peek mem a).toNat + 2 ^ 8 * d.peekNum mem (a + 1) n

/-- The carrier 4d + c and the bank of a weight entry (R210, R212). -/
def weightPlace (a : Nat) : Nat × Nat :=
  let off := a - 0x12000000
  (off / 0x1B00000 * 4 + off % 0x900000 / 0x240000, off % 0x1B00000 / 0x900000)

/-- An address in weight memory. -/
def inWeights (a : Nat) : Bool := 0x12000000 ≤ a && a < 0x16000000

/-- An address in a run-ahead bank (R211). -/
def runAheadBank (a : Nat) : Bool := inWeights a && (weightPlace a).2 == 2

/-- A write to a run-ahead bank, of any master and width, has no effect but RA_WRITE (R211). -/
def raWrite (a : Nat) (d : Device) : Device := d.bmDirEvent L.BM_DEVENT_RA_WRITE ((weightPlace a).1 / 4) 0 1

/-- A write to weight memory that the run-ahead bank (R211) or a busy bank (R56) turns away: one record an access. -/
def weightRefuses (a : Nat) (d : Device) : Option (Nat × Device) :=
  if !inWeights a then none
  else
    let (i, bank) := weightPlace a
    if bank = 2 then some (0, raWrite a d)
    else if d.xfBusy (.beam i) bank then some (3, xfBusyWrite (.beam i) a d)
    else none

/-- A write to a memory window: 0 done, 2 a bus error (R401), 3 without effect (R56, R63).  Only LANE writes capture memory
(R246): a write of any other master than the host's, whose writes R63 refuses, has no effect and no record (log 109). -/
def memStore (m a n v : Nat) (d : Device) : Nat × Device :=
  let b := a / 8 * 8
  let fwOwned := a < 0x12000000 && a - 0x10000000 < 4096 * d.get L.SYS_FW_PRIV_TOP
  if d.hostLike m && (fwOwned || 0x16000000 ≤ a) then (3, hostViolation m a d)
  else if 0x16000000 ≤ a then (3, d)
  else
    match weightRefuses a d with
    | some x => x
    | none =>
      if d.eccBad.contains b && n ≠ 8 then (2, d)
      else (0, { d with eccBad := d.eccBad.filter (· != b) }.store a (bytesOf n v))

/-- A read of a memory window: its data, 0 or the bus error of an uncorrectable word (R402). -/
def memLoad (a n : Nat) (mem : List Host.Cell) (d : Device) : Nat × Nat × Device :=
  let v := d.peekNum mem a n
  if d.eccBad.contains (a / 8 * 8) then (2, v, eccFail (eccAt a) d) else (0, v, d)

/-! ## One access -/

/-- An access of the given width reaches its target: 0 done, 2 a bus error, 3 without effect; with the data of a read. -/
def perform (x : StalledAccess) (mem : List Host.Cell) (d : Device) : Nat × Nat × Device :=
  if 0x10000000 ≤ x.addr then
    if x.write then
      let (r, d) := memStore x.master x.addr x.width x.data d
      (r, 0, d)
    else memLoad x.addr x.width mem d
  else if x.write then
    if x.width = 8 then
      if x.master = 16 then
        let (r, d) := regStore64 x.master x.addr x.data mem d
        (r, 0, d)
      else
        let (r, d) := regStore x.master x.addr (x.data % 2 ^ 32) mem d
        let (q, d) := regStore x.master (x.addr + 4) (x.data / 2 ^ 32) mem d
        (max r q, 0, d)
    else
      let (r, d) := regStore x.master x.addr x.data mem d
      (r, 0, d)
  else if x.width = 8 then
    if x.master = 16 then
      let (v, d) := regLoad64 x.master x.addr d
      (0, v, d)
    else
      let (v, d) := regLoad x.master x.addr d
      let (w, d) := regLoad x.master (x.addr + 4) d
      (0, v + w * 2 ^ 32, d)
  else
    let (v, d) := regLoad x.master x.addr d
    (0, v, d)

/-- A target covers the address (R64). -/
def isMapped (a : Nat) : Bool := fabricTargets.any fun t => t.1 ≤ a && a ≤ t.2.1

/-- The width and alignment are ones the target takes (R19): words, or pairs of words; memory also narrower. -/
def widthOk (a n : Nat) : Bool :=
  a % n == 0 && (n == 4 || n == 8 || ((n == 1 || n == 2) && 0x10000000 ≤ a && (a < 0x12000000 || 0x16000000 ≤ a)))

/-- An access before any wait: 0 done, 1 it would wait for its domain, 2 a bus error, 3 without effect; and its data. -/
def busTry (x : StalledAccess) (mem : List Host.Cell) (d : Device) : Nat × Nat × Device :=
  if x.width = 0 || !widthOk x.addr x.width then
    let d := widthError x.master x.addr d
    (0, 0, if x.write && runAheadBank x.addr then raWrite x.addr d else d)
  else if !isMapped x.addr then (0, 0, unmapped x.master x.addr d)
  else
    let (r, d) := domainAccess x.master x.addr d
    if r = 0 then perform x mem d else (r, 0, d)

/-- The answer the master sees. -/
def answer (x : StalledAccess) (r v : Nat) (d : Device) : Device := { d with reply := some ⟨x.master, x.addr, v, r == 2⟩ }

/-- FABRIC answers this master: the ROM has started, and a PCIe request has a link (R505, R519). -/
def Device.answers (d : Device) (m : Nat) : Bool := d.boot.fabricReady && !d.coldHeld && (m != 16 || d.boot.pcieUp)

/-- An access of a master: behind the one of its own that waits (R492), else at once.  The first answer is as `busTry`. -/
def access (x : StalledAccess) (mem : List Host.Cell) (d : Device) : Nat × Device :=
  if !d.answers x.master then (2, answer x 2 0 d)
  else if d.stalled.any fun y => y.master == x.master then (1, { d with stalled := d.stalled ++ [x], reply := none })
  else
    let (r, v, d) := busTry x mem d
    if r = 1 then (1, { d with stalled := d.stalled ++ [x], reply := none }) else (r, answer x r v d)

/-- A write of `n` bytes. -/
def busWrite (m a n v : Nat) (mem : List Host.Cell) (d : Device) : Device := (access ⟨m, a, n, true, v, domainOf a⟩ mem d).2
/-- A read of `n` bytes. -/
def busRead (m a n : Nat) (mem : List Host.Cell) (d : Device) : Device := (access ⟨m, a, n, false, 0, domainOf a⟩ mem d).2

/-! ## Accesses that waited (R491, R492) -/

/-- The first access in order that is its master's first: with those before and after it. -/
def firstReady (ready : StalledAccess → Bool) : List StalledAccess → List StalledAccess → Option (StalledAccess × List StalledAccess)
  | _, [] => none
  | before, x :: xs =>
    if !(before.any fun y => y.master == x.master) && ready x then some (x, before ++ xs)
    else firstReady ready (before ++ [x]) xs

/-- A weight entry that GASTAD could not write counts W_BUSY (R355, R493). -/
def weightLost (x : StalledAccess) (r : Nat) (d : Device) : Device :=
  d.when (x.master == 19 && inWeights x.addr && 2 ≤ r) fun d =>
    gstEvent L.GST_EVENT_W_BUSY ((weightPlace x.addr).1 % 4) 1 (gstCount 10 1 d)

/-- The bank changes of WEIGHT messages are asked for once no entry waits any more (R355). -/
def weightApplies (d : Device) : Device :=
  if d.stalled.any fun x => x.master == 19 then d
  else d.port.applies.foldl (fun d x => xfRequest (.beam x.carrier) x.bank x.fade 1 x.at' d)
    { d with port := { d.port with applies := [] } }

/-- Accesses whose domain has come on complete in order; a master's next request then reaches FABRIC. -/
def stallRun : Nat → List Host.Cell → Device → Device
  | 0, _, d => d
  | n + 1, mem, d =>
    match firstReady (fun x => (domainAccess x.master x.addr d).1 != 1) [] d.stalled with
    | none => d
    | some (x, rest) =>
      let (r, v, d) := busTry x mem { d with stalled := rest }
      let d := if rest.any fun y => domainOf y.addr == domainOf x.addr then d else unvoteOne (domainOf x.addr) 21 d
      stallRun n mem (weightLost x r (answer x r v d))

/-- Every access that can complete does; the first requests behind them set their STALL votes. -/
def stallSettle (mem : List Host.Cell) (d : Device) : Device :=
  let d := stallRun d.stalled.length mem d
  weightApplies (d.stalled.foldl (fun d x => (domainAccess x.master x.addr d).2) d)

/-- The access of master `m` that has waited for TMO ends in a bus error (R492); the next one follows. -/
def stallTimeout (m : Nat) (mem : List Host.Cell) (d : Device) : Device :=
  match d.stalled.find? fun x => x.master == m with
  | none => d
  | some x => stallSettle mem (weightLost x 2 (busError m x.addr 1 { d with stalled := d.stalled.erase x }))

/-! ## WEIGHT messages (R355) -/

/-- One entry as an access of master GASTAD (R44, R491): written, refused or lost with W_BUSY, or waiting for its domain. -/
def weightPut (a v : Nat) (mem : List Host.Cell) (d : Device) : Device :=
  let x : StalledAccess := ⟨19, a, 4, true, v, domainOf a⟩
  let keep := d.reply
  let (r, d) := access x mem d
  weightLost x r { d with reply := keep }

/-- A WEIGHT message. -/
def weightMsg (f : List Byte) (mem : List Host.Cell) (d : Device) : Device :=
  let c := gstCarrier f
  let b := gstBody f
  let xw := gstXw f
  let dir := bitsOf xw 31 1
  let i := 4 * dir + c
  let bank := bitsOf xw 29 2
  let w0 := beAt b 0 4
  let g := bitsOf w0 23 9
  let nent := bitsOf w0 0 12
  let first := (g * 32 + bitsOf w0 18 5) * 64 + bitsOf w0 12 6
  if bank = 3 || nent = 0 || 2048 < nent || b.length ≠ 8 + 4 * nent || 288 * 2048 < first + nent then gstBad 3 d
  else
    let d := seqTrack (roeFlow f) (roeSeq f) (gstCount 0 1 d)
    let d :=
      if bank = 2 then
        (gstEvent L.GST_EVENT_W_BUSY c 1 (gstCount 10 1 d)).bmDirEvent L.BM_DEVENT_RA_WRITE dir 0 1
      else
        let base := weightAddr dir bank c 0 0 0 + 4 * first
        d.each nent fun k => weightPut (base + 4 * k) (beAt b (8 + 4 * k) 4) mem
    let ask : List WeightApply := if bitsOf xw 28 1 = 1 then [⟨i, bank, bitsOf xw 24 4, bitsOf (beAt b 4 4) 16 16⟩] else []
    weightApplies { d with port := { d.port with applies := d.port.applies ++ ask } }

/-- WEIGHT_MESSAGE (R355). -/
def execWeightMessage (s : State) : Host.Outcome State Fault Refusal :=
  act .weightMessage s fun mem => gstMessage 6 fun f => weightMsg f.bytes mem

/-! ## Writing by field -/

/-- The word a writer composes from what it knows: writable plain fields as they are, with the given fields replaced. -/
def Device.compose (d : Device) (a : Nat) (fs : List (Loc × Nat)) : Nat :=
  let base := match regAt a with
    | none => 0
    | some (r, _, _) => r.fields.foldl (fun n f =>
        if f.acc = .rw || f.acc = .rws || f.acc = .rwl then n + bitsOf (d.rd a) f.lo (f.hi + 1 - f.lo) * 2 ^ f.lo else n) 0
  fs.foldl (fun n x => putBits n x.1.lo x.1.w x.2) base

/-- Master `m` writes a register with some of its fields set. -/
def fieldStore (m a : Nat) (fs : List (Loc × Nat)) (mem : List Host.Cell) (d : Device) : Device :=
  busWrite m a 4 (d.compose a fs) mem d

end Sys2Proof.Machine
end

