-- ==== Sys2Proof/Machine/DmaRun.lean ====
section
/-! DEFINITION. The data path of the DMA engine and what ends a wait for a power domain (R450, R455–R464, R489–R493, R503). -/
namespace Sys2Proof.Machine

/-- Pieces of `n` bytes from `a`: aligned accesses, the widest first that fits. -/
def pieces : Nat → Nat → Nat → List (Nat × Nat)
  | 0, _, _ => []
  | fuel + 1, a, n =>
    if n = 0 then []
    else
      let w := if a % 8 = 0 && 8 ≤ n then 8 else if a % 4 = 0 && 4 ≤ n then 4 else if a % 2 = 0 && 2 ≤ n then 2 else 1
      (a, w) :: pieces fuel (a + w) (n - w)

/-- An access of the engine (R44). -/
def dmaAccess (a n : Nat) (write : Bool) (v : Nat) (mem : List Host.Cell) (d : Device) : Nat × Nat × Device :=
  busTry ⟨18, a, n, write, v, domainOf a⟩ mem d

/-- A host may not write here: a firmware-only register, the firmware-private region or capture memory (R62, R63). -/
def hostBarred (a : Nat) (d : Device) : Option Device :=
  if 0x10000000 ≤ a then
    if 0x16000000 ≤ a || (a < 0x12000000 && a - 0x10000000 < 4096 * d.get L.SYS_FW_PRIV_TOP) then some (hostViolation 18 a d) else none
  else
    match regAt a with
    | some (r, i, _) => if r.mark.firmware i then some (hostRefused r 18 a d) else none
    | none => none

/-- One access of a data write of channel `ch`: that of a host channel counts as a host write (R447). -/
def dmaPut (ch a n v : Nat) (mem : List Host.Cell) (d : Device) : Nat × Device :=
  let plain := fun (a n v : Nat) (d : Device) =>
    let (r, _, d) := dmaAccess a n true v mem d
    (r, d)
  let host := fun (a n v : Nat) (d : Device) =>
    if (domainAccess 18 a d).1 ≠ 0 then plain a n v d
    else match hostBarred a d with
      | some d => (3, d)
      | none => plain a n v d
  if ch < 48 then plain a n v d
  else if n = 8 && a < 0x10000000 then
    let (r, d) := host a 4 (v % 2 ^ 32) d
    if r = 1 then (r, d)
    else
      let (q, d) := host (a + 4) 4 (v / 2 ^ 32) d
      (max r q, d)
  else host a n v d

/-- The bytes of an element read in ascending order: how the reads end, and the bytes. -/
def dmaRead (mem : List Host.Cell) : List (Nat × Nat) → Device → Nat × List Byte × Device
  | [], d => (0, [], d)
  | (a, n) :: ps, d =>
    let (r, v, d) := dmaAccess a n false 0 mem d
    if r ≠ 0 then (r, [], d)
    else
      let (q, bs, d) := dmaRead mem ps d
      (q, bytesOf n v ++ bs, d)

/-- The bytes of an element written in ascending order by channel `ch`. -/
def dmaWrite (ch : Nat) (mem : List Host.Cell) : List (Nat × Nat) → List Byte → Device → Nat × Device
  | [], _, d => (0, d)
  | (a, n) :: ps, bs, d =>
    let v := (bs.take n).foldr (fun b k => b.toNat + 2 ^ 8 * k) 0
    let (r, d) := dmaPut ch a n v mem d
    if r ≠ 0 then (r, d) else dmaWrite ch mem ps (bs.drop n) d

/-- The running check over bytes that were read (R455). -/
def dmaCheck (ch : Nat) (bs : List Byte) (d : Device) : Device :=
  let c := d.dmac ch
  let v := d.get (L.DMA_CCRC_CRC ch)
  match dCrcMode c.desc with
  | 0 => d
  | 1 => d.set (L.DMA_CCRC_CRC ch) (bs.foldl (crcByte polyCrc32) v)
  | 2 => d.set (L.DMA_CCRC_CRC ch) (bs.foldl (crcByte polyCrc32C) v)
  | _ =>
    let (s, half) := bs.foldl (fun (x : Nat × Bool) b => ((x.1 + b.toNat * (if x.2 then 2 ^ 8 else 1)) % 2 ^ 16, !x.2)) (v, c.half)
    (d.set (L.DMA_CCRC_CRC ch) s).setDma ch { c with half := half }

/-- Number of the next element in the order of R450. -/
def Device.dmaElem (d : Device) (ch : Nat) : Nat := dTotal (d.dmac ch).desc - d.dmaRemaining ch

/-- One element: 0 moved, 1 it waits, else the CAUSE (R457). -/
def dmaElement (ch : Nat) (mem : List Host.Cell) (d : Device) : Nat × Device :=
  let size := dSize (d.dmac ch).desc
  let (r, bs, d) := dmaRead mem (pieces size (d.get (L.DMA_CPOS_SRC_ADDR ch)) size) d
  if r = 1 then (1, { d with dmaStall := some (ch, false) })
  else if r ≠ 0 then (4, d)
  else
    let (r, d) := dmaWrite ch mem (pieces size (d.get (L.DMA_CPOS_DST_ADDR ch)) size) bs d
    if r = 1 then (1, { d with dmaStall := some (ch, true) })
    else if r = 3 then (6, d)
    else if r ≠ 0 then (5, d)
    else (0, dmaPlace ch (d.dmaElem ch + 1) (dmaCheck ch bs d))

/-- Elements move until one waits or fails. -/
def dmaElements (ch : Nat) (mem : List Host.Cell) : Nat → Device → Nat × Device
  | 0, d => (0, d)
  | n + 1, d =>
    let (r, d) := dmaElement ch mem d
    if r ≠ 0 then (r, d.setDma ch { d.dmac ch with burst := some (n + 1) }) else dmaElements ch mem n d

/-- The descriptor has moved whole: the check word is stored, then the write-back (R456, R457). -/
def dmaComplete (ch : Nat) (mem : List Host.Cell) (d : Device) : Device :=
  let desc := (d.dmac ch).desc
  let mode := dCrcMode desc
  if mode = 0 then dmaFinish ch 0 0 (0, 0, 0) d
  else
    let v := d.get (L.DMA_CCRC_CRC ch)
    let (r, _, d) := dmaAccess (dword desc 11) 4 true (if mode = 3 then v % 2 ^ 16 else v ^^^ 0xFFFFFFFF) mem d
    if r = 0 then dmaFinish ch 0 0 (0, 0, 0) d else dmaFinish ch 1 7 (0, 0, 0) d

/-- A burst goes on, whole or for the elements it has issued: then the channel continues, waits, stops or completes (R458–R464). -/
def dmaBurst (ch : Nat) (mem : List Host.Cell) (d : Device) : Device :=
  let st := d.dmaState ch
  match (d.dmac ch).burst with
  | none => d
  | some n =>
    let (r, d) := dmaElements ch mem n { d with dmaStall := none }
    if r = 1 then d
    else
      let d :=
        if r ≠ 0 then
          let d := dmaFinish ch 1 r (d.dmaResidues ch) d
          if st = 2 then d else dmaStopAtEnd ch st d
        else
          let d := d.setDma ch { d.dmac ch with burst := none }
          if d.dmaRemaining ch = 0 then
            let d := dmaComplete ch mem d
            if st = 2 then d else dmaStopAtEnd ch st d
          else if st = 4 then setDmaState ch 5 d
          else if st = 6 then dmaAbort ch d
          else dmaPace ch d
      dmaFlight d

/-- The last element of a burst is written; a pause lets only the `issued` elements move. -/
def dmaBurstDone (ch issued : Nat) (mem : List Host.Cell) (d : Device) : Device :=
  let st := d.dmaState ch
  let c := d.dmac ch
  match c.burst with
  | none => d
  | some n =>
    if d.dmaStall.isSome || !(st == 2 || st == 4 || st == 6) then d
    else
      let k := if st = 4 then min issued n else n
      dmaBurst ch mem (d.setDma ch { c with burst := some k, left := n - k })

/-- Accesses that waited go on, those of the engine as well (R491). -/
def waitsSettle (mem : List Host.Cell) (d : Device) : Device :=
  let d := stallSettle mem d
  match d.dmaStall with
  | none => d
  | some (ch, write) =>
    let n := domainOf (d.get (if write then L.DMA_CPOS_DST_ADDR ch else L.DMA_CPOS_SRC_ADDR ch))
    if d.domState n = 2 || d.dfail.contains n then unvoteOne n 21 (dmaBurst ch mem d) else d

/-- The access of master `m` that has waited for TMO ends (R492); one of the engine ends its descriptor BAD (R458). -/
def waitTimeout (m : Nat) (mem : List Host.Cell) (d : Device) : Device :=
  if m ≠ 18 then stallTimeout m mem d
  else
    match d.dmaStall with
    | none => d
    | some (ch, write) =>
      let st := d.dmaState ch
      let a := d.get (if write then L.DMA_CPOS_DST_ADDR ch else L.DMA_CPOS_SRC_ADDR ch)
      let d := busError 18 a 1 { d with dmaStall := none }
      let d := dmaFinish ch 1 (if write then 5 else 4) (d.dmaResidues ch) d
      dmaFlight (if st = 2 then d else dmaStopAtEnd ch st d)

/-! ## Meanings -/

/-- DMA_BURST_DONE (R458–R464). -/
def execDmaBurstDone (ch issued : Nat) (s : State) : Host.Outcome State Fault Refusal :=
  act (.dmaBurstDone ch issued) s (dmaBurstDone ch issued)
/-- DOMAIN_POWER_GOOD (R489, R491). -/
def execDomainPowerGood (n : Nat) (s : State) : Host.Outcome State Fault Refusal :=
  act (.domainPowerGood n) s fun mem d => waitsSettle mem (domainGood n d)
/-- DOMAIN_POWERUP_FAIL (R489, R490, R492). -/
def execDomainPowerupFail (n : Nat) (s : State) : Host.Outcome State Fault Refusal :=
  act (.domainPowerupFail n) s fun mem d => waitsSettle mem (domainFail n d)
/-- WAKE_COMPLETE (R491, R503). -/
def execWakeComplete (s : State) : Host.Outcome State Fault Refusal := act .wakeComplete s fun mem d => waitsSettle mem (wakeDone d)

end Sys2Proof.Machine
end

