-- ==== Sys2Proof/Machine/Access.lean ====
section
/-! DEFINITION. The commands that are one access of a master: a register write or read by its row, each under the rules of the bus. -/
namespace Sys2Proof.Machine

/-- The lock registers in block order (R25). -/
def lockAddr (block : Nat) : Nat :=
  match block with
  | 0 => A.SYS_LOCK
  | 1 => A.MBX_LOCK
  | 2 => A.TLY_LOCK
  | 3 => A.CLK_LOCK
  | 4 => A.DMA_LOCK
  | 5 => A.DMP_LOCK
  | 6 => A.FH_LOCK
  | _ => A.GST_LOCK

/-- The address of an object's XF_REQ, one word below its XF_STAT (R58). -/
def xfReqAddr (o : XfObj) : Nat := xfStat o - 4

/-- Words written one after the other from an address: the last commits a wide value (R59). -/
def wordsStore (m a : Nat) : List Nat → List Host.Cell → Device → Device
  | [], _, d => d
  | v :: vs, mem, d => wordsStore m (a + 4) vs mem (busWrite m a 4 v mem d)

/-- CLK_RELOCK_WRITE (R110). -/
def execClkRelockWrite (m : Nat) (s : State) : Host.Outcome State Fault Refusal :=
  act (.clkRelockWrite m) s
    (fieldStore m A.CLK_CFG [(L.CLK_CFG_RELOCK, 1)])
/-- CLK_REALIGN_WRITE (R110). -/
def execClkRealignWrite (m : Nat) (s : State) : Host.Outcome State Fault Refusal :=
  act (.clkRealignWrite m) s
    (fieldStore m A.CLK_CFG [(L.CLK_CFG_REALIGN, 1)])
/-- CONV_LP_WRITE (R101). -/
def execConvLpWrite (m v : Nat) (s : State) : Host.Outcome State Fault Refusal :=
  act (.convLpWrite m v) s
    (fieldStore m A.CLK_CFG [(L.CLK_CFG_CONV_LP, v)])
/-- CLK_AUXDIV_WRITE (R103). -/
def execClkAuxdivWrite (m i k n : Nat) (s : State) : Host.Outcome State Fault Refusal :=
  act (.clkAuxdivWrite m i k n) s
    (fieldStore m (A.CLK_AUXDIV i) [(L.CLK_AUXDIV_K i, k), (L.CLK_AUXDIV_N i, n)])
/-- AUX_OFFSET_WRITE (R104). -/
def execAuxOffsetWrite (m target : Nat) (s : State) : Host.Outcome State Fault Refusal :=
  act (.auxOffsetWrite m target) s
    (busWrite m A.CLK_AUX_OFFSET 4 target)
/-- CLK_OUT_WRITE (R107). -/
def execClkOutWrite (m i v : Nat) (s : State) : Host.Outcome State Fault Refusal :=
  act (.clkOutWrite m i v) s
    (busWrite m (A.CLK_OUT i) 4 v)
/-- CLK_COUNT_CLR (R112). -/
def execClkCountClr (m : Nat) (s : State) : Host.Outcome State Fault Refusal :=
  act (.clkCountClr m) s
    (fieldStore m A.CLK_COUNT [(L.CLK_COUNT_CLR, 1)])
/-- RXADC_EN_SET (R133). -/
def execRxadcEnSet (m n : Nat) (s : State) : Host.Outcome State Fault Refusal :=
  act (.rxadcEnSet m n) s
    (fieldStore m (A.RXADC_CFG n) [(L.RXADC_CFG_EN n, 1)])
/-- RXADC_EN_CLEAR (R133). -/
def execRxadcEnClear (m n : Nat) (s : State) : Host.Outcome State Fault Refusal :=
  act (.rxadcEnClear m n) s
    (fieldStore m (A.RXADC_CFG n) [(L.RXADC_CFG_EN n, 0)])
/-- RXADC_ZONE_WRITE (R117). -/
def execRxadcZoneWrite (m n z : Nat) (s : State) : Host.Outcome State Fault Refusal :=
  act (.rxadcZoneWrite m n z) s
    (fieldStore m (A.RXADC_CFG n) [(L.RXADC_CFG_ZONE n, z)])
/-- RXADC_ROT_EN_WRITE (R127). -/
def execRxadcRotEnWrite (m n v : Nat) (s : State) : Host.Outcome State Fault Refusal :=
  act (.rxadcRotEnWrite m n v) s
    (fieldStore m (A.RXADC_CFG n) [(L.RXADC_CFG_ROT_EN n, v)])
/-- RXADC_DSA_WRITE (R119). -/
def execRxadcDsaWrite (m n att mode block : Nat) (s : State) : Host.Outcome State Fault Refusal :=
  act (.rxadcDsaWrite m n att mode block) s
    (fieldStore m (A.RXADC_DSA n) [(L.RXADC_DSA_ATT n, att), (L.RXADC_DSA_AT_MODE n, mode), (L.RXADC_DSA_AT n, block)])
/-- OBS_SEL_WRITE (R135). -/
def execObsSelWrite (m k sel : Nat) (s : State) : Host.Outcome State Fault Refusal :=
  act (.obsSelWrite m k sel) s
    (fieldStore m (A.RXADC_OBS_SEL k) [(L.RXADC_OBS_SEL_SEL k, sel)])
/-- CH_RXCTR_WRITE (R161). -/
def execChRxctrWrite (m p ctr : Nat) (s : State) : Host.Outcome State Fault Refusal :=
  act (.chRxctrWrite m p ctr) s
    (fieldStore m (A.CH_RXCTR p) [(L.CH_RXCTR_CTR p, ctr)])
/-- CH_CHG_GO (R171). -/
def execChChgGo (m k mode block : Nat) (s : State) : Host.Outcome State Fault Refusal :=
  act (.chChgGo m k mode block) s
    (fieldStore m (A.CH_CHG k) [(L.CH_CHG_GO k, 1), (L.CH_CHG_AT_MODE k, mode), (L.CH_CHG_AT k, block)])
/-- TXDAC_EN_SET (R152). -/
def execTxdacEnSet (m p : Nat) (s : State) : Host.Outcome State Fault Refusal :=
  act (.txdacEnSet m p) s
    (fieldStore m (A.TXDAC_CFG p) [(L.TXDAC_CFG_EN p, 1)])
/-- TXDAC_EN_CLEAR (R152). -/
def execTxdacEnClear (m p : Nat) (s : State) : Host.Outcome State Fault Refusal :=
  act (.txdacEnClear m p) s
    (fieldStore m (A.TXDAC_CFG p) [(L.TXDAC_CFG_EN p, 0)])
/-- TXDAC_NCO_COMMIT (R147). -/
def execTxdacNcoCommit (m p phase ftwHi : Nat) (s : State) : Host.Outcome State Fault Refusal :=
  act (.txdacNcoCommit m p phase ftwHi) s
    (fieldStore m (A.TXDAC_NCO_HI p) [(L.TXDAC_NCO_HI_PHASE p, phase), (L.TXDAC_NCO_HI_FTW_HI p, ftwHi)])
/-- TXDAC_MUTE_WRITE (R150). -/
def execTxdacMuteWrite (m p v : Nat) (s : State) : Host.Outcome State Fault Refusal :=
  act (.txdacMuteWrite m p v) s
    (fieldStore m (A.TXDAC_MUTE p) [(L.TXDAC_MUTE_MUTE p, v)])
/-- OF_CHG_GO (R204). -/
def execOfChgGo (m i mode half : Nat) (s : State) : Host.Outcome State Fault Refusal :=
  act (.ofChgGo m i mode half) s
    (fieldStore m (A.OF_CHG i) [(L.OF_CHG_GO i, 1), (L.OF_CHG_AT_MODE i, mode), (L.OF_CHG_AT i, half)])
/-- BM_CHG_GO (R228). -/
def execBmChgGo (m i mode half : Nat) (s : State) : Host.Outcome State Fault Refusal :=
  act (.bmChgGo m i mode half) s
    (fieldStore m (A.BM_CHG i) [(L.BM_CHG_GO i, 1), (L.BM_CHG_AT_MODE i, mode), (L.BM_CHG_AT i, half)])
/-- BM_ERAMP_GO (R226). -/
def execBmErampGo (m dir e target len : Nat) (s : State) : Host.Outcome State Fault Refusal :=
  act (.bmErampGo m dir e target len) s
    (fieldStore m (A.BM_ERAMP dir e) [(L.BM_ERAMP_GO dir e, 1), (L.BM_ERAMP_TARGET dir e, target), (L.BM_ERAMP_LEN dir e, len)])
/-- XF_REQUEST (R52). -/
def execXfRequest (m : Nat) (o : XfObj) (mode fade target start : Nat) (s : State) : Host.Outcome State Fault Refusal :=
  act (.xfRequest m o mode fade target start) s
    (fieldStore m (xfReqAddr o) [(⟨xfReqAddr o, 31, 1⟩, 1), (⟨xfReqAddr o, 30, 1⟩, mode), (⟨xfReqAddr o, 24, 4⟩, fade), (⟨xfReqAddr o, 20, 4⟩, target), (⟨xfReqAddr o, 0, 16⟩, start)])
/-- XF_CANCEL (R55). -/
def execXfCancel (m : Nat) (o : XfObj) (s : State) : Host.Outcome State Fault Refusal :=
  act (.xfCancel m o) s
    (fieldStore m (xfReqAddr o) [(⟨xfReqAddr o, 31, 1⟩, 1), (⟨xfReqAddr o, 20, 4⟩, 15)])
/-- DPD_EN_WRITE (R236). -/
def execDpdEnWrite (m p v : Nat) (s : State) : Host.Outcome State Fault Refusal :=
  act (.dpdEnWrite m p v) s
    (fieldStore m (A.DPD_PCFG p) [(L.DPD_PCFG_EN p, v)])
/-- DPD_CAPREQ_GO (R248). -/
def execDpdCapreqGo (m k input path : Nat) (s : State) : Host.Outcome State Fault Refusal :=
  act (.dpdCapreqGo m k input path) s
    (fieldStore m (A.DPD_CAPREQ k) [(L.DPD_CAPREQ_GO k, 1), (L.DPD_CAPREQ_INPUT k, input), (L.DPD_CAPREQ_M k, path)])
/-- CAPTURE_SLOT_RELEASE (R247). -/
def execCaptureSlotRelease (m k slot : Nat) (s : State) : Host.Outcome State Fault Refusal :=
  act (.captureSlotRelease m k slot) s
    (fieldStore m (A.DPD_CAPSTAT k) [(if slot = 0 then L.DPD_CAPSTAT_FULL0 k else L.DPD_CAPSTAT_FULL1 k, 1)])
/-- DPD_TRIAL_GO (R250). -/
def execDpdTrialGo (m p holdoff j fade rbFade : Nat) (s : State) : Host.Outcome State Fault Refusal :=
  act (.dpdTrialGo m p holdoff j fade rbFade) s
    (fieldStore m (A.DPD_TRIAL p) [(L.DPD_TRIAL_GO p, 1), (L.DPD_TRIAL_HOLDOFF p, holdoff), (L.DPD_TRIAL_J p, j), (L.DPD_TRIAL_FADE p, fade), (L.DPD_TRIAL_RB_FADE p, rbFade)])
/-- DPD_TRIAL_ABORT (R252). -/
def execDpdTrialAbort (m p : Nat) (s : State) : Host.Outcome State Fault Refusal :=
  act (.dpdTrialAbort m p) s
    (fieldStore m (A.DPD_TRIAL p) [(L.DPD_TRIAL_ABORT p, 1)])
/-- DPD_SJOB_GO (R255). -/
def execDpdSjobGo (m desc : Nat) (s : State) : Host.Outcome State Fault Refusal :=
  act (.dpdSjobGo m desc) s
    (fieldStore m A.DPD_SJOB [(L.DPD_SJOB_GO, 1), (L.DPD_SJOB_DESC, desc)])
/-- PATH_EN_SET (R258). -/
def execPathEnSet (m p : Nat) (s : State) : Host.Outcome State Fault Refusal :=
  act (.pathEnSet m p) s
    (fieldStore m (A.PATH_CFG p) [(L.PATH_CFG_EN p, 1)])
/-- PATH_EN_CLEAR (R258). -/
def execPathEnClear (m p : Nat) (s : State) : Host.Outcome State Fault Refusal :=
  act (.pathEnClear m p) s
    (fieldStore m (A.PATH_CFG p) [(L.PATH_CFG_EN p, 0)])
/-- PATH_OUT_GO (R258). -/
def execPathOutGo (m p tmo len : Nat) (s : State) : Host.Outcome State Fault Refusal :=
  act (.pathOutGo m p tmo len) s
    (fieldStore m (A.PATH_CTL p) [(L.PATH_CTL_OUT_GO p, 1), (L.PATH_CTL_RET_TMO p, tmo), (L.PATH_CTL_LEN p, len)])
/-- PATH_RET_GO (R272). -/
def execPathRetGo (m p tmo len : Nat) (s : State) : Host.Outcome State Fault Refusal :=
  act (.pathRetGo m p tmo len) s
    (fieldStore m (A.PATH_CTL p) [(L.PATH_CTL_RET_GO p, 1), (L.PATH_CTL_RET_TMO p, tmo), (L.PATH_CTL_LEN p, len)])
/-- PATH_FE_GO (R265). -/
def execPathFeGo (m p tmo len : Nat) (s : State) : Host.Outcome State Fault Refusal :=
  act (.pathFeGo m p tmo len) s
    (fieldStore m (A.PATH_CTL p) [(L.PATH_CTL_FE_GO p, 1), (L.PATH_CTL_RET_TMO p, tmo), (L.PATH_CTL_LEN p, len)])
/-- AIR_CFG_GO (R260). -/
def execAirCfgGo (m mode scs period lead : Nat) (s : State) : Host.Outcome State Fault Refusal :=
  act (.airCfgGo m mode scs period lead) s
    (fieldStore m A.AIR_CFG [(L.AIR_CFG_GO, 1), (L.AIR_CFG_MODE, mode), (L.AIR_CFG_SCS_REF, scs), (L.AIR_CFG_PERIOD, period), (L.AIR_CFG_CHK_LEAD, lead)])
/-- TUN_PUSH_GO (R278). -/
def execTunPushGo (m k when m' : Nat) (s : State) : Host.Outcome State Fault Refusal :=
  act (.tunPushGo m k when m') s
    (fieldStore m (A.TUN_PUSH k) [(L.TUN_PUSH_GO k, 1), (L.TUN_PUSH_WHEN k, when), (L.TUN_PUSH_M k, m')])
/-- PATH_SRCH_GO (R281). -/
def execPathSrchGo (m p n cur settle : Nat) (s : State) : Host.Outcome State Fault Refusal :=
  act (.pathSrchGo m p n cur settle) s
    (fieldStore m (A.PATH_SRCH p) [(L.PATH_SRCH_GO p, 1), (L.PATH_SRCH_N p, n), (L.PATH_SRCH_CUR p, cur), (L.PATH_SRCH_TSETTLE p, settle)])
/-- CAL_RUN_GO (R291). -/
def execCalRunGo (m apply fade kind path : Nat) (s : State) : Host.Outcome State Fault Refusal :=
  act (.calRunGo m apply fade kind path) s
    (fieldStore m A.CAL_RUN [(L.CAL_RUN_GO, 1), (L.CAL_RUN_APPLY, apply), (L.CAL_RUN_FADE, fade), (L.CAL_RUN_KIND, kind), (L.CAL_RUN_PATH, path)])
/-- CAL_RUN_ABORT (R294). -/
def execCalRunAbort (m : Nat) (s : State) : Host.Outcome State Fault Refusal :=
  act (.calRunAbort m) s
    (fieldStore m A.CAL_RUN [(L.CAL_RUN_ABORT, 1)])
/-- CAL_APPLY_GO (R285). -/
def execCalApplyGo (m fade path at' : Nat) (s : State) : Host.Outcome State Fault Refusal :=
  act (.calApplyGo m fade path at') s
    (fieldStore m A.CAL_APPLY [(L.CAL_APPLY_GO, 1), (L.CAL_APPLY_FADE, fade), (L.CAL_APPLY_PATH, path), (L.CAL_APPLY_AT, at')])
/-- PILOT_WRITE (R286). -/
def execPilotWrite (m reg value : Nat) (s : State) : Host.Outcome State Fault Refusal :=
  act (.pilotWrite m reg value) s
    (busWrite m (match reg with | 0 => A.CAL_PILOT | 1 => A.CAL_PILOT_LO | _ => A.CAL_PILOT_HI) 4 value)
/-- DMP_REARM_GO (R314). -/
def execDmpRearmGo (m all path : Nat) (s : State) : Host.Outcome State Fault Refusal :=
  act (.dmpRearmGo m all path) s
    (fieldStore m A.DMP_REARM [(L.DMP_REARM_GO, 1), (L.DMP_REARM_ALL, all), (L.DMP_REARM_PATH, path)])
/-- DAMPER_LIMIT_WRITE (R306). -/
def execDamperLimitWrite (m addr value : Nat) (s : State) : Host.Outcome State Fault Refusal :=
  act (.damperLimitWrite m addr value) s
    (busWrite m addr 4 value)
/-- FH_MODE_WRITE (R317). -/
def execFhModeWrite (m fwd fec25 dual mode : Nat) (s : State) : Host.Outcome State Fault Refusal :=
  act (.fhModeWrite m fwd fec25 dual mode) s
    (fieldStore m A.FH_CFG [(L.FH_CFG_FWD_EN, fwd), (L.FH_CFG_FEC25, fec25), (L.FH_CFG_DUAL, dual), (L.FH_CFG_MODE, mode)])
/-- MGT_UL_SEND (R359). -/
def execMgtUlSend (m len tag : Nat) (s : State) : Host.Outcome State Fault Refusal :=
  act (.mgtUlSend m len tag) s
    (fieldStore m A.GST_MTX [(L.GST_MTX_GO, 1), (L.GST_MTX_LEN, len), (L.GST_MTX_TAG, tag)])
/-- TIME_SET_WRITE (R364). -/
def execTimeSetWrite (m ns sec : Nat) (s : State) : Host.Outcome State Fault Refusal :=
  act (.timeSetWrite m ns sec) s
    (wordsStore m A.TIME_SET_W0 [ns, sec % 2 ^ 32, sec / 2 ^ 32])
/-- TIME_ADJ_WRITE (R364). -/
def execTimeAdjWrite (m adj : Nat) (s : State) : Host.Outcome State Fault Refusal :=
  act (.timeAdjWrite m adj) s
    (wordsStore m A.TIME_ADJ_W0 [adj % 2 ^ 32, adj / 2 ^ 32])
/-- TIME_INC_WRITE (R362). -/
def execTimeIncWrite (m inc : Nat) (s : State) : Host.Outcome State Fault Refusal :=
  act (.timeIncWrite m inc) s
    (wordsStore m A.TIME_INC_W0 [inc % 2 ^ 32, inc / 2 ^ 32])
/-- TIME_FOFF_WRITE (R367). -/
def execTimeFoffWrite (m foff : Nat) (s : State) : Host.Outcome State Fault Refusal :=
  act (.timeFoffWrite m foff) s
    (fieldStore m A.TIME_FRAME [(L.TIME_FRAME_FOFF, foff)])
/-- TIME_VGO (R369). -/
def execTimeVgo (m state : Nat) (s : State) : Host.Outcome State Fault Refusal :=
  act (.timeVgo m state) s
    (fieldStore m A.TIME_CTL [(L.TIME_CTL_VGO, 1), (L.TIME_CTL_STATE, state)])
/-- TIME_KICK (R369). -/
def execTimeKick (m : Nat) (s : State) : Host.Outcome State Fault Refusal :=
  act (.timeKick m) s
    (fieldStore m A.TIME_CTL [(L.TIME_CTL_KICK, 1)])
/-- TIME_PTX_GO (R373). -/
def execTimePtxGo (m port op len : Nat) (s : State) : Host.Outcome State Fault Refusal :=
  act (.timePtxGo m port op len) s
    (fieldStore m A.TIME_PTX [(L.TIME_PTX_GO, 1), (L.TIME_PTX_PORT, port), (L.TIME_PTX_OP, op), (L.TIME_PTX_LEN, len)])
/-- PTP_RX_POP (R376). -/
def execPtpRxPop (m : Nat) (s : State) : Host.Outcome State Fault Refusal :=
  act (.ptpRxPop m) s
    (fieldStore m A.TIME_PRX_RD [(L.TIME_PRX_RD_POP, 1)])
/-- TCAP_ENTRY_READ (R377). -/
def execTcapEntryRead (m i : Nat) (s : State) : Host.Outcome State Fault Refusal :=
  act (.tcapEntryRead m i) s
    (busRead m (A.TCAP_ENTRY_W0 i) 4)
/-- TIME_ETS_READ (R373). -/
def execTimeEtsRead (m : Nat) (s : State) : Host.Outcome State Fault Refusal :=
  act (.timeEtsRead m) s
    (busRead m A.TIME_ETS_W0 4)
/-- TP_START_ARM (R378). -/
def execTpStartArm (m k ns sec : Nat) (s : State) : Host.Outcome State Fault Refusal :=
  act (.tpStartArm m k ns sec) s
    (wordsStore m (A.TP_START_W0 k) [ns, sec % 2 ^ 32, sec / 2 ^ 32])
/-- EMB_CAL_GO (R384). -/
def execEmbCalGo (m n : Nat) (s : State) : Host.Outcome State Fault Refusal :=
  act (.embCalGo m n) s
    (fieldStore m A.EMB_CAL [(L.EMB_CAL_GO, 1), (L.EMB_CAL_N, n)])
/-- TALLY_EN_WRITE (R394). -/
def execTallyEnWrite (m en : Nat) (s : State) : Host.Outcome State Fault Refusal :=
  act (.tallyEnWrite m en) s
    (fieldStore m A.TLY_CFG [(L.TLY_CFG_EN, en)])
/-- TALLY_SWREC_COMMIT (R397). -/
def execTallySwrecCommit (m payload sev code : Nat) (s : State) : Host.Outcome State Fault Refusal :=
  act (.tallySwrecCommit m payload sev code) s
    (wordsStore m A.TLY_SWREC_W0 [payload, sev * 2 ^ 24 + code])
/-- FN_LATCH_CLEAR (R399). -/
def execFnLatchClear (m : Nat) (s : State) : Host.Outcome State Fault Refusal :=
  act (.fnLatchClear m) s
    (fieldStore m A.TLY_FAULT [(L.TLY_FAULT_FN_LATCH, 1)])
/-- TLY_STAT_BEAD_READ (R400). -/
def execTlyStatBeadRead (m : Nat) (s : State) : Host.Outcome State Fault Refusal :=
  act (.tlyStatBeadRead m) s
    (busRead m A.TLY_STAT 4)
/-- KEPT_RING_CLEAR (R396). -/
def execKeptRingClear (m : Nat) (s : State) : Host.Outcome State Fault Refusal :=
  act (.keptRingClear m) s
    (fieldStore m A.TLY_KEEP_WR [(L.TLY_KEEP_WR_KCLR, 1)])
/-- DMA_GO (R448). -/
def execDmaGo (m ch : Nat) (s : State) : Host.Outcome State Fault Refusal :=
  act (.dmaGo m ch) s
    (fieldStore m (A.DMA_CCTL ch) [(L.DMA_CCTL_GO ch, 1)])
/-- DMA_STOP (R460). -/
def execDmaStop (m ch : Nat) (s : State) : Host.Outcome State Fault Refusal :=
  act (.dmaStop m ch) s
    (fieldStore m (A.DMA_CCTL ch) [(L.DMA_CCTL_STOP ch, 1)])
/-- DMA_QLVL_WRITE (R462). -/
def execDmaQlvlWrite (m q level : Nat) (s : State) : Host.Outcome State Fault Refusal :=
  act (.dmaQlvlWrite m q level) s
    (busWrite m (A.DMA_QLVL q) 4 level)
/-- DMA_QADJ_WRITE (R462). -/
def execDmaQadjWrite (m q delta : Nat) (s : State) : Host.Outcome State Fault Refusal :=
  act (.dmaQadjWrite m q delta) s
    (busWrite m (A.DMA_QADJ q) 4 delta)
/-- DMA_QCFG_COMMIT (R462). -/
def execDmaQcfgCommit (m q v : Nat) (s : State) : Host.Outcome State Fault Refusal :=
  act (.dmaQcfgCommit m q v) s
    (busWrite m (A.DMA_QCFG q) 4 v)
/-- DMA_CCFG_WRITE (R448). -/
def execDmaCcfgWrite (m ch v : Nat) (s : State) : Host.Outcome State Fault Refusal :=
  act (.dmaCcfgWrite m ch v) s
    (busWrite m (A.DMA_CCFG ch) 4 v)
/-- DMA_CDESC_WRITE (R448). -/
def execDmaCdescWrite (m ch addr : Nat) (s : State) : Host.Outcome State Fault Refusal :=
  act (.dmaCdescWrite m ch addr) s
    (busWrite m (A.DMA_CDESC ch) 4 addr)
/-- MON_RUN_SET (R476). -/
def execMonRunSet (m : Nat) (s : State) : Host.Outcome State Fault Refusal :=
  act (.monRunSet m) s
    (fieldStore m A.MON_CTL [(L.MON_CTL_RUN, 1)])
/-- MON_RUN_CLEAR (R481). -/
def execMonRunClear (m : Nat) (s : State) : Host.Outcome State Fault Refusal :=
  act (.monRunClear m) s
    (fieldStore m A.MON_CTL [(L.MON_CTL_RUN, 0)])
/-- MON_LP_WRITE (R481). -/
def execMonLpWrite (m lp : Nat) (s : State) : Host.Outcome State Fault Refusal :=
  act (.monLpWrite m lp) s
    (fieldStore m A.MON_CTL [(L.MON_CTL_LP, lp)])
/-- MON_TRIG_WRITE (R481). -/
def execMonTrigWrite (m v : Nat) (s : State) : Host.Outcome State Fault Refusal :=
  act (.monTrigWrite m v) s
    (busWrite m A.MON_TRIG 4 v)
/-- PWR_VSET_WRITE (R488). -/
def execPwrVsetWrite (m n bits : Nat) (s : State) : Host.Outcome State Fault Refusal :=
  act (.pwrVsetWrite m n bits) s
    (busWrite m (A.PWR_VSET n) 4 bits)
/-- PWR_VCLR_WRITE (R488). -/
def execPwrVclrWrite (m n bits : Nat) (s : State) : Host.Outcome State Fault Refusal :=
  act (.pwrVclrWrite m n bits) s
    (busWrite m (A.PWR_VCLR n) 4 bits)
/-- PWR_LCTL_GO (R495). -/
def execPwrLctlGo (m level : Nat) (s : State) : Host.Outcome State Fault Refusal :=
  act (.pwrLctlGo m level) s
    (fieldStore m A.PWR_LCTL [(L.PWR_LCTL_GO, 1), (L.PWR_LCTL_LEVEL, level)])
/-- PWR_SCTL_GO (R501). -/
def execPwrSctlGo (m st : Nat) (s : State) : Host.Outcome State Fault Refusal :=
  act (.pwrSctlGo m st) s
    (fieldStore m A.PWR_SCTL [(L.PWR_SCTL_GO, 1), (L.PWR_SCTL_STATE, st)])
/-- MBX_WDOG_ARM (R410). -/
def execMbxWdogArm (m n period : Nat) (s : State) : Host.Outcome State Fault Refusal :=
  act (.mbxWdogArm m n period) s
    (fieldStore m (A.MBX_WDOG n) [(L.MBX_WDOG_EN n, 1), (L.MBX_WDOG_PERIOD n, period)])
/-- MBX_WDOG_KICK (R410). -/
def execMbxWdogKick (m n : Nat) (s : State) : Host.Outcome State Fault Refusal :=
  act (.mbxWdogKick m n) s
    (fieldStore m (A.MBX_WDOG n) [(L.MBX_WDOG_KICK n, 1)])
/-- BOOT_READY_WRITE (R519). -/
def execBootReadyWrite (m : Nat) (s : State) : Host.Outcome State Fault Refusal :=
  act (.bootReadyWrite m) s
    (fieldStore m A.BOOT_CTL [(L.BOOT_CTL_READY, 1)])
/-- BOOT_FW_WRITE (R519). -/
def execBootFwWrite (m : Nat) (s : State) : Host.Outcome State Fault Refusal :=
  act (.bootFwWrite m) s
    (fieldStore m A.BOOT_CTL [(L.BOOT_CTL_FW, 1)])
/-- BOOT_DBG_GO (R521). -/
def execBootDbgGo (m offset : Nat) (s : State) : Host.Outcome State Fault Refusal :=
  act (.bootDbgGo m offset) s
    (fieldStore m A.BOOT_DBG [(L.BOOT_DBG_GO, 1), (L.BOOT_DBG_OFFSET, offset)])
/-- REGISTER_WRITE (R22). -/
def execRegisterWrite (m addr width v : Nat) (s : State) : Host.Outcome State Fault Refusal :=
  act (.registerWrite m addr width v) s
    (busWrite m addr width v)
/-- REGISTER_READ (R22). -/
def execRegisterRead (m addr width : Nat) (s : State) : Host.Outcome State Fault Refusal :=
  act (.registerRead m addr width) s
    (busRead m addr width)
/-- WIDE_READ_LOW_WORD (R59). -/
def execWideReadLowWord (m addr : Nat) (s : State) : Host.Outcome State Fault Refusal :=
  act (.wideReadLowWord m addr) s
    (busRead m addr 4)
/-- WIDE_WRITE_HELD (R59). -/
def execWideWriteHeld (m addr v : Nat) (s : State) : Host.Outcome State Fault Refusal :=
  act (.wideWriteHeld m addr v) s
    (busWrite m addr 4 v)
/-- MEMORY_WINDOW_WRITE (R63). -/
def execMemoryWindowWrite (m addr width v : Nat) (s : State) : Host.Outcome State Fault Refusal :=
  act (.memoryWindowWrite m addr width v) s
    (busWrite m addr width v)
/-- LOCK_BIT_SET (R25). -/
def execLockBitSet (m block : Nat) (s : State) : Host.Outcome State Fault Refusal :=
  act (.lockBitSet m block) s
    (busWrite m (lockAddr block) 4 1)
/-- HOSTVIOL_CLR (R62). -/
def execHostviolClr (m : Nat) (s : State) : Host.Outcome State Fault Refusal :=
  act (.hostviolClr m) s
    (fieldStore m A.SYS_HOSTVIOL [(L.SYS_HOSTVIOL_CLR, 1)])
/-- MBX_BIND_WRITE (R412). -/
def execMbxBindWrite (m c en sender recv : Nat) (s : State) : Host.Outcome State Fault Refusal :=
  act (.mbxBindWrite m c en sender recv) s
    (fieldStore m (A.MBX_BIND c) [(L.MBX_BIND_EN c, en), (L.MBX_BIND_SENDER c, sender), (L.MBX_BIND_RECV c, recv)])
/-- MBX_RING_COMMIT (R415). -/
def execMbxRingCommit (m c offset tag : Nat) (s : State) : Host.Outcome State Fault Refusal :=
  act (.mbxRingCommit m c offset tag) s
    (wordsStore m (A.MBX_RING_W0 c) [offset, tag])
/-- MBX_POP_READ (R417). -/
def execMbxPopRead (m c width : Nat) (s : State) : Host.Outcome State Fault Refusal :=
  act (.mbxPopRead m c width) s
    (busRead m (A.MBX_POP_W0 c) width)

end Sys2Proof.Machine
end

