-- ==== Sys2Proof/Machine/Boundary.lean ====
section
/-! DEFINITION. What happens at the boundaries of the clock grids: LANE blocks, symbols, half-subframes and frames
(R51–R55, R204, R226, R260, R367, R527). -/
namespace Sys2Proof.Machine

/-- The carrier NCO of one converter at a block boundary; a retune that takes effect breaks a trial on the path (R147,
R253). -/
def ncoBlockTrial (p : Nat) (d : Device) : Device :=
  let armed := (d.txc p).armed.isSome
  let d := ncoBlock p d
  if armed && (d.txc p).armed.isNone then trialBreak p 7 d else d

/-- The samples of the LANE block that ends at LANE sample `n` (R35, R36, R51; log 113): `rxs` are the quantiser codes of the
receive converters.  Settings are those that stand as the block ends; the Damper then judges what it has put out (R302). -/
def blockSamples (n : Nat) (rxs : List RxBlock) (d : Device) : Device :=
  let d := { d with clk := { d.clk with blockTo := min n (d.clk.blockFrom + 1024) } }
  let (us, d) := sumsBlock d
  let (out, d) := dpdsBlock us d
  let vs := out.map fun x => (x.1, x.2.1)
  let d := vs.foldl (fun d x => dmpCut x.1 x.2 d) (rxAll rxs d)
  let d := capBlock us vs d
  let d := d.txPaths.foldl (fun d p => txConvert p (d.damped p (tabGet vs [] p)) d) d
  dmpBlock vs (sumsHold us d)

/-- LANE block `b` begins at LANE sample `n`: armed changes apply and fades advance, the commits of chains where `chains`. -/
def blockStart (chains : Bool) (n b : Nat) (d : Device) : Device :=
  let d := laneBlockFrom n b d
  let d := centreBlock (rateChecks d (d.when chains (chanBlock b)))
  let d := ((rxBlock b d).each 64 rampBlock).each 64 ncoBlockTrial
  let d := xfBlock b (dpdBlock b d)
  burstRecheckAll (calNodes (dmpSettleAll d))

/-- LANE block `b` begins at LANE sample `n` with every change that is due (R51, R527). -/
def blockChanges (n b : Nat) (d : Device) : Device := blockStart true n b d

/-- The block in progress ends at LANE sample `n`, and block `b` begins. -/
def blockTurn (n b : Nat) (rxs : List RxBlock) (d : Device) : Device := blockChanges n b (blockSamples n rxs d)

/-- The number of the next LANE block: counted on from the strobe through the frame on the MDLL, on AUX3 until the frame marker
restarts it (R51, R527). -/
def Device.nextBlock (d : Device) : Nat := if d.on L.CLK_STAT_LANE_SRC then d.block + 1 else (d.block + 1) % d.blockLimit

/-- The quantiser codes of a block: none from the start of a sampler outage on (R112). -/
def Device.codesLive (d : Device) (rxs : List RxBlock) : List RxBlock :=
  if !d.clk.outage then rxs
  else if d.clk.outageFrom ≤ d.clk.blockFrom then []
  else rxs.map fun r => { r with codes := r.codes.take (4 * (d.clk.outageFrom - d.clk.blockFrom)) }

/-- A LANE block boundary; before the first tick none occurs (R527).  In a sampler outage the receive inputs are zeros (R112).  The
IFFTs due run first (log 137). -/
def laneBlock (rxs : List RxBlock) (m : List Host.Cell) (d : Device) : Device :=
  if d.tickRuns then blockTurn d.blockEnd d.nextBlock (d.codesLive rxs) (ifftDue m d) else d

/-- Block 0 has begun at the instant of now, as far as the samples of a tick can tell (log 113). -/
def Device.blockFresh (d : Device) : Bool := d.block == 0 && decide (d.laneNow < d.clk.blockFrom + 8)

/-- Symbols whose number is past, by the half of the 16-bit ring behind `cur`. -/
def symPast (cur key : Nat) : Bool := 1 ≤ (cur + 65536 - key) % 65536 && (cur + 65536 - key) % 65536 < 32768

/-- Marks of uplink symbols far from `cur` can no longer be asked for. -/
def symFar (cur key : Nat) : Bool :=
  16384 ≤ (cur + 65536 - key) % 65536 && (cur + 65536 - key) % 65536 < 49152

/-- What is kept of symbols once symbol `cur` of the carrier starts. -/
def symPrune (i cur : Nat) (d : Device) : Device :=
  let g := d.grd i
  d.setGrd i { g with
    syms := g.syms.filter fun x => !symPast cur x.1
    bad := g.bad.filter fun k => !symFar cur k }

/-- Symbol (fn, n) of carrier `i` starts (R51, R214, R226): the commit point of an uplink symbol is its start, fades and
ramps advance, and a symbol that overlaps an outage is invalid (R112), as is one while GRID or LANE is off (R42, R486).  A downlink symbol has gone through the IFFT by then; an
uplink symbol is taken note of, and those complete are computed (log 121).  The grid runs on a carrier that is not enabled too
(R214). -/
def gridSymbol (i fn n : Nat) (m : List Host.Cell) (d : Device) : Device :=
  let s := d.symOf i fn n
  let dead := d.clk.outage || d.asleep ≠ 0 || !d.domOn 6 || !d.domOn 7
  let d := d.set (L.BM_CSTAT_SYM i) s
  let d := if 4 ≤ i then rampCommit i s d else d
  let d := rampSymbols i s (xfSymbol i s d)
  let d := if (d.grd i).of.live && dead then symMark i (fn, n) d else d
  let d := if 4 ≤ i then ulStart (i - 4) fn n dead (ulDue (i - 4) m d) else dlWave i fn n m d
  rampsMovedAll (symPrune i s d)

/-- Half-subframe `h` begins (R204, R228, R229). -/
def halfSubframe (h : Nat) (d : Device) : Device :=
  let old := d
  let d := ofHalf h d
  let d := d.each 8 fun i d => if (old.grd i).of.live && !(d.grd i).of.live then rampDropCarrier i d else d
  let d := capCheck old (bmHalf h d)
  rampsMovedAll (ofShowCur 1 (ofShowCur 0 d))

/-- A frame begins (R100, R101, R260, R367, R527): FN_ADD takes effect, the pending air pattern applies, the sections of frames past
go, the alignment, `off` ps, is measured, an outage for a converter mode starts, and LANE block 0
begins on AUX3: a block that runs ends short there.  Commits for block 0 wait for the strobe of the same instant where it brings a converter
mode (R497, log 132).  Before the first tick no marker is sent. -/
def frameBegin (off : Int) (d : Device) : Device :=
  if !d.tickRuns then d
  else
    let ended := (d.frameNo + 1023) % 1024
    let d := (airFrame (tdPrune ended d)).when d.air.fdd fddRenew
    let d := alignMeasure off { d with fnAdd := d.get L.TIME_CFG_FN_ADD }
    let restart := (d.on L.CLK_STAT_LANE_SRC || d.modeChanges) && !d.blockFresh
    let chains := !d.modeComes
    let d := modeBoundary (d.when restart (blockSamples d.laneNow []))
    d.when restart (blockStart chains d.laneNow 0)

/-- ALIGNMENT_STROBE (R99, R527): at the end of a sampler outage the block on AUX3 ends, and block 0 begins at the strobe.  Where the
frame marker of the same instant has begun block 0 on AUX3 already, that boundary is the strobe's too (log 132). -/
def strobeBlock (d : Device) : Device :=
  let fresh := d.mstate == 3 && !d.blockFresh
  let d := d.when fresh (blockSamples d.laneNow [])
  let d := rateChecks d (levelMode (strobe d))
  d.when fresh (blockChanges d.laneNow 0)

/-- AUX_LOCK_SET (R102, R527): network time runs; at its first tick a frame begins, and LANE block 0 on AUX3. -/
def auxLockedBlock (d : Device) : Device :=
  let first := !d.tickRuns
  let d := auxLocked d
  d.when (first && d.tickRuns) fun d => blockChanges d.laneNow 0 { d with fnAdd := d.get L.TIME_CFG_FN_ADD }

/-! ## Meanings -/

/-- GRID_SYMBOL_BOUNDARY (R51, R226). -/
def execGridSymbolBoundary (i fn n : Nat) (s : State) : Host.Outcome State Fault Refusal :=
  act (.gridSymbolBoundary i fn n) s (gridSymbol i fn n)
/-- ALIGNMENT_STROBE (R98, R99, R527). -/
def execAlignmentStrobe (s : State) : Host.Outcome State Fault Refusal := actDev .alignmentStrobe s strobeBlock
/-- AUX_LOCK_SET (R102, R527). -/
def execAuxLockSet (s : State) : Host.Outcome State Fault Refusal := actDev .auxLockSet s auxLockedBlock
/-- HALF_SUBFRAME_BOUNDARY (R204). -/
def execHalfSubframeBoundary (half : Nat) (s : State) : Host.Outcome State Fault Refusal :=
  actDev (.halfSubframeBoundary half) s (halfSubframe half)
/-- FRAME_BOUNDARY (R367). -/
def execFrameBoundary (alignOff : Int) (s : State) : Host.Outcome State Fault Refusal :=
  actDev (.frameBoundary alignOff) s (frameBegin alignOff)

end Sys2Proof.Machine
end

