-- ==== Sys2Proof/Machine/Smb.lean ====
section
/-! DEFINITION. The SMBus slave: its address matcher, commands and alert (R421–R423, R519). -/
namespace Sys2Proof.Machine

/-- The slave takes commands: FABRIC is ready and neither held in reset nor asleep beyond S1 (R423, R519). -/
def Device.smbReady (d : Device) : Bool := d.boot.fabricReady && !d.coldHeld && d.asleep < 2

/-- The address matches (R423): a wake event; SCL is held low until FABRIC is ready.  In reset no address is acknowledged
(R510). -/
def smbMatch (d : Device) : Device :=
  if d.coldHeld then d
  else
    let ready := d.smbReady
    wakeSource 0 0 1 { d with smbStretch := !ready }

/-- 10 ms after the address (R423): where FABRIC is still not ready, SCL is released and the command not acknowledged. -/
def smbTimeout (d : Device) : Device := { d with smbStretch := false }

/-- A command reaches the slave once it is ready; else it is not acknowledged. -/
def smbCommand (f : Device → Device) (d : Device) : Device :=
  if d.smbReady then f { d with smbStretch := false } else d

/-- What the SMBus host reads. -/
def smbReply (v : Nat) (d : Device) : Device := { d with reply := some ⟨17, d.smbAddr, v, false⟩ }

/-- One word at ADDR; ADDR advances unless the access ends in a bus error, which leaves the command not acknowledged (R421,
R493). -/
def smbAccess (write : Bool) (v : Nat) (mem : List Host.Cell) (d : Device) : Device :=
  let a := d.smbAddr
  let (r, d) := access ⟨17, a, 4, write, v, domainOf a⟩ mem d
  if r = 2 then d else { d with smbAddr := (a + 4) % 2 ^ 32 }

/-- RING (R415, R421): a channel number that no channel has is unbound. -/
def smbRing (c tag offset : Nat) (d : Device) : Device :=
  if 64 ≤ c then mbxRefuse 17 c 1 offset L.MBX_EVENT_UNBOUND d
  else
    let d := mbxRing 17 c offset tag d
    if (tabGet d.ringRes (0, 0) 17).1 = 0 && d.receiver c < 16 then mbxWake d else d

/-- The lowest-numbered channel that waits for the SMBus host. -/
def Device.smbHead (d : Device) : Option Nat :=
  (List.range 64).find? fun c => d.on (L.MBX_BIND_EN c) && d.receiver c == 17 && !(d.chan' c).isEmpty

/-- POP (R421): channel, TAG and OFFSET of the head, which leaves at the STOP of a complete read. -/
def smbPop (complete : Bool) (d : Device) : Device :=
  match d.smbHead with
  | none => smbReply 0xFF d
  | some c =>
    let (offset, tag) := d.popWords c
    let d := smbReply (c + bitsOf tag 0 8 * 2 ^ 8 + offset * 2 ^ 16) d
    d.when complete (mbxPop 17 c)

/-- STATUS (R421): the result of the master's last ring. -/
def smbStatus (d : Device) : Device := smbReply (tabGet d.ringRes (0, 0) 17).1 d

/-- A won read of the Alert Response Address (R422). -/
def smbAlertTaken (d : Device) : Device :=
  if d.smbAlert then smbReply (d.get L.MBX_SMB_ADDR) { d with smbAlert := false } else d

/-! ## Meanings -/

/-- SMB_ADDRESS_MATCH (R423). -/
def execSmbAddressMatch (s : State) : Host.Outcome State Fault Refusal := actDev .smbAddressMatch s smbMatch
/-- SMB_STRETCH_TIMEOUT (R423). -/
def execSmbStretchTimeout (s : State) : Host.Outcome State Fault Refusal :=
  actDev .smbStretchTimeout s fun d => if d.smbReady then d else smbTimeout d
/-- SMB_ADDR (R421). -/
def execSmbAddr (a : Nat) (s : State) : Host.Outcome State Fault Refusal :=
  actDev (.smbAddr a) s (smbCommand fun d => { d with smbAddr := a })
/-- SMB_READ (R421). -/
def execSmbRead (s : State) : Host.Outcome State Fault Refusal :=
  act .smbRead s fun mem => smbCommand (smbAccess false 0 mem)
/-- SMB_WRITE (R421). -/
def execSmbWrite (v : Nat) (s : State) : Host.Outcome State Fault Refusal :=
  act (.smbWrite v) s fun mem => smbCommand (smbAccess true v mem)
/-- SMB_RING (R415, R421). -/
def execSmbRing (c tag offset : Nat) (s : State) : Host.Outcome State Fault Refusal :=
  actDev (.smbRing c tag offset) s (smbCommand (smbRing c tag offset))
/-- SMB_POP (R417, R421). -/
def execSmbPop (complete : Bool) (s : State) : Host.Outcome State Fault Refusal :=
  actDev (.smbPop complete) s (smbCommand (smbPop complete))
/-- SMB_STATUS (R421). -/
def execSmbStatus (s : State) : Host.Outcome State Fault Refusal := actDev .smbStatus s (smbCommand smbStatus)
/-- SMB_ALERT_RESPONSE (R422). -/
def execSmbAlertResponse (s : State) : Host.Outcome State Fault Refusal := actDev .smbAlertResponse s smbAlertTaken

end Sys2Proof.Machine
end

