-- ==== Sys2Proof/Machine/Ikirik.lean ====
section
/-! DEFINITION. Ikirik commands: the block, routing, order, checks, records and replies (R424–R432, R517, R518). -/
namespace Sys2Proof.Machine

/-! ## The block (R424, R425) -/

/-- STATUS values. -/
def stRUNNING : Nat := 1
def stOK : Nat := 2
def stBADOP : Nat := 3
def stBADLEN : Nat := 4
def stBADFIELD : Nat := 5
def stSTATE : Nat := 6
def stREFUSED : Nat := 7
def stBUSY : Nat := 8
def stDENIED : Nat := 9
def stINTERRUPTED : Nat := 10
def stAUTH : Nat := 11
def stBUS : Nat := 12

/-- Bytes of shared SRAM. -/
def sramSize : Nat := 0x02000000

/-- A word of shared SRAM at a byte offset. -/
def ramWord (mem : List Host.Cell) (d : Device) (off : Nat) : Nat := d.peekNum mem (sramBase + off) 4

/-- Payload word `k` of a command. -/
def Cmd.arg (c : Cmd) (mem : List Host.Cell) (d : Device) (k : Nat) : Nat := ramWord mem d (c.off + 16 + 4 * k)

/-- The low and high mask words at payload word `k` as one mask. -/
def Cmd.mask (c : Cmd) (mem : List Host.Cell) (d : Device) (k : Nat) : Nat := c.arg mem d k + c.arg mem d (k + 1) * 2 ^ 32

/-- Words of a number, low word first. -/
def lowWords : Nat → Nat → List Nat
  | 0, _ => []
  | k + 1, n => n % 2 ^ 32 :: lowWords k (n / 2 ^ 32)

/-- The words of a result written from 0x10 on. -/
def putWords (off : Nat) : List Nat → Device → Device
  | [], d => d
  | w :: ws, d => putWords (off + 4) ws (d.storeWord (sramBase + off) w)

/-- STATUS, DETAIL and RLEN written into a block. -/
def putHeader (off status detail rlen : Nat) (d : Device) : Device :=
  d.storeWord (sramBase + off + 8) (status * 2 ^ 24 + detail % 256 * 2 ^ 16 + rlen)

/-- How a command ends: status, DETAIL, result words, what it still waits for, and the device. -/
structure Ans where
  status : Nat
  detail : Nat
  words : List Nat
  wait : Option (Nat × List Nat)
  dev : Device

/-- OK with a result. -/
def Ans.ok (words : List Nat) (d : Device) : Ans := ⟨stOK, 0, words, none, d⟩
/-- A final status that changes nothing. -/
def Ans.fail (status detail : Nat) (d : Device) : Ans := ⟨status, detail, [], none, d⟩

/-! ## What each opcode takes (R433–R446) -/

/-- The named bits of a register's layout. -/
def imageBits (a : Nat) : Nat :=
  match regAt a with
  | none => 0
  | some (r, _, _) => r.fields.foldl (fun n f => n ||| (2 ^ (f.hi + 1) - 2 ^ f.lo)) 0

/-- The image of a register with GO in bit 31, which must be 0. -/
def goImage (a : Nat) : Nat := imageBits a % 2 ^ 31
/-- With ABORT in bit 30 beside it. -/
def abortImage (a : Nat) : Nat := imageBits a % 2 ^ 30

/-- Any 32-bit word. -/
def anyWord : Nat := 2 ^ 32 - 1

/-- LEN, RMAX and the defined bits of each payload word of an opcode; counts come from the payload. -/
def opForm (op : Nat) (arg : Nat → Nat) : Option (Nat × Nat × List Nat) :=
  let f := anyWord
  match op with
  | 0x0100 => some (0, 16, [])
  | 0x0101 => some (0, 12, [])
  | 0x0102 => some (4, 0, [f])
  | 0x0200 => some (12, 8, [f, f, 1])
  | 0x0201 => some (12, 8, [f, f, 0x00FF00FF])
  | 0x0202 => some (8, 8, [f, f])
  | 0x0203 => some (20, 0, [f, f, imageBits (A.PATH_FE_PA 0), imageBits (A.PATH_FE_TR 0), imageBits (A.PATH_FE_LNA 0)])
  | 0x0204 => some (12, 0, [f, f, imageBits (A.PATH_CFG 0) % 2 ^ 31])
  | 0x0205 => some (72, 0, 0x80FFFF3F :: imageBits (A.PATH_MM 0) :: List.replicate 16 f)
  | 0x0206 => some (144, 0, goImage A.AIR_CFG :: List.replicate 35 f)
  | 0x0207 => some (12, 0, [3, imageBits (A.COEX_CFG 0), imageBits (A.COEX_TIME 0)])
  | 0x0208 => some (12, 0, [0x777, imageBits (A.TUN_CFG 0), f])
  | 0x0209 => some (4, 24, [0x3F])
  | 0x0300 => some (32, 12, [f, f, f, 0xFFF0FFFF, f, 0xFFFFFFC0, f, f])
  | 0x0301 => some (4, 0, [0xFC00001F])
  | 0x0302 => some (4, 24, [0xF0000000])
  | 0x0400 => some (12, 4, [0xFC0001FF, 0x1FF, f])
  | 0x0401 => some (8, 0, [0xF8000000, goImage (A.BM_XF_REQ 0)])
  | 0x0402 => some (12, 8, [f, f, 0x1C0FF])
  | 0x0403 => some (4, 88, [1])
  | 0x0500 => some (12, 8, [f, f, 3])
  | 0x0501 => some (264, 0, 0x33F :: List.replicate 65 f)
  | 0x0502 => some (8, 0, [0x3F, goImage (A.DPD_XF_REQ 0)])
  | 0x0503 => some (16, 0, [0x8000003F, abortImage (A.DPD_TRIAL 0), imageBits (A.DPD_TRIAL_LIM 0), imageBits (A.DPD_MASK 0)])
  | 0x0504 => some (16, 0, [f, f, 0x8000FFFF, f])
  | 0x0505 => some (16, 0, [0x3F, imageBits (A.DPD_PCFG 0), imageBits (A.DPD_ALIGN 0), imageBits (A.DPD_OCFG 0)])
  | 0x0506 => some (4, 20, [0x3F])
  | 0x0600 => some (4, 4, [abortImage A.CAL_RUN])
  | 0x0601 => some (8, 4, [goImage A.CAL_APPLY, imageBits A.CAL_APPLY_GRP])
  | 0x0602 => some (16, 0, [imageBits A.CAL_CFG, imageBits A.CAL_PRE, imageBits A.CAL_ALIGN, imageBits A.CAL_TXREF])
  | 0x0603 => some (256, 0, List.replicate 64 f)
  | 0x0604 => some (0, 12, [])
  | 0x0700 => some (0, 24, [])
  | 0x0701 => some (8, 0, [0x7FF, 0xFFFF])
  | 0x0702 => some (12, 0, [f, f, 0xFFFF])
  | 0x0703 => some (8, 0, [0xFFFFFF, 0x3FF])
  | 0x0704 => some (28, 0, [7, imageBits (A.TP_CFG 0), f, f, 0xFFFF, f, f])
  | 0x0705 => some (4, 100, [0xF])
  | 0x0706 => some (8, 8, [0x1F, 0xFFFF])
  | 0x0800 =>
    let n := bitsOf (arg 0) 8 6
    some (4 + 16 * (if n = 0 then 64 else n), 0, [0x3F3F])
  | 0x0801 => some (8, 0, [3, imageBits A.MON_TRIG])
  | 0x0802 =>
    let n := bitsOf (arg 0) 8 6
    some (4, 16 * (if n = 0 then 64 else n), [0x3F3F])
  | 0x0803 => some (12, 0, [3, f, f])
  | 0x0900 => some (4, 4, [7])
  | 0x0901 => some (8, 0, [3, 0x7F])
  | 0x0902 => some (12, 8, [f, f, 1])
  | 0x0903 => some (0, 16, [])
  | 0x0A00 => some (12, 0, [imageBits A.TLY_CFG, imageBits A.TLY_RING, imageBits A.TLY_LVL_THR])
  | 0x0A01 => some (4, 16 + 16 * min (arg 0) 511, [f])
  | 0x0A02 =>
    let n := bitsOf (arg 0) 8 8
    some (4, 16 * (if n = 0 then 256 else n), [0xFFFF])
  | 0x0A03 => some (0, 16, [])
  | 0x0A04 => some (8, 0, [f, 0x07000FFF])
  | 0x0B00 => some (4, 2052, [7])
  | 0x0B01 => some (8, 0, [f, f])
  | 0x0B02 => some (8, 0, [f, f])
  | 0x0C00 => some (0, 16, [])
  | 0x0C01 => some (8, 4, [f, f])
  | 0x0C02 => some (4, 0, [1])
  | 0x0C03 => some (4, 0, [f])
  | _ => none

/-- The opcode exists. -/
def opKnown (op : Nat) : Bool := (opForm op fun _ => 0).isSome

/-- The owner of a path's settings (R427). -/
def pathOwner (p : Nat) : Nat := if p < 22 then 1 else if p < 44 then 2 else 3

/-- The Beads that own paths of a mask, among some Beads, each with its first path and the one after its last (R427). -/
def maskOwners (mask : Nat) (ranges : List (Nat × Nat × Nat)) : List Nat :=
  (ranges.filter fun r => (List.range 64).any fun p => r.2.1 ≤ p && p < r.2.2 && bitsOf mask p 1 == 1).map (·.1)

/-- The owners of the PATH family. -/
def pathRanges : List (Nat × Nat × Nat) := [(1, 0, 22), (2, 22, 44), (3, 44, 64)]
/-- The owners of the DPD family. -/
def dpdRanges : List (Nat × Nat × Nat) := (List.range 8).map fun k => (4 + k, 8 * k, 8 * k + 8)

/-! ## Popping (R426, R428, R431) -/

/-- The boot stage: 0 ROM, 1 FIRMWARE, 2 READY. -/
def Device.stage (d : Device) : Nat := d.get L.BOOT_STAT_STAGE

/-- Bead `n` serves commands: it runs, its domain is on (R486), and in the ROM stage it is Bead 0. -/
def Device.beadServes (d : Device) (n : Nat) : Bool :=
  d.boot.fabricReady && !d.coldHeld && d.asleep == 0 && d.get (L.MBX_BSTAT_STATE n) != 2 && d.get (L.MBX_BSTAT_STATE n) != 3
    && d.domOn (8 + n) && (n == 0 || d.stage != 0)

/-- The channel Bead `n` pops next: the lowest non-empty one without a command in progress. -/
def Device.nextChan (d : Device) (n : Nat) : Option Nat :=
  if !d.beadServes n then none
  else (List.range (if d.stage = 0 then 4 else 64)).find? fun c =>
    d.on (L.MBX_BIND_EN c) && d.receiver c == n && !(d.chan' c).isEmpty && !d.cmdWaits.any fun w => w.cmd.chan == c

/-- The command at the head of Bead `n`'s next channel.  A doorbell of the management tunnel names a ring slot, with the block
at byte 64 (R359). -/
def headCmd (n : Nat) (mem : List Host.Cell) (d : Device) : Option Cmd :=
  match d.nextChan n with
  | none => none
  | some c =>
    match d.chan' c with
    | [] => none
    | b :: _ =>
      let sender := d.get (L.MBX_BIND_SENDER c)
      let off := b.offset + if sender = 19 then 64 else 0
      let w := ramWord mem d off
      some ⟨c, n, sender, b.offset, b.tag, off, ramWord mem d (off + 4), w / 2 ^ 16, w % 2 ^ 16⟩

/-- The paths a command of the PATH, DPD or CAL family names. -/
def Cmd.paths (c : Cmd) (mem : List Host.Cell) (d : Device) : Nat :=
  if 0x0200 ≤ c.op && c.op ≤ 0x0204 then c.mask mem d 0
  else if c.op = 0x0500 || c.op = 0x0504 then c.mask mem d 0
  else if c.op = 0x0205 || c.op = 0x0209 || c.op / 256 = 5 then 2 ^ bitsOf (c.arg mem d 0) 0 6
  else if c.op = 0x0600 then 2 ^ bitsOf (c.arg mem d 0) 8 6
  else if c.op = 0x0601 then 2 ^ bitsOf (c.arg mem d 0) 16 6
  else 0

/-- The Beads that carry a command out (R427). -/
def Cmd.owners (c : Cmd) (mem : List Host.Cell) (d : Device) : List Nat :=
  let mask := c.paths mem d
  match c.op / 256 with
  | 2 => if mask = 0 then [1] else maskOwners mask pathRanges
  | 3 => [1]
  | 4 => [1]
  | 5 => maskOwners mask dpdRanges
  | 6 => if mask = 0 || (c.op = 0x0600 && 4 ≤ bitsOf (c.arg mem d 0) L.CAL_RUN_KIND.lo L.CAL_RUN_KIND.w) then [1]
    else maskOwners mask pathRanges
  | 7 => [14]
  | 8 => [15]
  | 9 => [15]
  | _ => [0]

/-- Another command in progress holds an object of this one (R428): 1 and 2 paths, 3 the air pattern, 4 the level, 5 the
crystal measurement, 7 the paths of its family, or the family where none names a path, 8 the weights of a carrier, 9 the OTP, 10 the staged bundle and the flash. -/
def Cmd.held (c : Cmd) (mem : List Host.Cell) (d : Device) : Bool :=
  d.cmdWaits.any fun w =>
    match w.kind with
    | 1 => (c.op / 256 == 2 || c.op / 256 == 6) && (c.paths mem d &&& w.args.headD 0) != 0
    | 2 => (c.op / 256 == 2 || c.op / 256 == 6) && (c.paths mem d &&& w.args.headD 0) != 0
    | 3 => c.op == 0x0206
    | 4 => c.op == 0x0900
    | 5 => c.op == 0x0706
    | 7 =>
      let mine := c.paths mem d
      let other := w.cmd.paths mem d
      c.op / 256 == w.cmd.op / 256 && ((mine == 0 && other == 0) || (mine &&& other) != 0)
    | 8 => c.op / 256 == 4 && bitsOf (c.arg mem d 0) 27 5 == bitsOf (w.cmd.arg mem d 0) 27 5
    | 9 => c.op == 0x0B01 || c.op == 0x0B02
    | 10 => c.op / 256 == 0x0C && c.op != 0x0C00
    | _ => false

/-! ## Checks -/

/-- A payload word sets a bit its form does not define: the first such word. -/
def badField (arg : Nat → Nat) (k : Nat) : List Nat → Option Nat
  | [] => none
  | m :: ms => if arg k &&& (anyWord ^^^ m) = 0 then badField arg (k + 1) ms else some k

/-- The opcode is one the boot ROM answers (R431); with BOOT_SRC 1 it takes no bundle (R515). -/
def Device.romTakes (d : Device) (op : Nat) : Bool :=
  op == 0x0100 || op == 0x0C00 || ((op == 0x0C01 || op == 0x0C03) && d.bootSrc != 1)

/-- The opcodes R432 keeps from the management tunnel without REMOTE_MAINT. -/
def opLocal (op : Nat) : Bool := [0x0102, 0x0B01, 0x0B02, 0x0C01, 0x0C02, 0x0C03].contains op

/-- The first check that fails before an opcode's own (R424, R425, R431, R432): opcode, permission, length, payload. -/
def Cmd.check (c : Cmd) (mem : List Host.Cell) (d : Device) : Option (Nat × Nat) :=
  if d.stage = 0 && !d.romTakes c.op then some (stBADOP, 1)
  else match opForm c.op (c.arg mem d) with
  | none => some (stBADOP, 0)
  | some (len, rmax, masks) =>
    if c.sender = 19 && opLocal c.op && bitsOf (d.get L.BOOT_OPT_OPT) 29 1 = 0 then some (stDENIED, c.sender)
    else if c.len ≠ len || 8192 < 16 + max len rmax || sramSize < c.off + 16 + max len rmax then some (stBADLEN, 0)
    else if d.eccBad.any fun b => sramBase + c.off < b + 8 && b < sramBase + c.off + 16 + len then some (stBUS, 0)
    else (badField (c.arg mem d) 0 masks).map fun k => (stBADFIELD, k)

/-! ## Replies (R426, R429) -/

/-- The reply: the front Bead rings its lowest channel to the sender, or sends the block back as MGT_UL and frees the slot. -/
def cmdReply (c : Cmd) (rlen : Nat) (mem : List Host.Cell) (d : Device) : Device :=
  if c.sender = 19 then
    let tag := ramWord mem d c.slot / 2 ^ 16
    let d := busWrite c.front A.GST_MTX_ADDR 4 (c.off / 64) mem d
    let d := fieldStore c.front A.GST_MTX [(L.GST_MTX_GO, 1), (L.GST_MTX_LEN, 16 + rlen), (L.GST_MTX_TAG, tag)] mem d
    let n := d.get L.GST_MRING_NSLOT
    if n = 0 then d else fieldStore c.front A.GST_MPTR [(L.GST_MPTR_RD, (d.get L.GST_MPTR_RD + 1) % n)] mem d
  else
    match (List.range 64).find? fun k =>
      d.on (L.MBX_BIND_EN k) && d.get (L.MBX_BIND_SENDER k) == c.front && d.receiver k == c.sender with
    | some k => busWrite c.front (A.MBX_RING_W1 k) 4 c.tag mem (busWrite c.front (A.MBX_RING_W0 k) 4 c.slot mem d)
    | none => d

/-- The final status: result, header, record and reply. -/
def cmdFinish (c : Cmd) (status detail : Nat) (words : List Nat) (mem : List Host.Cell) (d : Device) : Device :=
  let rlen := 4 * words.length
  let d := putHeader c.off status detail rlen (putWords (c.off + 16) words d)
  cmdReply c rlen mem { d with cmdRecs := tabPut d.cmdRecs c.chan ⟨c.seq, c.off, status, detail, rlen⟩ }

/-- An access of one of these Beads still waits for a domain. -/
def Device.beadStalls (d : Device) (ns : List Nat) : Bool := d.stalled.any fun x => ns.contains x.master

/-- A command met domains that are not on: it has changed nothing (R425), its STALL votes stand, and it runs once they are
on (R491). -/
def cmdHold (c : Cmd) (owners : List Nat) (xs : List StalledAccess) (d : Device) : Device :=
  let d := xs.foldl (fun d x =>
    match domainAccess x.master x.addr d with
    | (1, e) => e
    | _ => d) d
  { d with cmdWaits := d.cmdWaits ++ [⟨c, 7, owners, xs.map (·.addr), 0, 0, []⟩] }

/-- A command has run on `d`: it is held by a domain, it is final, or it waits for the device or for its own accesses. -/
def cmdEnd (c : Cmd) (a : Ans) (mem : List Host.Cell) (d : Device) : Device :=
  let owners := c.owners mem d
  let fresh := a.dev.stalled.filter fun x => owners.contains x.master && !d.stalled.contains x
  if !fresh.isEmpty then cmdHold c owners fresh d
  else match a.wait with
  | some (kind, args) =>
    { a.dev with cmdWaits := a.dev.cmdWaits ++ [⟨c, kind, owners, args, a.status, a.detail, a.words⟩] }
  | none =>
    if a.dev.beadStalls owners then
      { a.dev with cmdWaits := a.dev.cmdWaits ++ [⟨c, 0, owners, [], a.status, a.detail, a.words⟩] }
    else cmdFinish c a.status a.detail a.words mem a.dev

/-- A popped command (R425, R429): answered from the record, refused by a check, or run. -/
def cmdTake (c : Cmd) (run : Cmd → List Host.Cell → Device → Ans) (mem : List Host.Cell) (d : Device) : Device :=
  let fresh := fun (d : Device) =>
    match c.check mem d with
    | some (status, detail) => cmdFinish c status detail [] mem d
    | none =>
      let d := putHeader c.off stRUNNING 0 0 d
      cmdEnd c (run c mem d) mem d
  match tabGet? d.cmdRecs c.chan with
  | none => fresh d
  | some r =>
    if r.seq = c.seq && r.off = c.off then
      cmdReply c r.rlen mem (putHeader c.off r.status (if r.status = stOK then 1 else r.detail) r.rlen d)
    else fresh d

/-- Blocks with an opcode that does not exist are answered as they come to the head (R425). -/
def cmdUnknown : Nat → List Host.Cell → Device → Device
  | 0, _, d => d
  | k + 1, mem, d =>
    match (List.range 16).findSome? fun n => (headCmd n mem d).filter fun c => !opKnown c.op with
    | none => d
    | some c => cmdUnknown k mem (cmdTake c (fun _ _ d => Ans.fail stBADOP 0 d) mem (mbxPop c.front c.chan d))

/-! ## Reading registers for a result -/

/-- Registers read in order by Bead `n`. -/
def beadRead (n : Nat) : List Nat → Device → List Nat × Device
  | [], d => ([], d)
  | a :: as, d =>
    let (v, d) := regLoad n a d
    let (vs, d) := beadRead n as d
    (v :: vs, d)

/-- A query: its registers once every domain is on; a domain that is not sets its STALL vote and the query waits (R491). -/
def cmdQuery (n : Nat) (as : List Nat) (d : Device) : Ans :=
  match as.find? fun a => (domainAccess n a d).1 != 0 with
  | none =>
    let (vs, d) := beadRead n as d
    Ans.ok vs d
  | some a =>
    let (r, d) := domainAccess n a d
    if r = 2 then Ans.fail stBUS 0 d else ⟨stOK, 0, [], some (6, n :: as), d⟩

/-! ## Applying a mask and watching an event -/

/-- The outcome of a mask command: its first status other than OK, the paths applied, the device. -/
structure Masked where
  status : Nat
  detail : Nat
  applied : Nat
  dev : Device

/-- One owner after another applies its own paths one at a time (R427): a path on which a precondition fails stops its owner
with STATE 1; `f` answers 0, or the DETAIL of a refusal. -/
def applyMask (ranges : List (Nat × Nat × Nat)) (mask : Nat) (bad : Nat → Device → Bool)
    (f : Nat → Nat → Device → Nat × Device) (d : Device) : Masked :=
  ranges.foldl (fun m r =>
    let ps := (List.range 64).filter fun p => r.2.1 ≤ p && p < r.2.2 && bitsOf mask p 1 == 1
    if ps.any fun p => bad p m.dev then
      { m with
        status := if m.status = stOK then stSTATE else m.status
        detail := if m.status = stOK then 1 else m.detail }
    else
      ps.foldl (fun m p =>
        let (e, d) := f r.1 p m.dev
        if e = 0 then { m with applied := m.applied + 2 ^ p, dev := d }
        else if m.status = stOK then { m with status := stREFUSED, detail := e, dev := d }
        else { m with dev := d }) m) ⟨stOK, 0, 0, d⟩

/-- The mask of paths applied as the result. -/
def Masked.words (m : Masked) : List Nat := lowWords 2 m.applied
/-- With the mask as its result. -/
def Masked.ans (m : Masked) : Ans := ⟨m.status, m.detail, m.words, none, m.dev⟩
/-- Without a result. -/
def Masked.bare (m : Masked) : Ans := ⟨m.status, m.detail, [], none, m.dev⟩

/-- Whether an action raises an event bit that may stand already. -/
def raises (l : Loc) (f : Device → Device) (d : Device) : Bool × Device :=
  let had := d.on l
  let d := f (d.set l 0)
  (d.on l, if had then d.set l 1 else d)

/-- The same, with whether the request was applied late (R425): it newly raises `late`. -/
def raisesLate (err late : Loc) (f : Device → Device) (d : Device) : Bool × Bool × Device :=
  let had := d.on late
  let (e, d) := raises err f (d.set late 0)
  (e, d.on late, if had then d.set late 1 else d)

/-- OK with the DETAIL of R425: 2 where the change was applied late. -/
def Ans.okLate (late : Bool) (words : List Nat) (d : Device) : Ans := ⟨stOK, if late then 2 else 0, words, none, d⟩

/-- A list of registers written in order by Bead `n`. -/
def beadWrite (n : Nat) (xs : List (Nat × Nat)) (mem : List Host.Cell) (d : Device) : Device :=
  xs.foldl (fun d x => busWrite n x.1 4 x.2 mem d) d

/-! ## Commands that waited -/

/-- Paths of a mask. -/
def maskPaths (mask : Nat) : List Nat := (List.range 64).filter fun p => bitsOf mask p 1 == 1

/-- The last writes of PATH_ENABLE with EN = 0 (R434). -/
def pathsOff (mask : Nat) (mem : List Host.Cell) (d : Device) : Device :=
  (maskPaths mask).foldl (fun d p =>
    let o := pathOwner p
    let d := fieldStore o (A.TXDAC_MUTE p) [(L.TXDAC_MUTE_MUTE p, 1)] mem d
    let d := fieldStore o (A.TXDAC_CFG p) [(L.TXDAC_CFG_EN p, 0)] mem d
    fieldStore o (A.RXADC_CFG p) [(L.RXADC_CFG_EN p, 0)] mem d) d

/-- How a level change ended, or that it has not (R443, R496). -/
def levelAns (d : Device) : Ans :=
  if d.on L.PWR_LSTAT_CHG then ⟨stOK, 0, [], some (4, []), d⟩
  else match d.get L.PWR_LSTAT_LERR with
    | 0 => Ans.ok [0] d
    | e =>
      let detail := if e = 2 then d.get L.PWR_LRES_DETAIL else 1
      ⟨stREFUSED, detail, [d.get L.PWR_LRES_CARRIER * 2 ^ 28 + d.get L.PWR_LRES_DIR * 2 ^ 27], none, { d with levelDetail := detail }⟩

/-- The STALL votes of a command's domains end, but where another access waits for one. -/
def unstall (as : List Nat) (d : Device) : Device :=
  as.foldl (fun d a => if d.stalled.any fun y => domainOf y.addr == domainOf a then d else unvoteOne (domainOf a) 21 d) d

/-- BEAM_LOAD as it copies (R438): from `done` groups the next one of `ng`, in words of 64 bits as Bead 1, while the bank is
free; a bank that became busy ends it with the groups written. -/
def beamCopy (w : CmdWait) (mem : List Host.Cell) (d : Device) : Ans :=
  let arg := fun (k : Nat) => w.args.getD k 0
  let n := arg 0
  let ng := arg 1
  if ng ≤ n then Ans.ok [ng] d
  else if d.xfBusy (.beam (arg 2)) (arg 3) then ⟨stREFUSED, 2, [n], none, d⟩
  else
    let at' := n * 0x2000
    let d := (List.range 0x400).foldl (fun d q =>
      busWrite 1 (arg 4 + at' + 8 * q) 8 (d.peekNum mem (arg 5 + at' + 8 * q) 8) mem d) d
    if ng ≤ n + 1 then Ans.ok [ng] d else ⟨stOK, 0, [], some (8, (n + 1) :: w.args.tail), d⟩

/-! ## Burning and writing flash (R446, R522) -/

/-- One OTP word burnt: burnt bits stay; where the array does not take what is burnt, which bits it takes is free. -/
def burnWord (i v : Nat) (d : Device) : Device :=
  if d.otpBurns then { d with boot := { d.boot with otp := tabPut d.boot.otp i (d.otpWord i ||| v) } }
  else
    let (f, d) := d.draw
    { d with boot := { d.boot with otp := tabPut d.boot.otp i (d.otpWord i ||| (v &&& f)) } }

/-- The end of a burn or revocation. -/
def burnEnd (ok : Bool) (d : Device) : Ans :=
  if ok then Ans.ok [] (bootEvent L.BOOT_EVENT_BURN_DONE [] d)
  else Ans.fail stREFUSED 1 (bootEvent L.BOOT_EVENT_BURN_FAIL [] d)

/-- A burn in progress (R522): generation, words burnt so far, the 510 words of the plan's body and the check word.  The next word in
ascending offset; after the check word, at 0x7FC with REV left 0, the generation is read back. -/
def burnStep (w : CmdWait) (d : Device) : Ans :=
  let g := w.args.getD 0 0
  let k := w.args.getD 1 0
  let ws := w.args.drop 2
  let d := burnWord (g * 512 + if k < 510 then k else 511) (ws.getD k 0) d
  if k < 510 then ⟨stOK, 0, [], some (9, g :: (k + 1) :: ws), d⟩
  else burnEnd (crc32 (d.genBytes g 510) == ws.getD 510 0 && d.genWord g 0x7FC == ws.getD 510 0) d

/-- Bytes written to flash from an offset. -/
def flashPut (a : Nat) : List Byte → Device → Device
  | [], d => d
  | b :: bs, d => flashPut (a + 1) bs { d with boot := { d.boot with flash := tabPut d.boot.flash a b } }

/-- `n` free bytes (log 7). -/
def drawBytes : Nat → Device → List Byte × Device
  | 0, d => ([], d)
  | n + 1, d =>
    let (v, d) := d.draw
    let (bs, d) := drawBytes n d
    (BitVec.ofNat 8 v :: bs, d)

/-- A flash write in progress (R446): slot, bytes written so far, LENGTH, the staged bundle's offset, and whether a part was not
taken.  The next 4 KiB; a flash that does not take them is left with bytes nothing fixes, and the read-back at the end fails. -/
def flashStep (w : CmdWait) (mem : List Host.Cell) (d : Device) : Ans :=
  let arg := fun (k : Nat) => w.args.getD k 0
  let at' := arg 1
  let len := arg 2
  let n := min 4096 (len - at')
  let a := 0x100000 + arg 0 * 0x400000 + at'
  let (bs, d) := if d.flashTakes then (readBytes (fun k => sramByte mem d (arg 3 + at' + k)) 0 n, d) else drawBytes n d
  let bad := if d.flashTakes then arg 4 else 1
  let d := flashPut a bs d
  if at' + n < len then ⟨stOK, 0, [], some (10, [arg 0, at' + n, len, arg 3, bad]), d⟩
  else if bad = 0 then Ans.ok [] d
  else Ans.fail stREFUSED 1 d

/-- What the Beads' programs do for an opcode. -/
abbrev Runner := Cmd → List Host.Cell → Device → Ans

/-- What a waiting command has come to, with the device it has run on: none while it still waits. -/
def CmdWait.done (run : Nat → Option Runner) (w : CmdWait) (mem : List Host.Cell) (d : Device) : Option (Device × Ans) :=
  let mask := w.args.headD 0
  let whole := fun (d : Device) => some (d, (⟨w.status, w.detail, w.words, none, d⟩ : Ans))
  if w.kind ≠ 6 && d.beadStalls w.owners then none
  else match w.kind with
  | 1 => if (maskPaths mask).all fun p => d.pathState p == 5 then whole d else none
  | 2 => if (maskPaths mask).all fun p => d.pathState p == 0 then whole (pathsOff mask mem d) else none
  | 3 => if d.on L.AIR_STAT_PEND then none else whole d
  | 4 => if d.on L.PWR_LSTAT_CHG then none else some (d, levelAns d)
  | 5 =>
    if d.on L.EMB_CAL_BUSY then none
    else if d.on L.TIME_EVENT_CAL_ERR then some (d, Ans.fail stREFUSED 1 d)
    else some (d, Ans.ok [d.rd A.EMB_PERIOD_W0, d.rd A.EMB_PERIOD_W1] d)
  | 6 =>
    let n := w.args.headD 0
    if w.args.tail.all fun a => (domainAccess n a d).1 != 1 then
      let d := unstall w.args.tail d
      some (d, cmdQuery n w.args.tail d)
    else none
  | 7 =>
    if w.args.all fun a => (domainAccess 0 a d).1 != 1 then
      let d := unstall w.args d
      (run w.cmd.op).map fun f => (d, f w.cmd mem d)
    else none
  | 8 => if w.owners.all d.beadServes then some (d, beamCopy w mem d) else none
  | 9 => if w.owners.all d.beadServes then some (d, burnStep w d) else none
  | 10 => if w.owners.all d.beadServes then some (d, flashStep w mem d) else none
  | _ => whole d

/-- Every waiting command looked at once, in order. -/
def cmdPoll (run : Nat → Option Runner) (mem : List Host.Cell) (d : Device) : Device :=
  d.cmdWaits.foldl (fun d w =>
    match w.done run mem d with
    | none => d
    | some (e, a) =>
      let gone := fun (x : Device) => { x with cmdWaits := x.cmdWaits.erase w }
      cmdEnd w.cmd { a with dev := gone a.dev } mem (gone e)) d

/-- The access with which a command waits for a domain has waited for TMO (R492): the command ends with STATUS BUS. -/
def cmdTimeout (m : Nat) (mem : List Host.Cell) (d : Device) : Device :=
  match d.cmdWaits.find? fun w => (w.kind == 6 || w.kind == 7) && w.owners.contains m with
  | none => d
  | some w =>
    let as := if w.kind = 6 then w.args.tail else w.args
    let d := { d with cmdWaits := d.cmdWaits.erase w }
    match as.find? fun a => (domainAccess m a d).1 == 1 with
    | none => cmdFinish w.cmd stBUS 0 [] mem d
    | some a => cmdFinish w.cmd stBUS 0 [] mem (busError m a 1 (unstall as d))

/-- Announced actions whose tick has come: a warm reset, a sleep entry, the start of the staged bundle. -/
def laterPoll (mem : List Host.Cell) (d : Device) : Device :=
  match d.laters.find? fun x => x.due ≤ d.ticks with
  | none => d
  | some x =>
    let d := { d with laters := d.laters.erase x }
    if x.kind = 0 then warmReset x.arg d
    else if x.kind = 1 then busWrite 15 A.PWR_SCTL 4 (2 ^ 31 + x.arg) mem d
    else stagedStart mem d

/-- What the Beads do as time passes: commands that waited, and actions announced. -/
def beadTick (run : Nat → Option Runner) (mem : List Host.Cell) (d : Device) : Device :=
  if d.cmdWaits.isEmpty && d.laters.isEmpty then d else laterPoll mem (cmdPoll run mem d)

/-- The command of one opcode: the first Bead whose next command has it takes and runs it (R426–R429). -/
def serve (op : Nat) (run : Runner) (mem : List Host.Cell) (d : Device) : Device :=
  let d := cmdUnknown 1024 mem (beadTick (fun _ => none) mem d)
  match (List.range 16).findSome? fun n => (headCmd n mem d).filter fun c => c.op == op && !c.held mem d with
  | none => d
  | some c => cmdTake c run mem (mbxPop c.front c.chan d)

/-! ## The configuration image (R517, R518) -/

/-- The default bindings of the OTP generation in use, written by Bead 0. -/
def otpBindings (mem : List Host.Cell) (d : Device) : Device :=
  match d.genInUse with
  | none => d
  | some g =>
    (List.range 64).foldl (fun d c =>
      let v := d.genWord g (0x100 + 4 * c)
      if c < 4 && bitsOf v 31 1 = 0 then d else busWrite 0 (A.MBX_BIND c) 4 v mem d) d

/-- The image in flash: its record count, where it is present and its check word matches. -/
def Device.configImage (d : Device) : Option Nat :=
  let rd := fun a => d.flashByte (0x10000 + a)
  let w := readWord rd 0
  let n := w % 2 ^ 16
  if !d.boot.flashOk || w / 2 ^ 16 ≠ 0x4347 || 960 * 1024 < 12 + 8 * n then none
  else if crc32 (readBytes rd 0 (8 + 8 * n)) = readWord rd (8 + 8 * n) then some n
  else none

/-- Bead 0 applies the bindings and the configuration image after firmware starts. -/
def configApply (mem : List Host.Cell) (d : Device) : Device :=
  if d.stage ≠ 1 then d
  else
    let d := otpBindings mem d
    match d.configImage with
    | none => bootEvent L.BOOT_EVENT_CFG_DEFAULTED [] (d.set L.BOOT_STAT_CFG_DEFAULTED 1)
    | some n =>
      let rd := fun a => d.flashByte (0x10000 + a)
      (List.range n).foldl (fun d k => busWrite 0 (readWord rd (8 + 8 * k)) 4 (readWord rd (12 + 8 * k)) mem d) d

/-! ## Restarts (R411, R430) -/

/-- Commands a restarted Bead had accepted end INTERRUPTED; the reply leaves from the front Bead. -/
def cmdInterrupt (n : Nat) (mem : List Host.Cell) (d : Device) : Device :=
  d.cmdWaits.foldl (fun d w =>
    if w.cmd.front = n || w.owners.contains n then
      cmdFinish w.cmd stINTERRUPTED (if w.kind = 6 || w.kind = 7 then 0 else if w.kind = 0 then 1 else 2) [] mem
        { d with cmdWaits := d.cmdWaits.erase w }
    else d) d

/-! ## Meanings -/

/-- CONFIG_IMAGE_APPLY (R517, R518). -/
def execConfigImageApply (s : State) : Host.Outcome State Fault Refusal := act .configImageApply s configApply
/-- WATCHDOG_EXPIRY (R406, R410, R411, R430). -/
def execWatchdogExpiry (n : Nat) (pc : Nat) (s : State) : Host.Outcome State Fault Refusal :=
  act (.watchdogExpiry n pc) s fun mem d =>
    let runs := d.wdogExpires n
    let d := watchdog n pc d
    if runs && d.get (L.MBX_BSTAT_STATE n) = 0 then cmdInterrupt n mem d else d

end Sys2Proof.Machine
end

