-- ==== Sys2Proof/Machine/CmdBeam.lean ====
section
/-! DEFINITION. The BEAM, DPD and CAL families of Ikirik (R438–R440). -/
namespace Sys2Proof.Machine

/-! ## BEAM (R438) -/

/-- First byte of a carrier's region in a bank of the weight memory (R210, R212). -/
def weightBase (dir bank c : Nat) : Nat := 0x12000000 + dir * 0x1B00000 + bank * 0x900000 + c * 0x240000

/-- BEAM_LOAD: the first checks, then the groups are copied one after another (`beamCopy`). -/
def cmdBeamLoad (c : Cmd) (mem : List Host.Cell) (d : Device) : Ans :=
  let w := c.arg mem d 0
  let k := bitsOf w 28 4
  let dir := bitsOf w 27 1
  let bank := bitsOf w 26 1
  let g0 := bitsOf w 0 9
  let ng := c.arg mem d 1
  let src := c.arg mem d 2
  let n := ng * 0x2000
  if 3 < k then Ans.fail stBADFIELD 0 d
  else if 288 < g0 + ng then Ans.fail stBADFIELD 1 d
  else if src % 64 ≠ 0 then Ans.fail stBADFIELD 2 d
  else if d.xfBusy (.beam (4 * dir + k)) bank then Ans.fail stREFUSED 1 d
  else if sramSize < src + n || d.eccBad.any fun b => sramBase + src < b + 8 && b < sramBase + src + n then Ans.fail stBUS 0 d
  else
    ⟨stOK, 0, [], some (8, [0, ng, 4 * dir + k, bank, weightBase dir bank k + g0 * 0x2000, sramBase + src]), d⟩

/-- BEAM_SWITCH. -/
def cmdBeamSwitch (c : Cmd) (mem : List Host.Cell) (d : Device) : Ans :=
  let w := c.arg mem d 0
  let k := bitsOf w 28 4
  let i := 4 * bitsOf w 27 1 + k
  if d.on L.PWR_LSTAT_CHG then Ans.fail stBUSY 2 d
  else if 3 < k then Ans.fail stBADFIELD 0 d
  else
    let image := c.arg mem d 1
    let (err, late, d) := raisesLate (L.BM_XF_STAT_ERR i) (L.BM_XF_STAT_LATE i)
      (busWrite 1 (A.BM_XF_REQ i) 4 (2 ^ 31 + image) mem) d
    if err then Ans.fail stREFUSED 1 d else Ans.okLate late [] d

/-- BEAM_RAMP. -/
def cmdBeamRamp (c : Cmd) (mem : List Host.Cell) (d : Device) : Ans :=
  let w := c.arg mem d 2
  let dirs := if bitsOf w 16 1 = 1 then [0, 1] else [bitsOf w 15 1]
  (applyMask [(1, 0, 64)] (c.mask mem d 0) (fun p d => d.pathState p == 1) (fun o p d =>
    (0, dirs.foldl (fun d k => fieldStore o (A.BM_ERAMP k p)
      [(L.BM_ERAMP_GO k p, 1), (L.BM_ERAMP_TARGET k p, bitsOf w 14 1), (L.BM_ERAMP_LEN k p, bitsOf w 0 8)] mem d) d)) d).ans

/-- BEAM_QUERY. -/
def cmdBeamQuery (c : Cmd) (mem : List Host.Cell) (d : Device) : Ans :=
  let k := bitsOf (c.arg mem d 0) 0 1
  cmdQuery 1 ([A.BM_DSTAT k, A.BM_FAULT k, A.BM_FAULT_SYM k] ++ (List.range 3).map (fun j => A.BM_RETIRED k j) ++
    (List.range 16).map fun j => A.BM_RODMAP k j) d

/-! ## DPD (R439) -/

/-- The owner of a path's predistorter. -/
def dpdOwner (p : Nat) : Nat := 4 + p / 8

/-- DPD_ENABLE. -/
def cmdDpdEnable (c : Cmd) (mem : List Host.Cell) (d : Device) : Ans :=
  let w := c.arg mem d 2
  (applyMask dpdRanges (c.mask mem d 0) (fun p d => bitsOf w 0 1 == 0 && d.trialState p != 0) (fun o p d =>
    (0, fieldStore o (A.DPD_PCFG p) [(L.DPD_PCFG_EN p, bitsOf w 0 1), (L.DPD_PCFG_RT_EN p, bitsOf w 1 1)] mem d)) d).ans

/-- DPD_BANK. -/
def cmdDpdBank (c : Cmd) (mem : List Host.Cell) (d : Device) : Ans :=
  let w := c.arg mem d 0
  let p := bitsOf w 0 6
  let b := bitsOf w 8 2
  if b = 3 then Ans.fail stBADFIELD 0 d
  else if d.xfBusy (.dpd p) b then Ans.fail stREFUSED 1 d
  else
    let xs := (List.range 65).map fun k => (A.DPD_BANK p b k, c.arg mem d (1 + k))
    Ans.ok [] (beadWrite (dpdOwner p) xs mem d)

/-- DPD_SWITCH. -/
def cmdDpdSwitch (c : Cmd) (mem : List Host.Cell) (d : Device) : Ans :=
  let p := bitsOf (c.arg mem d 0) 0 6
  let image := c.arg mem d 1
  let (err, late, d) := raisesLate (L.DPD_XF_STAT_ERR p) (L.DPD_XF_STAT_LATE p)
    (busWrite (dpdOwner p) (A.DPD_XF_REQ p) 4 (2 ^ 31 + image) mem) d
  if err then Ans.fail stREFUSED (d.get (L.DPD_PSTAT_ERRC p)) d else Ans.okLate late [] d

/-- DPD_TRIAL: a refused GO leaves the settings as they were. -/
def cmdDpdTrial (c : Cmd) (mem : List Host.Cell) (d : Device) : Ans :=
  let w := c.arg mem d 0
  let p := bitsOf w 0 6
  let o := dpdOwner p
  let image := c.arg mem d 1
  let regs := [A.DPD_TRIAL p, A.DPD_TRIAL_LIM p, A.DPD_MASK p]
  let old := regs.map fun a => (a, d.rd a)
  let d := beadWrite o [(A.DPD_TRIAL_LIM p, c.arg mem d 2), (A.DPD_MASK p, c.arg mem d 3)] mem d
  let act' := if bitsOf w 31 1 = 1 then 2 ^ 30 else 2 ^ 31
  let (err, d) := raises (L.DPD_PEVENT_ERR p) (busWrite o (A.DPD_TRIAL p) 4 (act' + image) mem) d
  if err then Ans.fail stREFUSED (d.get (L.DPD_PSTAT_ERRC p)) (beadWrite o old mem d) else Ans.ok [] d

/-- DPD_ADAPT: the setting of each path; the cycles are the owner's firmware. -/
def cmdDpdAdapt (c : Cmd) (mem : List Host.Cell) (d : Device) : Ans :=
  let w := c.arg mem d 2
  let lambda := c.arg mem d 3
  let on := bitsOf w 31 1 = 1
  (applyMask dpdRanges (c.mask mem d 0) (fun p d => on && !d.on (L.DPD_PCFG_EN p)) (fun _ p d =>
    (0, { d with adapt := if on then tabPut d.adapt p (bitsOf w 0 16, lambda) else tabDel d.adapt p })) d).bare

/-- DPD_CFG. -/
def cmdDpdCfg (c : Cmd) (mem : List Host.Cell) (d : Device) : Ans :=
  let p := bitsOf (c.arg mem d 0) 0 6
  let keep := d.get (L.DPD_PCFG_EN p) * 2 ^ 31 + d.get (L.DPD_PCFG_RT_EN p) * 2 ^ 30
  Ans.ok [] (beadWrite (dpdOwner p) [(A.DPD_PCFG p, c.arg mem d 1 % 2 ^ 30 + keep), (A.DPD_ALIGN p, c.arg mem d 2),
    (A.DPD_OCFG (p / 8), c.arg mem d 3)] mem d)

/-- DPD_QUERY. -/
def cmdDpdQuery (c : Cmd) (mem : List Host.Cell) (d : Device) : Ans :=
  let p := bitsOf (c.arg mem d 0) 0 6
  cmdQuery (dpdOwner p) [A.DPD_PSTAT p, A.DPD_TRIAL_RES p, A.DPD_TRIAL_MET p, A.DPD_ALIGN p, A.DPD_PCNT p] d

/-! ## CAL (R440) -/

/-- CAL_RUN: OBS_MATCH and ALIGN runs are Bead 1's, the others the path's owner's. -/
def cmdCalRun (c : Cmd) (mem : List Host.Cell) (d : Device) : Ans :=
  let w := c.arg mem d 0
  let kind := bitsOf w L.CAL_RUN_KIND.lo L.CAL_RUN_KIND.w
  if kind = 0 || 6 < kind || 8 < bitsOf w L.CAL_RUN_FADE.lo L.CAL_RUN_FADE.w then Ans.fail stBADFIELD 0 d
  else if 16 ≤ d.cal.queue.length then Ans.fail stBUSY 1 d
  else
    let o := if kind < 4 then pathOwner (bitsOf w L.CAL_RUN_PATH.lo L.CAL_RUN_PATH.w) else 1
    let d := busWrite o A.CAL_RUN 4 (2 ^ 31 + w) mem d
    Ans.ok [d.get L.CAL_RSTAT_QLEN] d

/-- The groups of a path in the layout of CAL_APPLY_GRP, each with the ERR of its object. -/
def applyErrs (p : Nat) : List Loc :=
  [L.CAL_RXA_XF_STAT_ERR p, L.CAL_TXA_XF_STAT_ERR p, L.CAL_LANE_XF_STAT_ERR p] ++ (List.range 8).map fun i => L.CAL_GRID_XF_STAT_ERR i

/-- The LATE flags of the same objects. -/
def applyLates (p : Nat) : List Loc :=
  [L.CAL_RXA_XF_STAT_LATE p, L.CAL_TXA_XF_STAT_LATE p, L.CAL_LANE_XF_STAT_LATE p] ++ (List.range 8).map fun i => L.CAL_GRID_XF_STAT_LATE i

/-- CAL_APPLY. -/
def cmdCalApply (c : Cmd) (mem : List Host.Cell) (d : Device) : Ans :=
  let w := c.arg mem d 0
  let grp := c.arg mem d 1
  let p := bitsOf w L.CAL_APPLY_PATH.lo L.CAL_APPLY_PATH.w
  let errs := applyErrs p
  let lates := applyLates p
  let flags := errs ++ lates
  let was := flags.map fun l => d.get l
  let d := flags.foldl (fun d l => d.set l 0) d
  let d := beadWrite (pathOwner p) [(A.CAL_APPLY_GRP, grp), (A.CAL_APPLY, 2 ^ 31 + w)] mem d
  let bad : Nat := (errs.zipIdx.map fun x => d.get x.1 * 2 ^ x.2).foldl (· + ·) 0
  let late := lates.any fun l => d.on l
  let d := (flags.zip was).foldl (fun d x => if x.2 = 1 then d.set x.1 1 else d) d
  if bad = 0 then Ans.okLate late [bad] d else ⟨stREFUSED, 1, [bad], none, d⟩

/-- CAL_CFG. -/
def cmdCalCfg (c : Cmd) (mem : List Host.Cell) (d : Device) : Ans :=
  let align := c.arg mem d 2
  if d.cal.running.isSome && bitsOf align L.CAL_ALIGN_REF_PATH.lo L.CAL_ALIGN_REF_PATH.w ≠ d.get L.CAL_ALIGN_REF_PATH then
    Ans.fail stSTATE 1 d
  else
    Ans.ok [] (beadWrite 1 [(A.CAL_CFG, c.arg mem d 0), (A.CAL_PRE, c.arg mem d 1), (A.CAL_ALIGN, align),
      (A.CAL_TXREF, c.arg mem d 3)] mem d)

/-- An ALIGN run is in progress. -/
def Device.aligning (d : Device) : Bool :=
  match d.cal.running with
  | some r => r.kind == 5 || r.kind == 6
  | none => false

/-- CAL_NET. -/
def cmdCalNet (c : Cmd) (mem : List Host.Cell) (d : Device) : Ans :=
  if d.aligning then Ans.fail stSTATE 1 d
  else
    let xs := (List.range 64).map fun p => (A.CAL_NET p, c.arg mem d p)
    Ans.ok [] (beadWrite 1 xs mem d)

/-- CAL_QUERY. -/
def cmdCalQuery (_ : Cmd) (_ : List Host.Cell) (d : Device) : Ans := cmdQuery 1 [A.CAL_RSTAT, A.CAL_RES_GP, A.CAL_RES_DS] d

/-! ## Meanings -/

/-- BEAM_LOAD (R438). -/
def execBeamLoad (s : State) : Host.Outcome State Fault Refusal := act .beamLoad s (serve 0x0400 cmdBeamLoad)
/-- BEAM_SWITCH (R438). -/
def execBeamSwitch (s : State) : Host.Outcome State Fault Refusal := act .beamSwitch s (serve 0x0401 cmdBeamSwitch)
/-- BEAM_RAMP (R438). -/
def execBeamRamp (s : State) : Host.Outcome State Fault Refusal := act .beamRamp s (serve 0x0402 cmdBeamRamp)
/-- BEAM_QUERY (R438). -/
def execBeamQuery (s : State) : Host.Outcome State Fault Refusal := act .beamQuery s (serve 0x0403 cmdBeamQuery)
/-- DPD_ENABLE (R439). -/
def execDpdEnable (s : State) : Host.Outcome State Fault Refusal := act .dpdEnable s (serve 0x0500 cmdDpdEnable)
/-- DPD_BANK (R439). -/
def execDpdBank (s : State) : Host.Outcome State Fault Refusal := act .dpdBank s (serve 0x0501 cmdDpdBank)
/-- DPD_SWITCH (R439). -/
def execDpdSwitch (s : State) : Host.Outcome State Fault Refusal := act .dpdSwitch s (serve 0x0502 cmdDpdSwitch)
/-- DPD_TRIAL (R439). -/
def execDpdTrial (s : State) : Host.Outcome State Fault Refusal := act .dpdTrial s (serve 0x0503 cmdDpdTrial)
/-- DPD_ADAPT (R439). -/
def execDpdAdapt (s : State) : Host.Outcome State Fault Refusal := act .dpdAdapt s (serve 0x0504 cmdDpdAdapt)
/-- DPD_CFG (R439). -/
def execDpdCfg (s : State) : Host.Outcome State Fault Refusal := act .dpdCfg s (serve 0x0505 cmdDpdCfg)
/-- DPD_QUERY (R439). -/
def execDpdQuery (s : State) : Host.Outcome State Fault Refusal := act .dpdQuery s (serve 0x0506 cmdDpdQuery)
/-- CAL_RUN (R440). -/
def execCalRun (s : State) : Host.Outcome State Fault Refusal := act .calRun s (serve 0x0600 cmdCalRun)
/-- CAL_APPLY (R440). -/
def execCalApply (s : State) : Host.Outcome State Fault Refusal := act .calApply s (serve 0x0601 cmdCalApply)
/-- CAL_CFG (R440). -/
def execCalCfg (s : State) : Host.Outcome State Fault Refusal := act .calCfg s (serve 0x0602 cmdCalCfg)
/-- CAL_NET (R440). -/
def execCalNet (s : State) : Host.Outcome State Fault Refusal := act .calNet s (serve 0x0603 cmdCalNet)
/-- CAL_QUERY (R440). -/
def execCalQuery (s : State) : Host.Outcome State Fault Refusal := act .calQuery s (serve 0x0604 cmdCalQuery)

end Sys2Proof.Machine
end

