-- ==== Sys2Proof/Machine/CmdCarrier.lean ====
section
/-! DEFINITION. The CARRIER family of Ikirik (R330, R435–R437). -/
namespace Sys2Proof.Machine

/-! ## The payload (R436) -/

/-- A CARRIER_SET payload. -/
structure CarrierReq where
  c : Nat
  dir : Nat
  td : Bool
  ecp : Nat
  scs : Nat
  size : Nat
  rate : Nat
  pc : Nat
  ra : Nat
  osh : Nat
  nrb : Nat
  k0 : Nat
  g : Nat
  nl : Nat
  at' : Nat
  ftw : Nat
  winAdv : Nat
  toffDl : Nat
  toffUl : Nat
  dlOpen : Nat
  coff : Nat
  ulMw : Nat
  mask : Nat

/-- The fields of R436. -/
def carrierReq (c : Cmd) (mem : List Host.Cell) (d : Device) : CarrierReq :=
  let w := c.arg mem d
  { c := bitsOf (w 0) 28 4, dir := bitsOf (w 0) 26 2, td := bitsOf (w 0) 25 1 == 1, ecp := bitsOf (w 0) 24 1
    scs := bitsOf (w 0) 22 2, size := bitsOf (w 0) 18 4, rate := bitsOf (w 0) 16 2, pc := bitsOf (w 0) 14 2
    ra := bitsOf (w 0) 12 2, osh := bitsOf (w 0) 9 3, nrb := bitsOf (w 0) 0 9
    k0 := bitsOf (w 1) 16 16, g := bitsOf (w 1) 11 5, nl := bitsOf (w 1) 5 6, at' := bitsOf (w 1) 0 5
    ftw := w 2 + bitsOf (w 3) 0 16 * 2 ^ 32, winAdv := bitsOf (w 3) 20 12
    toffDl := bitsOf (w 4) 16 16, toffUl := bitsOf (w 4) 0 16
    dlOpen := bitsOf (w 5) 20 12, coff := bitsOf (w 5) 10 10, ulMw := bitsOf (w 5) 6 4
    mask := w 6 + w 7 * 2 ^ 32 }

/-- The directions asked for: 0 downlink, 1 uplink. -/
def CarrierReq.dirs (r : CarrierReq) : List Nat := (List.range 2).filter fun k => bitsOf r.dir k 1 == 1
/-- The paths of the mask. -/
def CarrierReq.paths (r : CarrierReq) : List Nat := maskPaths r.mask
/-- Half the occupied bandwidth in Hz: 6 NRB Δf. -/
def CarrierReq.half (r : CarrierReq) : Nat := 6 * r.nrb * (15000 * 2 ^ r.scs)
/-- AT is a half-subframe, or all ones for the first eligible one (R424). -/
def atOk (at' : Nat) : Bool := at' < 20 || at' == 31

/-- Step 1 (R437): the payload word of the first field outside its range. -/
def CarrierReq.bad (r : CarrierReq) : Option Nat :=
  if 3 < r.c || r.dir = 0 || r.scs = 3 || (!r.td && (r.size < 7 || 12 < r.size)) || r.pc = 3
      || (bitsOf r.dir 0 1 = 1 && r.ra = 3) || r.nrb < 1 || 275 < r.nrb then some 0
  else if r.g < 1 || 16 < r.g || r.nl < 1 || 32 < r.nl || !atOk r.at' then some 1
  else none

/-! ## Step 2: the chain -/

/-- A chain choice: CIC R, half-band, ROM response. -/
structure ChainPick where
  r : Nat
  hb : Nat
  fir : Nat

/-- Passband and stopband edges of a ROM row, in thousandths of F_in (R167). -/
def romEdges : List (Nat × Nat) :=
  [(50, 300), (100, 200), (100, 150), (150, 250), (150, 200), (200, 300), (200, 250), (250, 350),
   (260, 380), (250, 300), (300, 400), (300, 350), (350, 450), (350, 400), (400, 480), (400, 430)]

/-- The class B response with the fewest taps that meets R166 at F_in = `fl / d`, the first of equals. -/
def romPick (fl d half fout : Nat) : Option Nat :=
  (List.range 16).foldl (fun best row =>
    let (pe, se) := romEdges.getD row (0, 0)
    if 1000 * d * half ≤ pe * fl && se * fl + 1000 * d * half ≤ 1000 * d * fout then
      match best with
      | none => some (16 + row)
      | some b => if romTaps (16 + row) < romTaps b then some (16 + row) else best
    else best) none

/-- One candidate of step 2. -/
def chainTry (fl half fout r hb : Nat) : Option ChainPick :=
  let d := r * (1 + hb)
  if 2 ≤ r && r ≤ 16 && fout * d ≤ fl && fl ≤ 2 * fout * d && 5 * r * half ≤ fl then
    (romPick fl d half fout).map fun fir => ⟨r, hb, fir⟩
  else none

/-- Step 2: the smallest D, at equal D the half-band. -/
def chainPick (fl half fout : Nat) : Option ChainPick :=
  (List.range 33).findSome? fun d =>
    match (if d % 2 = 0 then chainTry fl half fout (d / 2) 1 else none) with
    | some x => some x
    | none => chainTry fl half fout d 0

/-- The LANE rate in Hz. -/
def Device.laneHz (d : Device) : Nat := if d.lowPower then 768000000 else 1536000000
/-- F_out in Hz (R168). -/
def foutHz (rate : Nat) : Nat := 2 * halfOutHz rate

/-! ## Step 3: zones, centres, bands -/

/-- Lower and upper edge of a band of use in Hz × 2^48: the centre word and half the bandwidth. -/
def bandSpan (ftw half : Nat) : Int × Int := ((hz48 ftw : Int) - half * 2 ^ 48, (hz48 ftw : Int) + half * 2 ^ 48)

/-- Spans lie in the band between two edges in kHz. -/
def spansIn (xs : List (Int × Int)) (lo hi : Nat) : Bool :=
  xs.all fun x => ((lo * 1000 * 2 ^ 48 : Nat) : Int) ≤ x.1 && x.2 ≤ ((hi * 1000 * 2 ^ 48 : Nat) : Int)

/-- The usable bands of R116. -/
def rxBands (lp : Bool) : List (Nat × Nat) :=
  if lp then [(410000, 1474560), (1597440, 3010560), (3133440, 4546560)]
  else [(410000, 3010560), (3133440, 6082560), (6205440, 7125000)]

/-- The usable bands of R146. -/
def txBands (lp : Bool) : List (Nat × Nat) :=
  if lp then [(410000, 3010560), (3133440, 6082560)] else [(410000, 6082560), (6205440, 7125000)]

/-- The zone whose usable band holds every span. -/
def zoneFor (lp : Bool) (xs : List (Int × Int)) : Option Nat :=
  ((rxBands lp).findIdx? fun b => spansIn xs b.1 b.2).map (· + 1)

/-- The settings a chain has or is about to have: enable and tuning word. -/
def Device.chanPlan (d : Device) (k : Nat) : Bool × Nat :=
  if (d.chn k).commit.isSome then ((chanCfg k (d.stagedCfg k)).en, d.stagedFtw k)
  else ((chanCfg k (d.chn k).cfg).en, (d.chn k).ftw)

/-- Half the bandwidth of carrier `i` as set, in Hz. -/
def Device.carrierHalf (d : Device) (i : Nat) : Nat :=
  let s := (d.ofPlanned i).1
  6 * s.nrb * (15000 * 2 ^ s.mu)

/-- Tuning words and spans of the other enabled carriers of path `p` in a direction. -/
def Device.otherCarriers (d : Device) (dir p c : Nat) : List (Nat × (Int × Int)) :=
  (List.range 4).filterMap fun k =>
    let (en, ftw) := d.chanPlan (chainFor (4 * dir + k) p)
    if k ≠ c && en then some (ftw, bandSpan ftw (d.carrierHalf (4 * dir + k))) else none

/-- The writes of step 3: zones by converter, centres and tuning words by path. -/
structure BandPlan where
  zones : List (Nat × Nat)
  centres : List (Nat × Nat)
  ncos : List Nat

/-- The uplink part for one path: none where no zone or centre serves. -/
def upPlan (r : CarrierReq) (p : Nat) (d : Device) (b : BandPlan) : Option BandPlan :=
  let others := d.otherCarriers 1 p r.c
  match zoneFor d.lowPower (bandSpan r.ftw r.half :: others.map (·.2)) with
  | none => none
  | some z =>
    let words := r.ftw :: others.map (·.1)
    let fits := fun (ctr : Nat) => words.all fun w => spanOk d.lowPower ((w : Int) - centreFtw ctr)
    let b := if z = d.get (L.RXADC_CFG_ZONE p) then b else { b with zones := b.zones ++ [(p, z)] }
    if fits (d.get (L.CH_RXCTR_CTR p)) then some b
    else
      let mid := (words.foldl min r.ftw + words.foldl max r.ftw + 2 ^ 32) / 2 ^ 33
      if fits mid then some { b with centres := b.centres ++ [(p, mid)] } else none

/-- The tuning word the converter of a path has or is about to have (R147). -/
def Device.ncoPlan (d : Device) (p : Nat) : Nat :=
  match (d.txc p).armed with
  | some x => x.1
  | none => (d.txc p).ftw

/-- The downlink part for one path. -/
def downPlan (r : CarrierReq) (p : Nat) (d : Device) (b : BandPlan) : Option BandPlan :=
  let others := d.otherCarriers 0 p r.c
  if !((txBands d.lowPower).any fun x => spansIn [bandSpan r.ftw r.half] x.1 x.2) then none
  else if others.isEmpty then some { b with ncos := b.ncos ++ [p] }
  else if spanOk d.lowPower ((r.ftw : Int) - d.ncoPlan p) then some b
  else none

/-- The zone of an observation converter (R136). -/
def obsPlan (r : CarrierReq) (k : Nat) (d : Device) (b : BandPlan) : Option BandPlan :=
  let others := (List.range 8).flatMap fun q => (d.otherCarriers 0 (8 * k + q) r.c).map (·.2)
  match zoneFor d.lowPower (bandSpan r.ftw r.half :: others) with
  | none => none
  | some z => if z = d.get (L.RXADC_CFG_ZONE (64 + k)) then some b else some { b with zones := b.zones ++ [(64 + k, z)] }

/-- A plan threaded through a list of places. -/
def planAll (f : Nat → BandPlan → Option BandPlan) : List Nat → BandPlan → Option BandPlan
  | [], b => some b
  | x :: xs, b =>
    match f x b with
    | none => none
    | some b => planAll f xs b

/-- Step 3. -/
def bandPlan (r : CarrierReq) (d : Device) : Option BandPlan :=
  let up := r.dirs.contains 1
  let down := r.dirs.contains 0
  match planAll (fun p b => upPlan r p d b) (if up then r.paths else []) ⟨[], [], []⟩ with
  | none => none
  | some b =>
    match planAll (fun p b => downPlan r p d b) (if down then r.paths else []) b with
    | none => none
    | some b =>
      let obs := (List.range 8).filter fun k => r.paths.any fun p => p / 8 == k
      planAll (fun k b => obsPlan r k d b) (if down then obs else []) b

/-! ## Step 5: the uplink load (R329, R330) -/

/-- Rate of a layer-carrier in 1/8,930 bit/s. -/
def layerRate (nrb scs : Nat) (ecp : Bool) (mw : Nat) : Nat :=
  nrb * ((if ecp then 12 else 14) * 2 ^ scs * 1000) * (24 * mantissa mw + 4) * 9020

/-- Rate of a time-domain stream: blocks of 12 samples at F_out (R344). -/
def streamRate (rate mw : Nat) : Nat := foutHz rate * (24 * mantissa mw + 4) * 9020 / 12

/-- Uplink load of carrier `c` as it is set. -/
def Device.carrierLoad (d : Device) (c : Nat) : Nat :=
  let s := (d.ofPlanned (4 + c)).1
  let nl := bitsOf (d.grd (4 + c)).ccfgPlan 16 6
  if !s.en then 0
  else if s.td then
    (s.paths.map fun p => streamRate (chanCfg (ddc p c) (d.stagedCfg (ddc p c))).rate (d.get L.GST_TDCFG_TD_MW)).foldl (· + ·) 0
  else if bitsOf (d.grd (4 + c)).ccfgPlan 31 1 = 1 then nl * layerRate s.nrb s.mu s.ecp (d.get (L.GST_CCFG_UL_MW c))
  else 0

/-- Uplink load of the time-domain streams of the wide channels (R175, R330). -/
def Device.wideLoad (d : Device) : Nat :=
  ((List.range 16).map fun w =>
    let cfg := chanCfg (wch w) (d.stagedCfg (wch w))
    if cfg.en && cfg.td then streamRate cfg.rate (d.get L.GST_TDCFG_TD_MW) else 0).foldl (· + ·) 0

/-- The load after the request fits every port that carries it: every carrier's uplink as it is or is asked for, the wide channels'
streams, and the reserve (R330). -/
def Device.loadFits (d : Device) (r : CarrierReq) : Bool :=
  let mine := if !r.dirs.contains 1 then d.carrierLoad r.c
    else if r.td then r.paths.length * streamRate r.rate (d.get L.GST_TDCFG_TD_MW)
    else r.nl * layerRate r.nrb r.scs (r.ecp == 1) r.ulMw
  let others := ((List.range 4).filter (· != r.c)).foldl (fun n c => n + d.carrierLoad c) 0
  let total := mine + others + d.wideLoad + d.get L.FH_ULRES_RES * 10 ^ 8 * 8930
  let fits := fun (q : Nat) => total ≤ (d.portRate q - 2) * 10 ^ 9 * 8930
  fits 0 && (!d.dual || fits 1)

/-! ## Half-subframes -/

/-- The half-subframe a commit of now takes: the one named, or the first at least 100 µs ahead (R204). -/
def Device.halfFor (d : Device) (at' : Nat) : Nat :=
  if at' < 20 then at'
  else
    let len := 500000 * 3840
    let left := len - d.inFrame % len
    (d.halfNo + if 100000 * 3840 ≤ left then 1 else 2) % 20

/-- A commit of now that names this half-subframe is applied late (R119, R204). -/
def Device.atLate (d : Device) (at' : Nat) : Bool := decide (at' < 20) && d.halfPast at'

/-- The LANE block that starts a half-subframe. -/
def Device.halfBlock (d : Device) (h : Nat) : Nat := h * (d.blockLimit / 20)

/-- AT_MODE and AT of a GO at a half-subframe. -/
def goHalf (at' : Nat) : Nat := 2 ^ 31 + if at' < 20 then 2 ^ 30 + at' else 0

/-! ## Staged registers -/

/-- The OF registers of a carrier with their words. -/
def ofWords (i : Nat) (s : OfSet) : List (Nat × Nat) :=
  [(A.OF_CFG i, s.cfg), (A.OF_RB i, s.rb), (A.OF_WIN i, s.win), (A.OF_PC_LO i, s.f0 % 2 ^ 32), (A.OF_PC_HI i, s.f0 / 2 ^ 32),
    (A.OF_MASK_LO i, s.mask % 2 ^ 32), (A.OF_MASK_HI i, s.mask / 2 ^ 32)]

/-- The OF settings a request gives a direction; fields it does not name stay as they are in force. -/
def CarrierReq.ofSet (r : CarrierReq) (dir : Nat) (s : OfSet) : OfSet :=
  { cfg := 2 ^ 31 + bit r.td * 2 ^ 30 + r.size * 2 ^ 24 + r.scs * 2 ^ 22 + r.ecp * 2 ^ 21 + r.pc * 2 ^ 18 + bitsOf s.cfg 12 3 * 2 ^ 12
    rb := r.nrb * 2 ^ 16 + r.k0
    win := (if dir = 0 then r.toffDl else r.toffUl) * 2 ^ 16 + (if dir = 1 then r.winAdv else s.winAdv)
    f0 := s.f0, mask := r.mask }

/-- BM_CCFG and BM_CTIME of a carrier with their words. -/
def bmWords (i ccfg ctime : Nat) : List (Nat × Nat) := [(A.BM_CCFG i, ccfg), (A.BM_CTIME i, ctime)]

/-- The beam words a request gives a direction. -/
def CarrierReq.bmSet (r : CarrierReq) (dir ctime : Nat) : Nat × Nat :=
  (2 ^ 31 + r.osh * 2 ^ 28 + r.nl * 2 ^ 16 + r.g * 2 ^ 8, if dir = 0 then r.ra * 2 ^ 24 + r.coff else ctime)

/-- The chain registers a request gives a path: CH_CFG and the tuning word, PHASE kept. -/
def CarrierReq.chWords (r : CarrierReq) (x : ChainPick) (k : Nat) (d : Device) : List (Nat × Nat) :=
  [(A.CH_CFG k, 2 ^ 31 + r.rate * 2 ^ 26 + x.hb * 2 ^ 25 + 2 * 2 ^ 22 + x.r * 2 ^ 17 + x.fir * 2 ^ 8),
    (A.CH_NCO_LO k, r.ftw % 2 ^ 32), (A.CH_NCO_HI k, d.get (L.CH_NCO_HI_PHASE k) * 2 ^ 16 + r.ftw / 2 ^ 32)]

/-- The words registers hold now. -/
def Device.words (d : Device) (xs : List (Nat × Nat)) : List (Nat × Nat) := xs.map fun x => (x.1, d.rd x.1)

/-- Every admission result is shown. -/
def ofDrain (d : Device) : Device := d.ofCheck.foldl (fun d _ => ofResult d) d

/-! ## CARRIER_SET (R437) -/

/-- GO for each direction, in order, until one raises its ERR: the index of that one, and the device. -/
def goEach (f : Nat → Device → Bool × Device) : Nat → List Nat → Device → Option Nat × Device
  | _, [], d => (none, d)
  | k, x :: xs, d =>
    let (err, d) := f x d
    if err then (some k, d) else goEach f (k + 1) xs d

/-- Steps 6 to 8 and the withdrawal where one refuses. -/
def carrierCommit (r : CarrierReq) (x : ChainPick) (undo : List (Nat × Nat)) (old : Device) (mem : List Host.Cell) (d : Device) : Ans :=
  let dirs := r.dirs
  let i := fun (dir : Nat) => 4 * dir + r.c
  let go := goHalf r.at'
  -- step 6: both directions go to admission
  let d := dirs.foldl (fun d k => busWrite 1 (A.OF_CHG (i k)) 4 go mem d) d
  let results := d.ofCheck
  let refused := dirs.find? fun k => ((results.filter fun q => q.carrier == i k).getLast?.map fun q => q.errc != 0).getD false
  let d := ofDrain d
  let w0 := x.fir * 2 ^ 24 + 2 * 2 ^ 22 + x.r * 2 ^ 17 + x.hb * 2 ^ 16 +
    (match dirs with
      | k :: _ => (d.ofCheckFields (i k) (d.ofStaged (i k))).2
      | [] => 0) * 2 ^ 13
  let adm := fun (k : Nat) => if dirs.contains k then d.rd (A.OF_ADM k) else 0
  let words := [w0, adm 1, adm 0]
  -- a refusal: admitted changes replaced by the settings in force, replaced values written back
  let back := fun (detail : Nat) (ofGone bmGone : List Nat) (d : Device) =>
    let d := dirs.foldl (fun d k =>
      beadWrite 1 (ofWords (i k) (old.grd (i k)).of ++ bmWords (i k) (old.grd (i k)).ccfg (old.grd (i k)).ctime) mem d) d
    let d := ofGone.foldl (fun d k => busWrite 1 (A.OF_CHG (i k)) 4 go mem d) d
    let d := ofDrain d
    let d := bmGone.foldl (fun d k => busWrite 1 (A.BM_CHG (i k)) 4 go mem d) d
    (⟨stREFUSED, detail, words, none, beadWrite 1 undo mem d⟩ : Ans)
  match refused with
  | some k =>
    let errc := ((results.filter fun q => q.carrier == i k).getLast?.map (·.errc)).getD 0
    let admitted := dirs.filter fun q => ((results.filter fun y => y.carrier == i q).getLast?.map fun y => y.errc == 0).getD true
    back (0x10 + errc) admitted [] d
  | none =>
    -- step 7
    let (bad, d) := goEach (fun k d => raises (L.BM_CEVENT_ERR (i k)) (busWrite 1 (A.BM_CHG (i k)) 4 go mem) d) 0 dirs d
    match bad with
    | some n => back (0x20 + d.get (L.BM_CSTAT_ERRC (i (dirs.getD n 0)))) dirs (dirs.take n) d
    | none =>
      -- step 8
      let word := 2 ^ 31 + 2 ^ 30 + d.halfBlock (d.halfFor r.at')
      let chains := dirs.flatMap fun k => r.paths.map fun p => chainFor (i k) p
      let (bad, d) := goEach (fun k d => raises (L.CH_EVENT_ERR k) (busWrite 1 (A.CH_CHG k) 4 word mem) d) 0 chains d
      match bad with
      | some n => back (0x30 + d.get (L.CH_STAT_ERRC (chains.getD n 0))) dirs dirs d
      | none =>
        let fields := (if dirs.contains 0 then [(L.GST_CCFG_DL_OPEN r.c, r.dlOpen)] else []) ++
          (if dirs.contains 1 then [(L.GST_CCFG_UL_MW r.c, r.ulMw)] else [])
        Ans.okLate (old.atLate r.at') words (fieldStore 1 (A.GST_CCFG r.c) fields mem d)

/-- The writes ahead of step 6: step 3's, the staged channel, beam and OFDM registers. -/
def carrierStage (r : CarrierReq) (x : ChainPick) (b : BandPlan) (mem : List Host.Cell) (d : Device) : List (Nat × Nat) × Device :=
  let step3 := b.zones.map (fun z => (A.RXADC_CFG z.1, putBits (d.rd (A.RXADC_CFG z.1)) 4 2 z.2)) ++
    b.centres.map (fun z => (A.CH_RXCTR z.1, z.2)) ++
    b.ncos.flatMap fun p =>
      [(A.TXDAC_NCO_LO p, r.ftw % 2 ^ 32), (A.TXDAC_NCO_HI p, d.get (L.TXDAC_NCO_HI_PHASE p) * 2 ^ 16 + r.ftw / 2 ^ 32)]
  let chains := r.dirs.flatMap fun k => r.paths.flatMap fun p => r.chWords x (chainFor (4 * k + r.c) p) d
  let beams := r.dirs.flatMap fun k =>
    let i := 4 * k + r.c
    let s := r.bmSet k (d.grd i).ctime
    bmWords i s.1 s.2
  let ofdm := r.dirs.flatMap fun k => ofWords (4 * k + r.c) (r.ofSet k (d.grd (4 * k + r.c)).of)
  let undo := d.words (step3 ++ chains ++ beams)
  (undo, beadWrite 1 (step3 ++ chains ++ beams ++ ofdm) mem d)

/-- CARRIER_SET (R437); no carrier runs at level 0 (R494). -/
def cmdCarrierSet (c : Cmd) (mem : List Host.Cell) (d : Device) : Ans :=
  if d.on L.PWR_LSTAT_CHG || d.level == 0 then Ans.fail stBUSY 2 d
  else
    let r := carrierReq c mem d
    match r.bad with
    | some k => Ans.fail stBADFIELD k d
    | none =>
      match chainPick d.laneHz r.half (foutHz r.rate) with
      | none => Ans.fail stREFUSED 1 d
      | some x =>
        match bandPlan r d with
        | none => Ans.fail stREFUSED 2 d
        | some b =>
          if r.dirs.contains 0 && !(d.ducAllowed r.ftw r.rate && (b.ncos.isEmpty || d.ncoAllowed r.ftw)) then Ans.fail stREFUSED 3 d
          else if !d.loadFits r then Ans.fail stREFUSED 4 d
          else
            let (undo, e) := carrierStage r x b mem d
            carrierCommit r x undo d mem e

/-! ## The outage of a converter mode (R497) -/

/-- The zone the new mode gives receive converter `n`, by the enabled carriers it takes in: an OBS those its paths send.  Without a
carrier, or where no zone serves them all, the zone stays (log 144). -/
def Device.zoneAnew (d : Device) (lp : Bool) (n : Nat) : Nat :=
  let spans := if n < 64 then (d.otherCarriers 1 n 4).map (·.2)
    else (List.range 8).flatMap fun q => (d.otherCarriers 0 (8 * (n - 64) + q) 4).map (·.2)
  if spans.isEmpty then d.get (L.RXADC_CFG_ZONE n) else (zoneFor lp spans).getD (d.get (L.RXADC_CFG_ZONE n))

/-- The writes for chain `k`: the choice of step 2 of R437 at the new LANE rate, staged and armed for block 0. -/
def Device.chainAnew (d : Device) (fl k : Nat) : List (Nat × Nat) :=
  let word := (d.chn k).cfg
  let cfg := chanCfg k word
  let i := if isDuc k then k % 8 - 4 else 4 + k % 8
  if !cfg.en then []
  else
    match chainPick fl (d.carrierHalf i) (foutHz cfg.rate) with
    | none => []
    | some x =>
      let word := putBits (putBits (putBits (putBits word 25 1 x.hb) 22 2 2) 17 5 x.r) 8 8 x.fir
      [(A.CH_CFG k, word), (A.CH_CHG k, 2 ^ 31 + 2 ^ 30)]

/-- What Bead 1 does in the outage of a converter mode, at the first LANE block past half the frame (R497): the zone of every enabled
converter, then every enabled DDC and DUC. -/
def modeWork (mem : List Host.Cell) (d : Device) : Device :=
  if d.modeComes && d.on L.CLK_STAT_LANE_SRC && d.block == d.blocksPerFrame / 2 + 1 && d.beadServes 1 then
    let lp := d.on L.CLK_CFG_CONV_LP
    let d := d.each 72 fun n d =>
      let z := d.zoneAnew lp n
      if d.on (L.RXADC_CFG_EN n) && z != d.get (L.RXADC_CFG_ZONE n) then
        beadWrite 1 [(A.RXADC_CFG n, putBits (d.rd (A.RXADC_CFG n)) 4 2 z)] mem d
      else d
    d.each 512 fun k d => beadWrite 1 (d.chainAnew (if lp then 768000000 else 1536000000) k) mem d
  else d

/-! ## CARRIER_STOP and CARRIER_QUERY (R435) -/

/-- CARRIER_STOP. -/
def cmdCarrierStop (c : Cmd) (mem : List Host.Cell) (d : Device) : Ans :=
  let w := c.arg mem d 0
  let k := bitsOf w 28 4
  let dirs := (List.range 2).filter fun q => bitsOf w (26 + q) 1 == 1
  let at' := bitsOf w 0 5
  if d.on L.PWR_LSTAT_CHG then Ans.fail stBUSY 2 d
  else if 3 < k || dirs.isEmpty || !atOk at' then Ans.fail stBADFIELD 0 d
  else
    let word := 2 ^ 31 + 2 ^ 30 + d.halfBlock (d.halfFor at')
    Ans.okLate (d.atLate at') [] (dirs.foldl (fun d q =>
      let i := 4 * q + k
      let g := d.grd i
      let d := beadWrite 1 (ofWords i { g.of with cfg := g.of.cfg % 2 ^ 31 } ++ bmWords i (g.ccfg % 2 ^ 31) g.ctime) mem d
      let d := busWrite 1 (A.OF_CHG i) 4 (goHalf at') mem d
      let d := busWrite 1 (A.BM_CHG i) 4 (goHalf at') mem (ofDrain d)
      g.of.paths.foldl (fun d p =>
        let n := chainFor i p
        busWrite 1 (A.CH_CHG n) 4 word mem (busWrite 1 (A.CH_CFG n) 4 ((d.chn n).cfg % 2 ^ 31) mem d)) d) d)

/-- CARRIER_QUERY. -/
def cmdCarrierQuery (c : Cmd) (mem : List Host.Cell) (d : Device) : Ans :=
  let k := bitsOf (c.arg mem d 0) 28 4
  if 3 < k then Ans.fail stBADFIELD 0 d
  else cmdQuery 1 ([0, 1].flatMap fun q => [A.OF_STAT (4 * q + k), A.BM_CSTAT (4 * q + k), A.OF_ADM_CUR q]) d

/-! ## Meanings -/

/-- CARRIER_SET (R435–R437). -/
def execCarrierSet (s : State) : Host.Outcome State Fault Refusal := act .carrierSet s (serve 0x0300 cmdCarrierSet)
/-- CARRIER_STOP (R435). -/
def execCarrierStop (s : State) : Host.Outcome State Fault Refusal := act .carrierStop s (serve 0x0301 cmdCarrierStop)
/-- CARRIER_QUERY (R435). -/
def execCarrierQuery (s : State) : Host.Outcome State Fault Refusal := act .carrierQuery s (serve 0x0302 cmdCarrierQuery)

end Sys2Proof.Machine
end

