-- ==== Sys2Proof/Machine/CmdFw.lean ====
section
/-! DEFINITION. The LOG, OTP and FW families of Ikirik (R444–R446, R513, R514, R520, R522, R523). -/
namespace Sys2Proof.Machine

/-! ## LOG (R444) -/

/-- The bits of a register that a lock holds. -/
def lockedBits (a : Nat) : Nat :=
  match regAt a with
  | none => 0
  | some (r, _, _) => r.fields.foldl (fun n f => if f.acc = .rwl then n ||| (2 ^ (f.hi + 1) - 2 ^ f.lo) else n) 0

/-- LOG_CFG: a refused setting leaves the registers as they were. -/
def cmdLogCfg (c : Cmd) (mem : List Host.Cell) (d : Device) : Ans :=
  let xs := [(A.TLY_RING, c.arg mem d 1), (A.TLY_LVL_THR, c.arg mem d 2), (A.TLY_CFG, c.arg mem d 0)]
  let old := xs.map fun x => (x.1, d.rd x.1)
  if d.on L.TLY_LOCK_LOCK && xs.any fun x => (d.rd x.1 ^^^ x.2) &&& lockedBits x.1 != 0 then Ans.fail stSTATE 1 d
  else
    let (err, d) := raises L.TLY_EVENT_CFG_ERR (beadWrite 0 xs mem) d
    if err then Ans.fail stREFUSED 1 (beadWrite 0 old mem d) else Ans.ok [] d

/-- LOG_READ. -/
def cmdLogRead (c : Cmd) (mem : List Host.Cell) (d : Device) : Ans :=
  let n := c.arg mem d 0
  if n < 1 || 510 < n then Ans.fail stBADFIELD 0 d
  else
    let k := min n d.ringLevel
    let rd := d.get L.TLY_RD_RD
    let size := d.ringSize
    let base := d.get L.TLY_RING_BASE * 4096
    let recs := (List.range (4 * k)).map fun q => ramWord mem d (base + 16 * ((rd + q / 4) % size) + 4 * (q % 4))
    let d := busWrite 0 A.TLY_RD 4 ((rd + k) % size) mem d
    let (ws, d) := beadRead 0 [A.TLY_CNT, A.TLY_LATE] d
    Ans.ok (k :: d.ringLevel :: ws ++ recs) d

/-- LOG_KEEP. -/
def cmdLogKeep (c : Cmd) (mem : List Host.Cell) (d : Device) : Ans :=
  let w := c.arg mem d 0
  let n := if bitsOf w 8 8 = 0 then 256 else bitsOf w 8 8
  Ans.ok ((List.range (4 * n)).map fun q => d.keptWord ((bitsOf w 0 8 + q / 4) % 256) (q % 4)) d

/-- LOG_ACK. -/
def cmdLogAck (_ : Cmd) (mem : List Host.Cell) (d : Device) : Ans :=
  let (ws, d) := beadRead 0 ((List.range 4).map fun k => A.TLY_FAULT_REC k) d
  Ans.ok ws (fieldStore 0 A.TLY_FAULT [(L.TLY_FAULT_FN_LATCH, 1)] mem d)

/-- LOG_NOTE (R397, R432). -/
def cmdLogNote (c : Cmd) (mem : List Host.Cell) (d : Device) : Ans :=
  let w := c.arg mem d 1
  if (c.sender = 16 || c.sender = 17) && 2 < bitsOf w 24 3 then Ans.fail stBADFIELD 1 d
  else Ans.ok [] (beadWrite 0 [(A.TLY_SWREC_W0, c.arg mem d 0), (A.TLY_SWREC_W1, w)] mem d)

/-! ## Containers in shared SRAM -/

/-- A byte of a container at an offset of shared SRAM. -/
def boxByte (mem : List Host.Cell) (d : Device) (off a : Nat) : Byte := sramByte mem d (off + a)

/-- What keeps a container from being read: it runs past shared SRAM, or holds a word with an uncorrectable error. -/
def boxUnread (off len : Nat) (d : Device) : Bool :=
  sramSize < off + len || d.eccBad.any fun b => sramBase + off < b + 8 && b < sramBase + off + len

/-- Authentication of a container of a given length (R514): its key slot, or the DETAIL of AUTH.  Without a valid generation a
burn plan needs no signature. -/
def boxAuth (kind off len : Nat) (mem : List Host.Cell) (d : Device) : Except Nat Nat :=
  let rd := boxByte mem d off
  if readWord rd 4 ≠ len then .error 4
  else if kind = 2 && d.on L.BOOT_STAT_NOGEN then (if headerOk rd 2 d then .ok 0 else .error 4)
  else authenticate rd kind d

/-- A container that fails (BOOT_EVENT). -/
def authFail (detail : Nat) (d : Device) : Ans :=
  Ans.fail stAUTH detail (bootEvent L.BOOT_EVENT_AUTH_FAIL [(0, 16), (detail, 16)] d)

/-! ## OTP (R445, R522, R523) -/

/-- OTP_READ. -/
def cmdOtpRead (c : Cmd) (mem : List Host.Cell) (d : Device) : Ans :=
  let w := bitsOf (c.arg mem d 0) 0 3
  if 4 ≤ w && w ≤ 6 then Ans.fail stBADFIELD 0 d
  else
    match (if w = 7 then d.genInUse else some w) with
    | none => Ans.ok (List.replicate 513 0) d
    | some g =>
      let ok := crc32 (d.genBytes g 510) == d.genWord g 0x7FC
      Ans.ok ((bit (d.genWritten g) * 2 ^ 31 + bit ok * 2 ^ 30) :: (List.range 512).map fun k => d.genWord g (4 * k)) d

/-- OTP_BURN (R522): the plan is checked, then burnt word by word (`burnStep`). -/
def cmdOtpBurn (c : Cmd) (mem : List Host.Cell) (d : Device) : Ans :=
  let off := c.arg mem d 0
  let len := c.arg mem d 1
  if boxUnread off len d then Ans.fail stBUS 0 d
  else match boxAuth 2 off len mem d with
  | .error e => authFail e d
  | .ok _ =>
    let rd := boxByte mem d off
    match (List.range 4).find? fun g => !d.genWritten g with
    | none => Ans.fail stSTATE 1 d
    | some g =>
      if bitsOf (readWord rd 0xC) 0 8 ≠ g then Ans.fail stSTATE 2 d
      else
        let words := (List.range 510).map fun k => readWord rd (0x800 + 4 * k)
        ⟨stOK, 0, [], some (9, g :: 0 :: (words ++ [crc32 (readBytes rd 0x800 2040)])), d⟩

/-- OTP_REVOKE (R523): the plan is signed by another unrevoked slot and names this device. -/
def cmdOtpRevoke (c : Cmd) (mem : List Host.Cell) (d : Device) : Ans :=
  let off := c.arg mem d 0
  let len := c.arg mem d 1
  if boxUnread off len d then Ans.fail stBUS 0 d
  else match boxAuth 3 off len mem d with
  | .error e => authFail e d
  | .ok k =>
    let rd := boxByte mem d off
    let s := bitsOf (readWord rd 0xC) 0 8
    if 3 < s || readBytes rd 0x800 16 ≠ bytesOf 16 d.boot.dieId then authFail 4 d
    else if !(List.range 4).any fun q => q != s && d.keySlot q != 0 && !d.slotRevoked q then Ans.fail stSTATE 3 d
    else if k = s then authFail 1 d
    else
      let g := d.genInUse.getD 0
      let i := g * 512 + 0x7F8 / 4
      let d := burnWord i (2 ^ s) d
      burnEnd (bitsOf (d.otpWord i) s 1 == 1) d

/-! ## FW (R446) -/

/-- VERSION of the bundle in a flash slot, 0 where it holds none. -/
def Device.slotVersion (d : Device) (s : Nat) : Nat :=
  if d.boot.flashOk && readWord (d.slotByte s) 0 = 0x4F430101 then readWord (d.slotByte s) 8 else 0

/-- FW_STATUS. -/
def cmdFwStatus (_ : Cmd) (_ : List Host.Cell) (d : Device) : Ans :=
  Ans.ok [d.boot.version, (d.boot.staged.map (·.version)).getD 0, d.slotVersion 0, d.slotVersion 1] d

/-- FW_LOAD. -/
def cmdFwLoad (c : Cmd) (mem : List Host.Cell) (d : Device) : Ans :=
  let off := c.arg mem d 0
  let len := c.arg mem d 1
  if 0x400000 < len then Ans.fail stBADLEN 0 d
  else if boxUnread off len d then Ans.fail stBUS 0 d
  else match boxAuth 1 off len mem d with
  | .error e => authFail e d
  | .ok k =>
    Ans.ok [k % 4] { d with boot := { d.boot with staged := some (stagedOf (boxByte mem d off) off k) } }

/-- FW_FLASH: the staged bundle is written part by part (`flashStep`). -/
def cmdFwFlash (c : Cmd) (mem : List Host.Cell) (d : Device) : Ans :=
  let s := bitsOf (c.arg mem d 0) 0 1
  match d.boot.staged with
  | none => Ans.fail stSTATE 1 d
  | some st =>
    if d.stage ≠ 0 && d.get L.BOOT_STAT_SRC = s then Ans.fail stSTATE 2 d
    else if !d.boot.flashOk then Ans.fail stREFUSED 1 d
    else ⟨stOK, 0, [], some (10, [s, 0, readWord (boxByte mem d st.off) 4, st.off, 0]), d⟩

/-- FW_ACTIVATE: in the ROM stage the staged bundle starts once the reply is rung (R520); under firmware a warm reset follows
1 ms after it. -/
def cmdFwActivate (c : Cmd) (mem : List Host.Cell) (d : Device) : Ans :=
  if c.arg mem d 0 ≠ 0xA55A then Ans.fail stBADFIELD 0 d
  else if d.boot.staged.isNone then Ans.fail stSTATE 1 d
  else
    let x : Later := if d.stage = 0 then ⟨d.ticks, 2, 0⟩ else ⟨d.ticks + ticksPerMs, 0, 5⟩
    Ans.ok [] { d with laters := d.laters ++ [x] }

/-! ## Meanings -/

/-- LOG_CFG (R444). -/
def execLogCfg (s : State) : Host.Outcome State Fault Refusal := act .logCfg s (serve 0x0A00 cmdLogCfg)
/-- LOG_READ (R444). -/
def execLogRead (s : State) : Host.Outcome State Fault Refusal := act .logRead s (serve 0x0A01 cmdLogRead)
/-- LOG_KEEP (R444). -/
def execLogKeep (s : State) : Host.Outcome State Fault Refusal := act .logKeep s (serve 0x0A02 cmdLogKeep)
/-- LOG_ACK (R444). -/
def execLogAck (s : State) : Host.Outcome State Fault Refusal := act .logAck s (serve 0x0A03 cmdLogAck)
/-- LOG_NOTE (R397, R432, R444). -/
def execLogNote (s : State) : Host.Outcome State Fault Refusal := act .logNote s (serve 0x0A04 cmdLogNote)
/-- OTP_READ (R445). -/
def execOtpRead (s : State) : Host.Outcome State Fault Refusal := act .otpRead s (serve 0x0B00 cmdOtpRead)
/-- OTP_BURN (R445, R522). -/
def execOtpBurn (s : State) : Host.Outcome State Fault Refusal := act .otpBurn s (serve 0x0B01 cmdOtpBurn)
/-- OTP_REVOKE (R445, R523). -/
def execOtpRevoke (s : State) : Host.Outcome State Fault Refusal := act .otpRevoke s (serve 0x0B02 cmdOtpRevoke)
/-- FW_STATUS (R446). -/
def execFwStatus (s : State) : Host.Outcome State Fault Refusal := act .fwStatus s (serve 0x0C00 cmdFwStatus)
/-- FW_LOAD (R446). -/
def execFwLoad (s : State) : Host.Outcome State Fault Refusal := act .fwLoad s (serve 0x0C01 cmdFwLoad)
/-- FW_FLASH (R446). -/
def execFwFlash (s : State) : Host.Outcome State Fault Refusal := act .fwFlash s (serve 0x0C02 cmdFwFlash)
/-- FW_ACTIVATE (R446, R520). -/
def execFwActivate (s : State) : Host.Outcome State Fault Refusal :=
  act .fwActivate s fun mem d => laterPoll mem (serve 0x0C03 cmdFwActivate mem d)

end Sys2Proof.Machine
end

