-- ==== Sys2Proof/Machine/CmdPath.lean ====
section
/-! DEFINITION. The SYS and PATH families of Ikirik (R433, R434). -/
namespace Sys2Proof.Machine

/-! ## SYS (R433) -/

/-- The word that confirms a reset or an activation. -/
def confirmWord : Nat := 0xA55A

/-- SYS_INFO. -/
def sysInfo (_ : Cmd) (_ : List Host.Cell) (d : Device) : Ans :=
  let w2 := d.stage * 2 ^ 30 + d.get L.BOOT_STAT_CFG_DEFAULTED * 2 ^ 29 + d.get L.BOOT_STAT_GEN_FALLBACK * 2 ^ 28
    + d.get L.BOOT_STAT_GEN * 2 ^ 24 + d.get L.FH_UNIT_UNIT
  Ans.ok [d.rd A.SYS_ID, d.boot.version, w2, 0] d

/-- SYS_STATUS: the read of TLY_STAT by Bead 0 starts the next MAXSEV (R400). -/
def sysStatus (_ : Cmd) (_ : List Host.Cell) (d : Device) : Ans :=
  let n := fun (l : Nat → Loc) => ((List.range 64).filter fun p => d.on (l p)).length
  let w0 := d.level * 2 ^ 28 + d.mstate * 2 ^ 20 + d.get L.TIME_STAT_VSTATE * 2 ^ 16 + n L.PATH_STAT_RXS * 2 ^ 8
    + n L.PATH_STAT_TXS
  let (t, d) := regLoad 0 A.TLY_STAT d
  let w1 := bitsOf t 29 3 * 2 ^ 29 + d.get L.TLY_FAULT_FN_LATCH * 2 ^ 28 + d.get (L.FH_PSTAT_LSTATE 0) * 2 ^ 26
    + d.get (L.FH_PSTAT_LSTATE 1) * 2 ^ 24
  Ans.ok [w0, w1, bitsOf t 0 20] d

/-- SYS_RESET: a warm reset follows 1 ms after the reply. -/
def sysReset (c : Cmd) (mem : List Host.Cell) (d : Device) : Ans :=
  if c.arg mem d 0 ≠ confirmWord then Ans.fail stBADFIELD 0 d
  else Ans.ok [] { d with laters := d.laters ++ [⟨d.ticks + ticksPerMs, 0, 4⟩] }

/-! ## PATH (R434) -/

/-- PATH_ENABLE. -/
def cmdPathEnable (c : Cmd) (mem : List Host.Cell) (d : Device) : Ans :=
  let en := bitsOf (c.arg mem d 2) 0 1
  let mask := c.mask mem d 0
  let off := ((maskPaths mask).filter fun p => d.on (L.PATH_CFG_EN p)).foldl (fun n p => n + 2 ^ p) 0
  let m := applyMask pathRanges mask (fun _ _ => false) (fun o p d =>
    if d.get (L.PATH_CFG_EN p) = en then (0, d)
    else if en = 0 then (0, fieldStore o (A.PATH_CFG p) [(L.PATH_CFG_EN p, 0)] mem d)
    else
      let d := fieldStore o (A.RXADC_CFG p) [(L.RXADC_CFG_EN p, 1)] mem d
      let d := fieldStore o (A.TXDAC_CFG p) [(L.TXDAC_CFG_EN p, 1)] mem d
      let d := fieldStore o (A.PATH_CFG p) [(L.PATH_CFG_EN p, 1)] mem d
      (0, fieldStore o (A.TXDAC_MUTE p) [(L.TXDAC_MUTE_MUTE p, 0)] mem d)) d
  if en = 0 && off ≠ 0 then { m.ans with wait := some (2, [off]) } else m.ans

/-- The path is back in service, or on its way. -/
def Device.pathBack (d : Device) (p : Nat) : Bool := d.pathState p == 1 || d.pathState p == 2 || d.pathState p == 3

/-- PATH_RETURN. -/
def cmdPathReturn (c : Cmd) (mem : List Host.Cell) (d : Device) : Ans :=
  let w := c.arg mem d 2
  (applyMask pathRanges (c.mask mem d 0) (fun p d => d.pathState p != 5 && !d.pathBack p) (fun o p d =>
    if d.pathBack p then (0, d)
    else (0, fieldStore o (A.PATH_CTL p)
      [(L.PATH_CTL_RET_GO p, 1), (L.PATH_CTL_RET_TMO p, bitsOf w 16 8), (L.PATH_CTL_LEN p, bitsOf w 0 8)] mem d)) d).ans

/-- PATH_OUT: final when every path applied reads OUT. -/
def cmdPathOut (c : Cmd) (mem : List Host.Cell) (d : Device) : Ans :=
  let m := applyMask pathRanges (c.mask mem d 0) (fun p d => d.pathState p == 0) (fun o p d =>
    if d.pathState p = 5 then (0, d) else (0, fieldStore o (A.PATH_CTL p) [(L.PATH_CTL_OUT_GO p, 1)] mem d)) d
  { m.ans with wait := some (1, [m.applied]) }

/-- PATH_FE: a refused program leaves the path's registers as they were. -/
def cmdPathFe (c : Cmd) (mem : List Host.Cell) (d : Device) : Ans :=
  (applyMask pathRanges (c.mask mem d 0) (fun _ _ => false) (fun o p d =>
    let regs := [A.PATH_FE_PA p, A.PATH_FE_TR p, A.PATH_FE_LNA p]
    let old := regs.map fun a => (a, d.rd a)
    let d := beadWrite o (regs.zip ((List.range 3).map fun k => c.arg mem d (2 + k))) mem d
    let (err, d) := raises (L.PATH_EVENT_FE_ERR p) (fieldStore o (A.PATH_CTL p) [(L.PATH_CTL_FE_GO p, 1)] mem) d
    if err then (1, beadWrite o old mem d) else (0, d)) d).bare

/-- PATH_POLICY. -/
def cmdPathPolicy (c : Cmd) (mem : List Host.Cell) (d : Device) : Ans :=
  let w := c.arg mem d 2
  (applyMask pathRanges (c.mask mem d 0) (fun _ _ => false) (fun o p d =>
    (0, busWrite o (A.PATH_CFG p) 4 (w + d.get (L.PATH_CFG_EN p) * 2 ^ 31) mem d)) d).bare

/-- PATH_TUNE. -/
def cmdPathTune (c : Cmd) (mem : List Host.Cell) (d : Device) : Ans :=
  let w := c.arg mem d 0
  let p := bitsOf w 0 6
  let o := pathOwner p
  if (d.pathc p).search.isSome then Ans.fail stSTATE 2 d
  else
    let xs := (List.range 16).map fun k => (A.PATH_TUNTAB p k, c.arg mem d (2 + k))
    let mm := c.arg mem d 1
    let d := busWrite o (A.PATH_MM p) 4 mm mem (beadWrite o xs mem d)
    Ans.ok [] (if bitsOf w 31 1 = 0 then d
      else fieldStore o (A.PATH_SRCH p) [(L.PATH_SRCH_GO p, 1), (L.PATH_SRCH_N p, bitsOf w 8 4),
        (L.PATH_SRCH_CUR p, bitsOf w 12 4), (L.PATH_SRCH_TSETTLE p, bitsOf w 16 8)] mem d)

/-- PATH_AIR: a refused pattern leaves the registers as they were. -/
def cmdPathAir (c : Cmd) (mem : List Host.Cell) (d : Device) : Ans :=
  let regs := A.AIR_CFG :: (List.range 35).map fun k => A.AIR_PAT k
  let old := regs.map fun a => (a, d.rd a)
  let pat := (List.range 35).map fun k => (A.AIR_PAT k, c.arg mem d (1 + k))
  let cfg := c.arg mem d 0
  let (err, d) := raises L.AIR_STAT_ERR (fun d => busWrite 1 A.AIR_CFG 4 (2 ^ 31 + cfg) mem (beadWrite 1 pat mem d)) d
  if err then Ans.fail stREFUSED 1 (beadWrite 1 old mem d) else ⟨stOK, 0, [], some (3, []), d⟩

/-- PATH_COEX. -/
def cmdPathCoex (c : Cmd) (mem : List Host.Cell) (d : Device) : Ans :=
  let k := bitsOf (c.arg mem d 0) 0 2
  Ans.ok [] (beadWrite 1 [(A.COEX_CFG k, c.arg mem d 1), (A.COEX_TIME k, c.arg mem d 2)] mem d)

/-- PATH_TUNER. -/
def cmdPathTuner (c : Cmd) (mem : List Host.Cell) (d : Device) : Ans :=
  let w := c.arg mem d 0
  let k := bitsOf w 0 3
  let push := bitsOf w 4 1 = 1
  if bitsOf w 5 2 = 3 then Ans.fail stBADFIELD 0 d
  else if push && 16 ≤ (tabGet d.tuners [] k).length then Ans.fail stREFUSED 1 d
  else
    let word := c.arg mem d 2
    let d := busWrite 1 (A.TUN_CFG k) 4 (c.arg mem d 1) mem d
    Ans.ok [] (if push then
        fieldStore 1 (A.TUN_PUSH k) [(L.TUN_PUSH_GO k, 1), (L.TUN_PUSH_WHEN k, bitsOf w 5 2), (L.TUN_PUSH_M k, bitsOf w 8 3)] mem
          (busWrite 1 (A.TUN_DATA k) 4 word mem d)
      else d)

/-- PATH_QUERY. -/
def cmdPathQuery (c : Cmd) (mem : List Host.Cell) (d : Device) : Ans :=
  let p := bitsOf (c.arg mem d 0) 0 6
  cmdQuery (pathOwner p) [A.PATH_STAT p, A.PATH_WHY p, A.PATH_MMRES p, A.RXADC_STAT p, A.TXDAC_STAT p, A.DMP_PSTAT p] d

/-! ## Meanings -/

/-- SYS_INFO (R433). -/
def execSysInfo (s : State) : Host.Outcome State Fault Refusal := act .sysInfo s (serve 0x0100 sysInfo)
/-- SYS_STATUS (R433). -/
def execSysStatus (s : State) : Host.Outcome State Fault Refusal := act .sysStatus s (serve 0x0101 sysStatus)
/-- SYS_RESET (R433). -/
def execSysReset (s : State) : Host.Outcome State Fault Refusal := act .sysReset s (serve 0x0102 sysReset)
/-- PATH_ENABLE (R434). -/
def execPathEnable (s : State) : Host.Outcome State Fault Refusal := act .pathEnable s (serve 0x0200 cmdPathEnable)
/-- PATH_RETURN (R434). -/
def execPathReturn (s : State) : Host.Outcome State Fault Refusal := act .pathReturn s (serve 0x0201 cmdPathReturn)
/-- PATH_OUT (R434). -/
def execPathOut (s : State) : Host.Outcome State Fault Refusal := act .pathOut s (serve 0x0202 cmdPathOut)
/-- PATH_FE (R434). -/
def execPathFe (s : State) : Host.Outcome State Fault Refusal := act .pathFe s (serve 0x0203 cmdPathFe)
/-- PATH_POLICY (R434). -/
def execPathPolicy (s : State) : Host.Outcome State Fault Refusal := act .pathPolicy s (serve 0x0204 cmdPathPolicy)
/-- PATH_TUNE (R434). -/
def execPathTune (s : State) : Host.Outcome State Fault Refusal := act .pathTune s (serve 0x0205 cmdPathTune)
/-- PATH_AIR (R434). -/
def execPathAir (s : State) : Host.Outcome State Fault Refusal := act .pathAir s (serve 0x0206 cmdPathAir)
/-- PATH_COEX (R434). -/
def execPathCoex (s : State) : Host.Outcome State Fault Refusal := act .pathCoex s (serve 0x0207 cmdPathCoex)
/-- PATH_TUNER (R434). -/
def execPathTuner (s : State) : Host.Outcome State Fault Refusal := act .pathTuner s (serve 0x0208 cmdPathTuner)
/-- PATH_QUERY (R434). -/
def execPathQuery (s : State) : Host.Outcome State Fault Refusal := act .pathQuery s (serve 0x0209 cmdPathQuery)

end Sys2Proof.Machine
end

