-- ==== Sys2Proof/Machine/CmdTime.lean ====
section
/-! DEFINITION. The TIME, MON and PWR families of Ikirik (R441–R443). -/
namespace Sys2Proof.Machine

/-! ## TIME (R441) -/

/-- TIME_GET: one capture of the counter, TIME_STAT and TIME_UNC. -/
def cmdTimeGet (_ : Cmd) (_ : List Host.Cell) (d : Device) : Ans :=
  cmdQuery 14 [A.TIME_NOW_W0, A.TIME_NOW_W1, A.TIME_NOW_W2, A.TIME_NOW_W3, A.TIME_STAT, A.TIME_UNC] d

/-- TIME_PTP. -/
def cmdTimePtp (c : Cmd) (mem : List Host.Cell) (d : Device) : Ans :=
  let w := c.arg mem d 0
  let w1 := c.arg mem d 1
  let ptp := [(L.FH_PTP_TC_EN, bitsOf w 8 1), (L.FH_PTP_DOMAIN, bitsOf w 0 8)]
  if d.on L.FH_LOCK_LOCK && ptp.any fun x => d.get x.1 != x.2 then Ans.fail stSTATE 1 d
  else
    let d := fieldStore 14 A.TIME_CFG [(L.TIME_CFG_PRIM, bitsOf w 9 1)] mem (fieldStore 14 A.FH_PTP ptp mem d)
    Ans.ok [] { d with ptpIntervals := some w1, ptpAnnexE := bitsOf w 10 1 == 1 }

/-- TIME_SET. -/
def cmdTimeSet (c : Cmd) (mem : List Host.Cell) (d : Device) : Ans :=
  let ns := c.arg mem d 0
  let v := d.get L.TIME_STAT_VSTATE
  if 10 ^ 9 ≤ ns then Ans.fail stBADFIELD 0 d
  else if v = 2 || v = 3 then Ans.fail stSTATE 1 d
  else Ans.ok [] (beadWrite 14 [(A.TIME_SET_W0, ns), (A.TIME_SET_W1, c.arg mem d 1), (A.TIME_SET_W2, c.arg mem d 2)] mem d)

/-- TIME_FRAME. -/
def cmdTimeFrame (c : Cmd) (mem : List Host.Cell) (d : Device) : Ans :=
  let add := c.arg mem d 1
  let foff := c.arg mem d 0
  let old := d.rd A.TIME_FRAME
  if add ≠ d.get L.TIME_CFG_FN_ADD && (List.range 8).any fun i => (d.grd i).of.en then Ans.fail stSTATE 1 d
  else
    let (err, d) := raises L.TIME_EVENT_INC_ERR (busWrite 14 A.TIME_FRAME 4 foff mem) d
    if err then Ans.fail stREFUSED 1 (d.wr A.TIME_FRAME old)
    else Ans.ok [] (fieldStore 14 A.TIME_CFG [(L.TIME_CFG_FN_ADD, add)] mem d)

/-- TIME_PULSE: the highest word of TP_START comes last, since it arms with what the other registers hold (R378). -/
def cmdTimePulse (c : Cmd) (mem : List Host.Cell) (d : Device) : Ans :=
  let k := bitsOf (c.arg mem d 0) 0 3
  let w := c.arg mem d
  let low := [(A.TP_CFG k, w 1), (A.TP_START_W0 k, w 2), (A.TP_START_W1 k, w 3), (A.TP_PERIOD k, w 5), (A.TP_WIDTH k, w 6)]
  let (err, d) := raises L.TIME_EVENT_TP_ERR (fun d => busWrite 14 (A.TP_START_W2 k) 4 (w 4) mem (beadWrite 14 low mem d)) d
  if err then Ans.fail stREFUSED 1 d else Ans.ok [] d

/-- The entries of a capture input, removed one after another. -/
def captureTake (i : Nat) : Nat → Device → List Nat × Device
  | 0, d => ([], d)
  | n + 1, d =>
    let (ws, d) := beadRead 14 [A.TCAP_ENTRY_W0 i, A.TCAP_ENTRY_W1 i, A.TCAP_ENTRY_W2 i] d
    let (rest, d) := captureTake i n d
    (ws ++ rest, d)

/-- TIME_CAPTURE. -/
def cmdTimeCapture (c : Cmd) (mem : List Host.Cell) (d : Device) : Ans :=
  let w := c.arg mem d 0
  let i := bitsOf w 0 1
  let d := fieldStore 14 (A.TCAP_CFG i) [(L.TCAP_CFG_EN i, bitsOf w 1 1), (L.TCAP_CFG_EDGE i, bitsOf w 2 2)] mem d
  let n := min 8 (d.caps i).length
  let (ws, d) := captureTake i n d
  Ans.ok (n :: ws) d

/-- TIME_EMBCAL: final when the measurement ends. -/
def cmdTimeEmbcal (c : Cmd) (mem : List Host.Cell) (d : Device) : Ans :=
  let n := c.arg mem d 0
  let unc := c.arg mem d 1
  if d.get L.TIME_STAT_VSTATE ≠ 2 then Ans.fail stSTATE 1 d
  else
    let d := busWrite 14 A.TIME_EVENT 4 (2 ^ L.TIME_EVENT_CAL_ERR.lo + 2 ^ L.TIME_EVENT_CAL_DONE.lo) mem d
    let d := fieldStore 14 A.TIME_UNCRATE [(L.TIME_UNCRATE_EMB_UNC, unc)] mem d
    let d := fieldStore 14 A.EMB_CAL [(L.EMB_CAL_GO, 1), (L.EMB_CAL_N, n)] mem d
    ⟨stOK, 0, [], some (5, []), d⟩

/-! ## MON (R442) -/

/-- The entries a command names: their count, 0 standing for 64, and the first. -/
def entrySpan (w : Nat) : Nat × Nat := (if bitsOf w 8 6 = 0 then 64 else bitsOf w 8 6, bitsOf w 0 6)

/-- MON_TABLE. -/
def cmdMonTable (c : Cmd) (mem : List Host.Cell) (d : Device) : Ans :=
  let (n, first) := entrySpan (c.arg mem d 0)
  if 64 < first + n then Ans.fail stBADFIELD 0 d
  else if d.on L.MON_STAT_RUN_ACT then Ans.fail stSTATE 1 d
  else
    let xs := (List.range (4 * n)).map fun k => (A.MON_ENTRY (first + k / 4) (k % 4), c.arg mem d (1 + k))
    Ans.ok [] (beadWrite 15 xs mem d)

/-- MON_RUN. -/
def cmdMonRun (c : Cmd) (mem : List Host.Cell) (d : Device) : Ans :=
  let w := c.arg mem d 0
  let d := busWrite 15 A.MON_TRIG 4 (c.arg mem d 1) mem d
  Ans.ok [] (fieldStore 15 A.MON_CTL [(L.MON_CTL_RUN, bitsOf w 0 1), (L.MON_CTL_LP, bitsOf w 1 1)] mem d)

/-- MON_READ. -/
def cmdMonRead (c : Cmd) (mem : List Host.Cell) (d : Device) : Ans :=
  let (n, first) := entrySpan (c.arg mem d 0)
  if 64 < first + n then Ans.fail stBADFIELD 0 d
  else cmdQuery 15 ((List.range n).flatMap fun k =>
    [A.MON_RES_W0 (first + k), A.MON_RES_W1 (first + k), A.MON_RES_W2 (first + k), A.MON_RES_W3 (first + k)]) d

/-- MON_PWM (R482). -/
def cmdMonPwm (c : Cmd) (mem : List Host.Cell) (d : Device) : Ans :=
  let j := bitsOf (c.arg mem d 0) 0 2
  let f := c.arg mem d 1
  let duty := min 65536 (c.arg mem d 2)
  if f < 1 || 1024000 < f then Ans.fail stBADFIELD 1 d
  else
    let per := (2 * 15360000 + f) / (2 * f)
    let d := fieldStore 15 (A.MON_PWM_CFG j) [(L.MON_PWM_CFG_EN j, 1), (L.MON_PWM_CFG_PER j, per)] mem d
    Ans.ok [] (fieldStore 15 (A.MON_PWM_DUTY j) [(L.MON_PWM_DUTY_DUTY j, duty)] mem d)

/-! ## PWR (R443) -/

/-- PWR_LEVEL: final when the level is in force. -/
def cmdPwrLevel (c : Cmd) (mem : List Host.Cell) (d : Device) : Ans :=
  let level := c.arg mem d 0
  if level < 1 || 4 < level then Ans.fail stBADFIELD 0 d
  else if d.on L.PWR_LSTAT_CHG then Ans.fail stBUSY 2 d
  else levelAns (fieldStore 15 A.PWR_LCTL [(L.PWR_LCTL_GO, 1), (L.PWR_LCTL_LEVEL, level)] mem d)

/-- PWR_SLEEP: the entry starts 1 ms after the reply; during a level change BUSY (R495). -/
def cmdPwrSleep (c : Cmd) (mem : List Host.Cell) (d : Device) : Ans :=
  let st := bitsOf (c.arg mem d 0) 0 2
  if st = 0 then Ans.fail stBADFIELD 0 d
  else if d.on L.PWR_LSTAT_CHG then Ans.fail stBUSY 2 d
  else if 2 ≤ st && ((List.range 8).any (fun i => (d.grd i).of.en) || (List.range 64).any fun p => d.pathState p != 0) then
    Ans.fail stSTATE 1 d
  else
    let d := busWrite 15 A.PWR_WAKE_EN 4 (c.arg mem d 1) mem d
    Ans.ok [] { d with laters := d.laters ++ [⟨d.ticks + ticksPerMs, 1, st⟩] }

/-- The domain of a path. -/
def pathDomain (p : Nat) : Nat := 32 + p
/-- The command interface's vote (R488). -/
def cmdVote : Nat := 18

/-- PWR_VOTE. -/
def cmdPwrVote (c : Cmd) (mem : List Host.Cell) (d : Device) : Ans :=
  let on := bitsOf (c.arg mem d 2) 0 1 = 1
  (applyMask [(15, 0, 64)] (c.mask mem d 0) (fun p d => !on && d.pathState p != 0) (fun o p d =>
    (0, busWrite o (if on then A.PWR_VSET (pathDomain p) else A.PWR_VCLR (pathDomain p)) 4 (2 ^ cmdVote) mem d)) d).ans

/-- PWR_QUERY. -/
def cmdPwrQuery (_ : Cmd) (_ : List Host.Cell) (d : Device) : Ans :=
  let votes := ((List.range 64).filter fun p => d.voted (pathDomain p) cmdVote).foldl (fun n p => n + 2 ^ p) 0
  Ans.ok (d.level :: lowWords 2 votes ++ [d.levelDetail]) d

/-! ## Meanings -/

/-- TIME_GET (R441). -/
def execTimeGet (s : State) : Host.Outcome State Fault Refusal := act .timeGet s (serve 0x0700 cmdTimeGet)
/-- TIME_PTP (R441). -/
def execTimePtp (s : State) : Host.Outcome State Fault Refusal := act .timePtp s (serve 0x0701 cmdTimePtp)
/-- TIME_SET (R441). -/
def execTimeSet (s : State) : Host.Outcome State Fault Refusal := act .timeSet s (serve 0x0702 cmdTimeSet)
/-- TIME_FRAME (R441). -/
def execTimeFrame (s : State) : Host.Outcome State Fault Refusal := act .timeFrame s (serve 0x0703 cmdTimeFrame)
/-- TIME_PULSE (R441). -/
def execTimePulse (s : State) : Host.Outcome State Fault Refusal := act .timePulse s (serve 0x0704 cmdTimePulse)
/-- TIME_CAPTURE (R441). -/
def execTimeCapture (s : State) : Host.Outcome State Fault Refusal := act .timeCapture s (serve 0x0705 cmdTimeCapture)
/-- TIME_EMBCAL (R441). -/
def execTimeEmbcal (s : State) : Host.Outcome State Fault Refusal := act .timeEmbcal s (serve 0x0706 cmdTimeEmbcal)
/-- MON_TABLE (R442). -/
def execMonTable (s : State) : Host.Outcome State Fault Refusal := act .monTable s (serve 0x0800 cmdMonTable)
/-- MON_RUN (R442). -/
def execMonRun (s : State) : Host.Outcome State Fault Refusal := act .monRun s (serve 0x0801 cmdMonRun)
/-- MON_READ (R442). -/
def execMonRead (s : State) : Host.Outcome State Fault Refusal := act .monRead s (serve 0x0802 cmdMonRead)
/-- MON_PWM (R442, R482). -/
def execMonPwm (s : State) : Host.Outcome State Fault Refusal := act .monPwm s (serve 0x0803 cmdMonPwm)
/-- PWR_LEVEL (R443). -/
def execPwrLevel (s : State) : Host.Outcome State Fault Refusal := act .pwrLevel s (serve 0x0900 cmdPwrLevel)
/-- PWR_SLEEP (R443). -/
def execPwrSleep (s : State) : Host.Outcome State Fault Refusal := act .pwrSleep s (serve 0x0901 cmdPwrSleep)
/-- PWR_VOTE (R443). -/
def execPwrVote (s : State) : Host.Outcome State Fault Refusal := act .pwrVote s (serve 0x0902 cmdPwrVote)
/-- PWR_QUERY (R443). -/
def execPwrQuery (s : State) : Host.Outcome State Fault Refusal := act .pwrQuery s (serve 0x0903 cmdPwrQuery)

end Sys2Proof.Machine
end

