-- ==== Sys2Proof/Machine/CmdRun.lean ====
section
/-! DEFINITION. Every opcode's program in one table, for commands that wait for a power domain (R491), and the tick. -/
namespace Sys2Proof.Machine

/-- What an opcode does (R433–R446). -/
def cmdRun (op : Nat) : Option Runner :=
  match op with
  | 0x0100 => some sysInfo
  | 0x0101 => some sysStatus
  | 0x0102 => some sysReset
  | 0x0200 => some cmdPathEnable
  | 0x0201 => some cmdPathReturn
  | 0x0202 => some cmdPathOut
  | 0x0203 => some cmdPathFe
  | 0x0204 => some cmdPathPolicy
  | 0x0205 => some cmdPathTune
  | 0x0206 => some cmdPathAir
  | 0x0207 => some cmdPathCoex
  | 0x0208 => some cmdPathTuner
  | 0x0209 => some cmdPathQuery
  | 0x0300 => some cmdCarrierSet
  | 0x0301 => some cmdCarrierStop
  | 0x0302 => some cmdCarrierQuery
  | 0x0400 => some cmdBeamLoad
  | 0x0401 => some cmdBeamSwitch
  | 0x0402 => some cmdBeamRamp
  | 0x0403 => some cmdBeamQuery
  | 0x0500 => some cmdDpdEnable
  | 0x0501 => some cmdDpdBank
  | 0x0502 => some cmdDpdSwitch
  | 0x0503 => some cmdDpdTrial
  | 0x0504 => some cmdDpdAdapt
  | 0x0505 => some cmdDpdCfg
  | 0x0506 => some cmdDpdQuery
  | 0x0600 => some cmdCalRun
  | 0x0601 => some cmdCalApply
  | 0x0602 => some cmdCalCfg
  | 0x0603 => some cmdCalNet
  | 0x0604 => some cmdCalQuery
  | 0x0700 => some cmdTimeGet
  | 0x0701 => some cmdTimePtp
  | 0x0702 => some cmdTimeSet
  | 0x0703 => some cmdTimeFrame
  | 0x0704 => some cmdTimePulse
  | 0x0705 => some cmdTimeCapture
  | 0x0706 => some cmdTimeEmbcal
  | 0x0800 => some cmdMonTable
  | 0x0801 => some cmdMonRun
  | 0x0802 => some cmdMonRead
  | 0x0803 => some cmdMonPwm
  | 0x0900 => some cmdPwrLevel
  | 0x0901 => some cmdPwrSleep
  | 0x0902 => some cmdPwrVote
  | 0x0903 => some cmdPwrQuery
  | 0x0A00 => some cmdLogCfg
  | 0x0A01 => some cmdLogRead
  | 0x0A02 => some cmdLogKeep
  | 0x0A03 => some cmdLogAck
  | 0x0A04 => some cmdLogNote
  | 0x0B00 => some cmdOtpRead
  | 0x0B01 => some cmdOtpBurn
  | 0x0B02 => some cmdOtpRevoke
  | 0x0C00 => some cmdFwStatus
  | 0x0C01 => some cmdFwLoad
  | 0x0C02 => some cmdFwFlash
  | 0x0C03 => some cmdFwActivate
  | _ => none

/-- An idle tick of the device (log 1): network time advances and the Beads look at what they wait for. -/
def idleTick (mem : List Host.Cell) (d : Device) : Device := beadTick cmdRun mem (timeTick d)

/-- A LANE block boundary with what Bead 1 does at it (R51, R497, R527). -/
def laneTurn (rxs : List RxBlock) (mem : List Host.Cell) (d : Device) : Device := modeWork mem (laneBlock rxs mem d)

/-! ## Meanings -/

/-- LANE_BLOCK_BOUNDARY (R51, R497, R527). -/
def execLaneBlockBoundary (rxs : List RxBlock) (s : State) : Host.Outcome State Fault Refusal :=
  act (.laneBlockBoundary rxs) s (laneTurn rxs)

/-- ACCESS_STALL_TIMEOUT (R492, R493). -/
def execAccessStallTimeout (m : Nat) (s : State) : Host.Outcome State Fault Refusal :=
  act (.accessStallTimeout m) s fun mem d =>
    if d.stalled.any (fun x => x.master == m) || m = 18 then waitTimeout m mem d else cmdTimeout m mem d

end Sys2Proof.Machine
end

