-- ==== Sys2Proof/Machine/Solve.lean ====
section
/-! DEFINITION. The arithmetic of the solver (R254, R255): basis signals of a slot, the accumulator, the solution of the normal
equations and the residual (log 127). -/
namespace Sys2Proof.Machine

/-! ## Floating point (log 127) -/

/-- A binary float of `p` significand bits and `e` exponent bits, as an integer in units of 2^-1074: none where it is no number. -/
def floatVal (p e w : Nat) : Option Int :=
  let ex := bitsOf w (p - 1) e
  let frac := bitsOf w 0 (p - 1)
  if ex = 2 ^ e - 1 then none
  else
    let low := 1074 - (2 ^ (e - 1) + p - 3)
    let m := if ex = 0 then frac else frac + 2 ^ (p - 1)
    let v : Int := ((m * 2 ^ (max 1 ex - 1 + low) : Nat) : Int)
    some (if bitsOf w (p - 1 + e) 1 = 1 then -v else v)

/-- The float of `n` / `d`: the one below or above in magnitude where it is none itself (log 127). -/
def floatOf (p e : Nat) (n : Int) (d : Nat) : Nat :=
  let a := n.natAbs
  if a = 0 then 0
  else
    let low : Int := 3 - (2 ^ (e - 1) : Nat) - (p : Nat)
    let guess : Int := (a.log2 : Int) - d.log2 - p
    let fit := fun (s : Int) => if 0 ≤ s then (a, d * 2 ^ s.toNat) else (a * 2 ^ (-s).toNat, d)
    let q := fun (s : Int) => (fit s).1 / (fit s).2
    let s := if q guess < 2 ^ p then guess else guess + 1
    let s := max low s
    let (x, y) := fit s
    let m := x / y
    let m := if x % y ≠ 0 && Config.roundsUp p m then m + 1 else m
    min ((s - low).toNat * 2 ^ (p - 1) + m) ((2 ^ e - 1) * 2 ^ (p - 1)) + (if n < 0 then 2 ^ (p - 1 + e) else 0)

/-! ## Basis signals (R232, R254) -/

/-- The streams of a slot that a job uses, in 2^-16: U, V, the basis X, the target, and the neighbours. -/
structure SolveIn where
  x : Sig
  target : Sig
  side : Nat → Sig

/-- Stream `n` of slot `j`, in 2^-16; what lies before or behind it is not in the slot: free values (log 127). -/
def slotStream (m : List Host.Cell) (j n : Nat) : Sig :=
  let base := slotBase j + 0x10000 * (n + 1)
  let data := ((List.range 16384).map fun i => iqOf (memWord m (base + 4 * i)).toNat).toArray
  fun i => if 0 ≤ i && i < 16384 then cxScale 65536 (data.getD i.toNat cx0) else Config.beside j i

/-- Y / G at a sample, G being the loop gain of the slot's streams (R244): `num` is Σ Y V* and `pow` Σ |V|². -/
def overGain (num : Cx) (pow : Nat) (y : Cx) : Cx :=
  cxRound (cxNorm num) (cxScale pow (cxMul y (cxConj num)))

/-- What a job reads of its slot, by XSEL and DSEL (R254); `g` is Y / G. -/
def solveIn (m : List Host.Cell) (j xsel dsel : Nat) (g : Sig) : SolveIn :=
  let u := slotStream m j 0
  let v := slotStream m j 1
  let x := if xsel = 0 then u else g
  ⟨x, fun i => if dsel = 0 then cxSub (v i) (x i) else cxSub (g i) (u i), fun k => slotStream m j (3 + k)⟩

/-- A basis signal at sample `i`, in 2^-32: the term with coefficient 1 (R232). -/
def basisAt (s : SolveIn) (desc : Nat) (i : Int) : Cx :=
  let slot := bitsOf desc 28 2
  let at' := i - bitsOf desc 20 4
  let x := (if bitsOf desc 30 1 = 1 then s.side slot else s.x) at'
  let e := (if bitsOf desc 27 1 = 1 then s.side slot else s.x) (at' - signedOf 4 (bitsOf desc 16 4))
  cxScale (2 ^ bitsOf desc 8 4) (cxRound (2 ^ 31) (cxScale (envPower (isqrt (cxNorm e * 4)) (bitsOf desc 24 3)) x))

/-! ## The normal equations -/

/-- The upper triangle of a 32-by-32 matrix, row by row. -/
def triangle : List (Nat × Nat) := (List.range 32).flatMap fun a => (List.range (32 - a)).map fun k => (a, a + k)

/-- The place of an entry in it. -/
def trianglePlace (a b : Nat) : Nat := a * (65 - a) / 2 + (b - a)

/-- The sums a job adds, in 2^-64: 528 entries Σ φ_a* φ_b, then 32 entries Σ φ_a* d; terms not enabled add zero. -/
def solveSums (phi : List (Option (Array Cx))) (target : Array Cx) : List Cx :=
  let dot := fun (a b : Option (Array Cx)) =>
    match a, b with
    | some a, some b => cxSum ((a.toList.zip b.toList).map fun x => cxMul (cxConj x.1) x.2)
    | _, _ => cx0
  triangle.map (fun ab => dot (phi.getD ab.1 none) (phi.getD ab.2 none)) ++ phi.map fun a => dot a (some target)

/-- One step of fraction-free elimination: the rows below the pivot row, without its column. -/
def eliminate (prev : Int) (row : List Cx) (rows : List (List Cx)) : List (List Cx) :=
  let p := row.headD cx0
  rows.map fun r =>
    let h := r.headD cx0
    (r.tail.zip row.tail).map fun x => cxMap (· / prev) (cxSub (cxMul p x.1) (cxMul h x.2))

/-- The pivot rows of an augmented Hermitian system: none where a Cholesky pivot is not positive (R255). -/
def pivotRows : Nat → Int → List (List Cx) → Option (List (List Cx))
  | 0, _, _ => some []
  | n + 1, prev, rows =>
    match rows with
    | [] => some []
    | row :: rest =>
      let p := (row.headD cx0).1
      if p ≤ 0 then none else (pivotRows n p (eliminate prev row rest)).map (row :: ·)

/-- The solution over the last pivot `den`, from the pivot rows, the last first. -/
def backSolve (den : Int) : List (List Cx) → List Cx
  | [] => []
  | row :: rest =>
    let xs := backSolve den rest
    let rhs := cxScale den (row.getLastD cx0)
    let known := cxSum ((row.tail.zip xs).map fun y => cxMul y.1 y.2)
    cxMap (· / (row.headD cx0).1) (cxSub rhs known) :: xs

/-- The least-squares solution of the enabled terms (R254): numerators over a common denominator, `lambda` on the diagonal. -/
def normalSolve (on : List Nat) (acc : List Cx) (lambda : Int) : Option (List Cx × Int) :=
  let at' := fun (a b : Nat) => acc.getD (trianglePlace a b) cx0
  let entry := fun (a b : Nat) =>
    if a = b then ((at' a a).1 + lambda, 0) else if a < b then at' a b else cxConj (at' b a)
  let rows := on.map fun a => on.map (entry a) ++ [acc.getD (528 + a) cx0]
  (pivotRows on.length 1 rows).map fun rs =>
    let den := ((rs.getLastD []).headD (1, 0)).1
    (backSolve den rs, den)

/-- |d − Φ c|² times den², in 2^-64, from the sums of the job's own samples and Σ |d|². -/
def residualPower (on : List Nat) (sums : List Cx) (dd : Int) (num : List Cx) (den : Int) : Nat :=
  let at' := fun (a b : Nat) => if a ≤ b then sums.getD (trianglePlace a b) cx0 else cxConj (sums.getD (trianglePlace b a) cx0)
  let cs := on.zip num
  let cross := (cs.map fun c => (cxMul (cxConj c.2) (sums.getD (528 + c.1) cx0)).1).foldl (· + ·) 0
  let quad := (cs.map fun a => (cs.map fun b => (cxMul (cxMul (cxConj a.2) (at' a.1 b.1)) b.2).1).foldl (· + ·) 0).foldl (· + ·) 0
  (dd * den * den - 2 * den * cross + quad).toNat

/-! ## A job -/

/-- The words of a number of free values. -/
def Device.freeWords (d : Device) (n : Nat) : List Nat × Device :=
  ((List.range n).map fun k => (Config.freeValue (d.drawn + k)).toNat, { d with drawn := d.drawn + n })

/-- Two words of a 64-bit value, low first. -/
def wordPair (v : Nat) : List Nat := [v % 2 ^ 32, v / 2 ^ 32]

/-- What a job yields: accumulator words, result words and the status word; a pivot that is not positive gives zeros. -/
structure SolveOut where
  acc : List Nat
  out : List Nat
  status : Nat
  singular : Bool

/-- A job's arithmetic (R254): descriptor words `at'`, memory `m`, the accumulator it begins with, the terms. -/
def Device.solveJob (d : Device) (m : List Host.Cell) (desc : Nat → Nat) (old : List Int) (terms : List Nat) : SolveOut × Device :=
  let j := bitsOf (desc 0) 0 4
  let start := desc 20
  let n := min (desc 24) (16384 - start)
  let y := slotStream m j 2
  let whole := fun (s : Sig) => (List.range 16384).map fun (i : Nat) => cxMap (· / 65536) (s i)
  let vs := whole (slotStream m j 1)
  let num := innerSum (whole y) vs
  let pow := (vs.map cxNorm).foldl (· + ·) 0
  let s := solveIn m j (bitsOf (desc 0) 12 1) (bitsOf (desc 0) 13 1) fun i => overGain num pow (y i)
  let span := fun (f : Sig) => (sigList f start n).toArray
  let target := (span s.target).map (cxScale 2)
  let phi := terms.map fun t => if bitsOf t 31 1 = 1 then some (span (basisAt s t)) else none
  let sums := solveSums phi target
  let on := (List.range 32).filter fun t => bitsOf (terms.getD t 0) 31 1 = 1
  let total := ((sums.flatMap fun c => [c.1, c.2]).zip old).map fun x => x.1 * 2 ^ 1010 + x.2
  let bits := total.map fun v => floatOf 53 11 v (2 ^ 1074)
  let kept := bits.map fun b => (floatVal 53 11 b).getD 0
  let acc := (List.range 560).map fun k => (kept.getD (2 * k) 0, kept.getD (2 * k + 1) 0)
  let dd := (target.toList.map fun x => (cxNorm x : Int)).foldl (· + ·) 0
  let words := bits.flatMap wordPair
  match normalSolve on acc ((floatVal 24 8 (desc 16)).getD 0) with
  | none =>
    let (v, d) := d.draw
    (⟨words, List.replicate 64 0, 2 ^ 31 + v % 65536, true⟩, d)
  | some (num, den) =>
    let coef := fun (t : Nat) =>
      match (on.zip num).find? fun x => x.1 == t with
      | some (_, c) => [floatOf 24 8 c.1 den.toNat, floatOf 24 8 c.2 den.toNat]
      | none => [0, 0]
    let res := residualPower on sums dd num den
    let all' := dd.toNat * den.toNat * den.toNat
    let cut := max res.log2 all'.log2 - 512
    let (r, d) := d.levelOr (res / 2 ^ cut) (all' / 2 ^ cut)
    (⟨words, (List.range 32).flatMap coef, encodeSigned 16 r, false⟩, d)

/-- The running job ends (R254, R255): accumulator and result are written, with zeros where a pivot was not positive.  Where the
slot has no loop gain that the job divides by, or an operand is no number, its words are free values (log 127). -/
def solverDone (m : List Host.Cell) (d : Device) : Device :=
  match d.solver with
  | [] => d
  | j :: _ =>
    if !d.solving then d
    else
      let m := memPutAll m d.memOut
      let desc := fun o => (memWord m (0x10000000 + 64 * j.desc + o)).toNat
      let mode := bitsOf (desc 0) 8 2
      let solves := mode ≠ 1
      let fresh := mode = 0
      if !sramRange (desc 8) 8960 || (!fresh && !d.sramClean (desc 8) 8960) || (solves && !sramRange (desc 12) 260) then
        solverLeave (solverStatus j.master 4 6 d)
      else
        let acc := 0x10000000 + desc 8
        let out := 0x10000000 + desc 12
        let terms := (List.range 32).map fun t => (memWord m (0x10000000 + desc 4 + 8 * t)).toNat
        let old := (List.range 1120).map fun k =>
          if fresh then some 0 else floatVal 53 11 ((memWord m (acc + 8 * k)).toNat + (memWord m (acc + 8 * k + 4)).toNat * 2 ^ 32)
        let slot := bitsOf (desc 0) 0 4
        let samples := fun n => (List.range 16384).map fun i => iqOf (memWord m (slotBase slot + 0x10000 * (n + 1) + 4 * i)).toNat
        let gained := bitsOf (desc 0) 12 2 = 0 || innerSum (samples 2) (samples 1) != cx0
        let (r, d) :=
          if gained && old.all (·.isSome) && (floatVal 24 8 (desc 16)).isSome then
            d.solveJob m desc (old.map fun x => x.getD 0) terms
          else
            let (a, d) := d.freeWords 2240
            let (o, d) := d.freeWords 65
            (⟨a, o.take 64, o.getLastD 0 % 65536, false⟩, d)
        let d := storeWords acc r.acc d
        let d := d.when solves fun d => (storeWords out r.out d).storeWord (out + 256) r.status
        solverLeave (if solves && r.singular then solverStatus j.master 4 5 d else solverStatus j.master 3 0 d)

/-- SOLVER_JOB_DONE (R254, R255). -/
def execSolverJobDone (s : State) : Host.Outcome State Fault Refusal := act .solverJobDone s solverDone

end Sys2Proof.Machine
end

