-- ==== Sys2Proof/Machine/Dispatch.lean ====
section
/-! DEFINITION. Which meaning each command has. -/
namespace Sys2Proof.Machine

/-- The effect of one command on everything but the queue. -/
def exec (i : Instr) (s : State) : Host.Outcome State Fault Refusal :=
  match i with
  | .registerWrite m addr width v => Sys2Proof.Machine.execRegisterWrite m addr width v s
  | .wideReadLowWord m addr => Sys2Proof.Machine.execWideReadLowWord m addr s
  | .wideWriteHeld m addr v => Sys2Proof.Machine.execWideWriteHeld m addr v s
  | .memoryWindowWrite m addr width v => Sys2Proof.Machine.execMemoryWindowWrite m addr width v s
  | .lockBitSet m block => Sys2Proof.Machine.execLockBitSet m block s
  | .hostviolClr m => Sys2Proof.Machine.execHostviolClr m s
  | .laneBlockBoundary rxs => Sys2Proof.Machine.execLaneBlockBoundary rxs s
  | .gridSymbolBoundary idx fn n => Sys2Proof.Machine.execGridSymbolBoundary idx fn n s
  | .frameBoundary alignOff => Sys2Proof.Machine.execFrameBoundary alignOff s
  | .halfSubframeBoundary half => Sys2Proof.Machine.execHalfSubframeBoundary half s
  | .xfRequest m o mode fade target start => Sys2Proof.Machine.execXfRequest m o mode fade target start s
  | .xfCancel m o => Sys2Proof.Machine.execXfCancel m o s
  | .warmReset cause => Sys2Proof.Machine.execWarmReset cause s
  | .mdllBandChosen band => Sys2Proof.Machine.execMdllBandChosen band s
  | .bandEdge ctrl => Sys2Proof.Machine.execBandEdge ctrl s
  | .clkRelockWrite m => Sys2Proof.Machine.execClkRelockWrite m s
  | .clkRealignWrite m => Sys2Proof.Machine.execClkRealignWrite m s
  | .convLpWrite m v => Sys2Proof.Machine.execConvLpWrite m v s
  | .jumpMeasured jump => Sys2Proof.Machine.execJumpMeasured jump s
  | .clkAuxdivWrite m idx k n => Sys2Proof.Machine.execClkAuxdivWrite m idx k n s
  | .auxOffsetWrite m target => Sys2Proof.Machine.execAuxOffsetWrite m target s
  | .clkOutWrite m idx v => Sys2Proof.Machine.execClkOutWrite m idx v s
  | .clkCountClr m => Sys2Proof.Machine.execClkCountClr m s
  | .rxadcEnSet m n => Sys2Proof.Machine.execRxadcEnSet m n s
  | .rxadcEnClear m n => Sys2Proof.Machine.execRxadcEnClear m n s
  | .rxadcBiasDone n => Sys2Proof.Machine.execRxadcBiasDone n s
  | .rxadcZoneWrite m n z => Sys2Proof.Machine.execRxadcZoneWrite m n z s
  | .zoneSettlingEnd n => Sys2Proof.Machine.execZoneSettlingEnd n s
  | .rxadcRotEnWrite m n v => Sys2Proof.Machine.execRxadcRotEnWrite m n v s
  | .rxadcDsaWrite m n att mode block => Sys2Proof.Machine.execRxadcDsaWrite m n att mode block s
  | .dsaApply n => Sys2Proof.Machine.execDsaApply n s
  | .sampleOverrange n => Sys2Proof.Machine.execSampleOverrange n s
  | .spareRetargetDone n => Sys2Proof.Machine.execSpareRetargetDone n s
  | .sliceHandover n ofs gain skew bw moved => Sys2Proof.Machine.execSliceHandover n ofs gain skew bw moved s
  | .dwellStart n => Sys2Proof.Machine.execDwellStart n s
  | .sliceCheckFail n slice => Sys2Proof.Machine.execSliceCheckFail n slice s
  | .sliceStuck n slice => Sys2Proof.Machine.execSliceStuck n slice s
  | .handoverCheckFail n => Sys2Proof.Machine.execHandoverCheckFail n s
  | .sliceTakeover n count => Sys2Proof.Machine.execSliceTakeover n count s
  | .obsSelWrite m k sel => Sys2Proof.Machine.execObsSelWrite m k sel s
  | .obsSettlingEnd k => Sys2Proof.Machine.execObsSettlingEnd k s
  | .txdacEnSet m p => Sys2Proof.Machine.execTxdacEnSet m p s
  | .txdacEnClear m p => Sys2Proof.Machine.execTxdacEnClear m p s
  | .txdacBiasDone p => Sys2Proof.Machine.execTxdacBiasDone p s
  | .txdacCalDone p => Sys2Proof.Machine.execTxdacCalDone p s
  | .txdacNcoCommit m p phase ftwHi => Sys2Proof.Machine.execTxdacNcoCommit m p phase ftwHi s
  | .txdacMuteWrite m p v => Sys2Proof.Machine.execTxdacMuteWrite m p v s
  | .muteRampDone p => Sys2Proof.Machine.execMuteRampDone p s
  | .segmentFault p seg cause => Sys2Proof.Machine.execSegmentFault p seg cause s
  | .segmentSweepStep p trim drift => Sys2Proof.Machine.execSegmentSweepStep p trim drift s
  | .segmentExclude p => Sys2Proof.Machine.execSegmentExclude p s
  | .guardWindow p cp => Sys2Proof.Machine.execGuardWindow p cp s
  | .segmentSwapDone p => Sys2Proof.Machine.execSegmentSwapDone p s
  | .gwWaitTimeout p => Sys2Proof.Machine.execGwWaitTimeout p s
  | .txCodeClip p code => Sys2Proof.Machine.execTxCodeClip p code s
  | .chRxctrWrite m p ctr => Sys2Proof.Machine.execChRxctrWrite m p ctr s
  | .chChgGo m k mode block => Sys2Proof.Machine.execChChgGo m k mode block s
  | .invalidRunEnd k => Sys2Proof.Machine.execInvalidRunEnd k s
  | .ducSettlingEnd p c => Sys2Proof.Machine.execDucSettlingEnd p c s
  | .coarsePowerWindow p j => Sys2Proof.Machine.execCoarsePowerWindow p j s
  | .finePowerWindow k => Sys2Proof.Machine.execFinePowerWindow k s
  | .ofChgGo m idx mode half => Sys2Proof.Machine.execOfChgGo m idx mode half s
  | .bmChgGo m idx mode half => Sys2Proof.Machine.execBmChgGo m idx mode half s
  | .symbolCommitPoint idx fn n => Sys2Proof.Machine.execSymbolCommitPoint idx fn n s
  | .dlSymbolCompute idx fn n => Sys2Proof.Machine.execDlSymbolCompute idx fn n s
  | .rodLocatedFault dir c sym errs => Sys2Proof.Machine.execRodLocatedFault dir c sym errs s
  | .beamReplayDone dir c sym => Sys2Proof.Machine.execBeamReplayDone dir c sym s
  | .checkUnlocated dir c sym errs => Sys2Proof.Machine.execCheckUnlocated dir c sym errs s
  | .spareRodMismatch dir rod c sym own errs => Sys2Proof.Machine.execSpareRodMismatch dir rod c sym own errs s
  | .bmErampGo m dir e target len => Sys2Proof.Machine.execBmErampGo m dir e target len s
  | .dpdEnWrite m p v => Sys2Proof.Machine.execDpdEnWrite m p v s
  | .dpdCapreqGo m k input path => Sys2Proof.Machine.execDpdCapreqGo m k input path s
  | .routineCaptureTick k => Sys2Proof.Machine.execRoutineCaptureTick k s
  | .obsCaptureGrant k => Sys2Proof.Machine.execObsCaptureGrant k s
  | .captureEnd k => Sys2Proof.Machine.execCaptureEnd k s
  | .captureResultsReady k => Sys2Proof.Machine.execCaptureResultsReady k s
  | .captureSlotRelease m k slot => Sys2Proof.Machine.execCaptureSlotRelease m k slot s
  | .dpdTrialGo m p holdoff j fade rbFade => Sys2Proof.Machine.execDpdTrialGo m p holdoff j fade rbFade s
  | .dpdTrialAbort m p => Sys2Proof.Machine.execDpdTrialAbort m p s
  | .trialHoldoffEnd p => Sys2Proof.Machine.execTrialHoldoffEnd p s
  | .trialTimeout p => Sys2Proof.Machine.execTrialTimeout p s
  | .dpdSjobGo m desc => Sys2Proof.Machine.execDpdSjobGo m desc s
  | .solverJobDone => Sys2Proof.Machine.execSolverJobDone s
  | .pathEnSet m p => Sys2Proof.Machine.execPathEnSet m p s
  | .pathEnClear m p => Sys2Proof.Machine.execPathEnClear m p s
  | .pathOutGo m p tmo len => Sys2Proof.Machine.execPathOutGo m p tmo len s
  | .pathRetGo m p tmo len => Sys2Proof.Machine.execPathRetGo m p tmo len s
  | .pathFeGo m p tmo len => Sys2Proof.Machine.execPathFeGo m p tmo len s
  | .airCfgGo m mode scs period lead => Sys2Proof.Machine.execAirCfgGo m mode scs period lead s
  | .burstCheck p b => Sys2Proof.Machine.execBurstCheck p b s
  | .burstMuteWithdraw p => Sys2Proof.Machine.execBurstMuteWithdraw p s
  | .feProgramEdge p line on => Sys2Proof.Machine.execFeProgramEdge p line on s
  | .burstEnd p => Sys2Proof.Machine.execBurstEnd p s
  | .returnTimeout p => Sys2Proof.Machine.execReturnTimeout p s
  | .lnaBypassEnd p => Sys2Proof.Machine.execLnaBypassEnd p s
  | .coexInputAccepted k pin level => Sys2Proof.Machine.execCoexInputAccepted k pin level s
  | .coexStuck k pin => Sys2Proof.Machine.execCoexStuck k pin s
  | .coexDelayedEdge k => Sys2Proof.Machine.execCoexDelayedEdge k s
  | .coexReqRise k b => Sys2Proof.Machine.execCoexReqRise k b s
  | .tunPushGo m k when m' => Sys2Proof.Machine.execTunPushGo m k when m' s
  | .tunerWordStart k => Sys2Proof.Machine.execTunerWordStart k s
  | .tunerWordDone k => Sys2Proof.Machine.execTunerWordDone k s
  | .mismatchInterval p => Sys2Proof.Machine.execMismatchInterval p s
  | .mismatchMeasured p => Sys2Proof.Machine.execMismatchMeasured p s
  | .pathSrchGo m p n cur settle => Sys2Proof.Machine.execPathSrchGo m p n cur settle s
  | .searchSettleEnd p => Sys2Proof.Machine.execSearchSettleEnd p s
  | .calRunGo m apply fade kind path => Sys2Proof.Machine.execCalRunGo m apply fade kind path s
  | .calRunAbort m => Sys2Proof.Machine.execCalRunAbort m s
  | .calWindowStart => Sys2Proof.Machine.execCalWindowStart s
  | .calPreconditionDone => Sys2Proof.Machine.execCalPreconditionDone s
  | .calMeasurementDone => Sys2Proof.Machine.execCalMeasurementDone s
  | .calRunEnd c => Sys2Proof.Machine.execCalRunEnd c s
  | .calApplyGo m fade path at' => Sys2Proof.Machine.execCalApplyGo m fade path at' s
  | .pilotWrite m reg value => Sys2Proof.Machine.execPilotWrite m reg value s
  | .damperPkBreak p v => Sys2Proof.Machine.execDamperPkBreak p v s
  | .damperGrantBreak p k => Sys2Proof.Machine.execDamperGrantBreak p k s
  | .damperCauseClear p v => Sys2Proof.Machine.execDamperCauseClear p v s
  | .damperCooldownEnd p => Sys2Proof.Machine.execDamperCooldownEnd p s
  | .dmpRearmGo m all path => Sys2Proof.Machine.execDmpRearmGo m all path s
  | .tripAcceptedHigh k => Sys2Proof.Machine.execTripAcceptedHigh k s
  | .tripAcceptedLow k => Sys2Proof.Machine.execTripAcceptedLow k s
  | .damperLimitWrite m addr value => Sys2Proof.Machine.execDamperLimitWrite m addr value s
  | .fhModeWrite m fwd fec25 dual mode => Sys2Proof.Machine.execFhModeWrite m fwd fec25 dual mode s
  | .linkSignalDetect q => Sys2Proof.Machine.execLinkSignalDetect q s
  | .linkAligned q => Sys2Proof.Machine.execLinkAligned q s
  | .linkUp q => Sys2Proof.Machine.execLinkUp q s
  | .linkDown q sig => Sys2Proof.Machine.execLinkDown q sig s
  | .linkRemoteFault q => Sys2Proof.Machine.execLinkRemoteFault q s
  | .fecWindow q symbols words => Sys2Proof.Machine.execFecWindow q symbols words s
  | .frameReceived q f => Sys2Proof.Machine.execFrameReceived q f s
  | .frameTransmit q => Sys2Proof.Machine.execFrameTransmit q s
  | .fdUlDepart c fn n => Sys2Proof.Machine.execFdUlDepart c fn n s
  | .tdUlDepart t => Sys2Proof.Machine.execTdUlDepart t s
  | .mgtReorderTimeout flow => Sys2Proof.Machine.execMgtReorderTimeout flow s
  | .mgtUlSend m len tag => Sys2Proof.Machine.execMgtUlSend m len tag s
  | .timeSetWrite m ns sec => Sys2Proof.Machine.execTimeSetWrite m ns sec s
  | .timeAdjWrite m adj => Sys2Proof.Machine.execTimeAdjWrite m adj s
  | .timeIncWrite m inc => Sys2Proof.Machine.execTimeIncWrite m inc s
  | .timeFoffWrite m foff => Sys2Proof.Machine.execTimeFoffWrite m foff s
  | .timeVgo m state => Sys2Proof.Machine.execTimeVgo m state s
  | .timeKick m => Sys2Proof.Machine.execTimeKick m s
  | .timePtxGo m port op len => Sys2Proof.Machine.execTimePtxGo m port op len s
  | .ptpRxPop m => Sys2Proof.Machine.execPtpRxPop m s
  | .tcapEdge idx rising => Sys2Proof.Machine.execTcapEdge idx rising s
  | .tcapEntryRead m idx => Sys2Proof.Machine.execTcapEntryRead m idx s
  | .timeEtsRead m => Sys2Proof.Machine.execTimeEtsRead m s
  | .tpStartArm m k ns sec => Sys2Proof.Machine.execTpStartArm m k ns sec s
  | .pulseDue k => Sys2Proof.Machine.execPulseDue k s
  | .pulseWidthEnd k => Sys2Proof.Machine.execPulseWidthEnd k s
  | .embCalGo m n => Sys2Proof.Machine.execEmbCalGo m n s
  | .embCalDone span => Sys2Proof.Machine.execEmbCalDone span s
  | .stampBroadcast idx => Sys2Proof.Machine.execStampBroadcast idx s
  | .tallyRecordArrive idx => Sys2Proof.Machine.execTallyRecordArrive idx s
  | .tallyEnWrite m en => Sys2Proof.Machine.execTallyEnWrite m en s
  | .tallySwrecCommit m payload sev code => Sys2Proof.Machine.execTallySwrecCommit m payload sev code s
  | .fnLatchClear m => Sys2Proof.Machine.execFnLatchClear m s
  | .tlyStatBeadRead m => Sys2Proof.Machine.execTlyStatBeadRead m s
  | .keptRingClear m => Sys2Proof.Machine.execKeptRingClear m s
  | .scrubCheck w result => Sys2Proof.Machine.execScrubCheck w result s
  | .watchdogExpiry n pc => Sys2Proof.Machine.execWatchdogExpiry n pc s
  | .mbxWdogArm m n period => Sys2Proof.Machine.execMbxWdogArm m n period s
  | .mbxWdogKick m n => Sys2Proof.Machine.execMbxWdogKick m n s
  | .mbxBindWrite m c en sender recv => Sys2Proof.Machine.execMbxBindWrite m c en sender recv s
  | .mbxRingCommit m c offset tag => Sys2Proof.Machine.execMbxRingCommit m c offset tag s
  | .mbxPopRead m c width => Sys2Proof.Machine.execMbxPopRead m c width s
  | .smbAddr a => Sys2Proof.Machine.execSmbAddr a s
  | .smbWrite v => Sys2Proof.Machine.execSmbWrite v s
  | .smbRing c tag offset => Sys2Proof.Machine.execSmbRing c tag offset s
  | .smbPop complete => Sys2Proof.Machine.execSmbPop complete s
  | .dmaGo m ch => Sys2Proof.Machine.execDmaGo m ch s
  | .dmaStop m ch => Sys2Proof.Machine.execDmaStop m ch s
  | .dmaDescriptorFetched ch => Sys2Proof.Machine.execDmaDescriptorFetched ch s
  | .dmaBurstDone ch issued => Sys2Proof.Machine.execDmaBurstDone ch issued s
  | .dmaQlvlWrite m q level => Sys2Proof.Machine.execDmaQlvlWrite m q level s
  | .dmaQadjWrite m q delta => Sys2Proof.Machine.execDmaQadjWrite m q delta s
  | .dmaQcfgCommit m q v => Sys2Proof.Machine.execDmaQcfgCommit m q v s
  | .dmaCcfgWrite m ch v => Sys2Proof.Machine.execDmaCcfgWrite m ch v s
  | .dmaCdescWrite m ch addr => Sys2Proof.Machine.execDmaCdescWrite m ch addr s
  | .monRunSet m => Sys2Proof.Machine.execMonRunSet m s
  | .monRunClear m => Sys2Proof.Machine.execMonRunClear m s
  | .monLpWrite m lp => Sys2Proof.Machine.execMonLpWrite m lp s
  | .monTrigWrite m v => Sys2Proof.Machine.execMonTrigWrite m v s
  | .monSetupEnd k => Sys2Proof.Machine.execMonSetupEnd k s
  | .monIntegrationEnd k raw => Sys2Proof.Machine.execMonIntegrationEnd k raw s
  | .monResultStored k => Sys2Proof.Machine.execMonResultStored k s
  | .monDelayEnd k => Sys2Proof.Machine.execMonDelayEnd k s
  | .monTriggerTimeout k => Sys2Proof.Machine.execMonTriggerTimeout k s
  | .mainsEdge cycles => Sys2Proof.Machine.execMainsEdge cycles s
  | .pwmPeriodStart j => Sys2Proof.Machine.execPwmPeriodStart j s
  | .pwrVsetWrite m n bits => Sys2Proof.Machine.execPwrVsetWrite m n bits s
  | .pwrVclrWrite m n bits => Sys2Proof.Machine.execPwrVclrWrite m n bits s
  | .domainPowerGood n => Sys2Proof.Machine.execDomainPowerGood n s
  | .domainPowerupFail n => Sys2Proof.Machine.execDomainPowerupFail n s
  | .domainHystExpiry n => Sys2Proof.Machine.execDomainHystExpiry n s
  | .domainDownDone n => Sys2Proof.Machine.execDomainDownDone n s
  | .accessStallTimeout m => Sys2Proof.Machine.execAccessStallTimeout m s
  | .pwrLctlGo m level => Sys2Proof.Machine.execPwrLctlGo m level s
  | .pwrSctlGo m st => Sys2Proof.Machine.execPwrSctlGo m st s
  | .sleepSaveDone e => Sys2Proof.Machine.execSleepSaveDone e s
  | .sleepEnterDone e => Sys2Proof.Machine.execSleepEnterDone e s
  | .wakeEvent src pin edge => Sys2Proof.Machine.execWakeEvent src pin edge s
  | .timeBridgeLoad e => Sys2Proof.Machine.execTimeBridgeLoad e s
  | .bootReadyWrite m => Sys2Proof.Machine.execBootReadyWrite m s
  | .bootFwWrite m => Sys2Proof.Machine.execBootFwWrite m s
  | .bootDbgGo m offset => Sys2Proof.Machine.execBootDbgGo m offset s
  | .registerRead m addr width => Sys2Proof.Machine.execRegisterRead m addr width s
  | .remoteFaultEnd q => Sys2Proof.Machine.execRemoteFaultEnd q s
  | .pcieConfigurationRequest op => Sys2Proof.Machine.execPcieConfigurationRequest op s
  | .xinStop e => Sys2Proof.Machine.execXinStop e s
  | .refFreqMeasurement err => Sys2Proof.Machine.execRefFreqMeasurement err s
  | .jtagHalt n => Sys2Proof.Machine.execJtagHalt n s
  | .jtagResume n => Sys2Proof.Machine.execJtagResume n s
  | .railG1Valid => Sys2Proof.Machine.execRailG1Valid s
  | .porstNAssert => Sys2Proof.Machine.execPorstNAssert s
  | .porstNRelease => Sys2Proof.Machine.execPorstNRelease s
  | .perstNRelease => Sys2Proof.Machine.execPerstNRelease s
  | .railUndervoltage => Sys2Proof.Machine.execRailUndervoltage s
  | .emberRailLoss => Sys2Proof.Machine.execEmberRailLoss s
  | .railResetRelease => Sys2Proof.Machine.execRailResetRelease s
  | .thermalTrip => Sys2Proof.Machine.execThermalTrip s
  | .thermalTripClear => Sys2Proof.Machine.execThermalTripClear s
  | .thermalReset => Sys2Proof.Machine.execThermalReset s
  | .thermalResetRelease => Sys2Proof.Machine.execThermalResetRelease s
  | .mdllLockSet => Sys2Proof.Machine.execMdllLockSet s
  | .mdllUnlock => Sys2Proof.Machine.execMdllUnlock s
  | .mdllLockFail => Sys2Proof.Machine.execMdllLockFail s
  | .dblLockSet => Sys2Proof.Machine.execDblLockSet s
  | .dblUnlock => Sys2Proof.Machine.execDblUnlock s
  | .alignmentStrobe => Sys2Proof.Machine.execAlignmentStrobe s
  | .refMissingEdge => Sys2Proof.Machine.execRefMissingEdge s
  | .refQualifiedReturn => Sys2Proof.Machine.execRefQualifiedReturn s
  | .coastExpired => Sys2Proof.Machine.execCoastExpired s
  | .slewComplete => Sys2Proof.Machine.execSlewComplete s
  | .fhrefclkQualified => Sys2Proof.Machine.execFhrefclkQualified s
  | .fhrefclkMissing => Sys2Proof.Machine.execFhrefclkMissing s
  | .auxOffsetStep => Sys2Proof.Machine.execAuxOffsetStep s
  | .auxLockSet => Sys2Proof.Machine.execAuxLockSet s
  | .auxUnlock => Sys2Proof.Machine.execAuxUnlock s
  | .ofdmAdmissionResult => Sys2Proof.Machine.execOfdmAdmissionResult s
  | .solverJobStart => Sys2Proof.Machine.execSolverJobStart s
  | .calRunStart => Sys2Proof.Machine.execCalRunStart s
  | .calNoWindow => Sys2Proof.Machine.execCalNoWindow s
  | .bgCalInterval => Sys2Proof.Machine.execBgCalInterval s
  | .txInhibitLow => Sys2Proof.Machine.execTxInhibitLow s
  | .txInhibitHigh => Sys2Proof.Machine.execTxInhibitHigh s
  | .fdDlMessage => Sys2Proof.Machine.execFdDlMessage s
  | .tdDlMessage => Sys2Proof.Machine.execTdDlMessage s
  | .schedMessage => Sys2Proof.Machine.execSchedMessage s
  | .weightMessage => Sys2Proof.Machine.execWeightMessage s
  | .retractMessage => Sys2Proof.Machine.execRetractMessage s
  | .mgtDlMessage => Sys2Proof.Machine.execMgtDlMessage s
  | .echoReqMessage => Sys2Proof.Machine.execEchoReqMessage s
  | .echoRspReady => Sys2Proof.Machine.execEchoRspReady s
  | .timeStepApply => Sys2Proof.Machine.execTimeStepApply s
  | .holdTimeout => Sys2Proof.Machine.execHoldTimeout s
  | .tallyRecordEmit => Sys2Proof.Machine.execTallyRecordEmit s
  | .smbAddressMatch => Sys2Proof.Machine.execSmbAddressMatch s
  | .smbStretchTimeout => Sys2Proof.Machine.execSmbStretchTimeout s
  | .smbRead => Sys2Proof.Machine.execSmbRead s
  | .smbStatus => Sys2Proof.Machine.execSmbStatus s
  | .smbAlertResponse => Sys2Proof.Machine.execSmbAlertResponse s
  | .sysInfo => Sys2Proof.Machine.execSysInfo s
  | .sysStatus => Sys2Proof.Machine.execSysStatus s
  | .sysReset => Sys2Proof.Machine.execSysReset s
  | .pathEnable => Sys2Proof.Machine.execPathEnable s
  | .pathReturn => Sys2Proof.Machine.execPathReturn s
  | .pathOut => Sys2Proof.Machine.execPathOut s
  | .pathFe => Sys2Proof.Machine.execPathFe s
  | .pathPolicy => Sys2Proof.Machine.execPathPolicy s
  | .pathTune => Sys2Proof.Machine.execPathTune s
  | .pathAir => Sys2Proof.Machine.execPathAir s
  | .pathCoex => Sys2Proof.Machine.execPathCoex s
  | .pathTuner => Sys2Proof.Machine.execPathTuner s
  | .pathQuery => Sys2Proof.Machine.execPathQuery s
  | .carrierSet => Sys2Proof.Machine.execCarrierSet s
  | .carrierStop => Sys2Proof.Machine.execCarrierStop s
  | .carrierQuery => Sys2Proof.Machine.execCarrierQuery s
  | .beamLoad => Sys2Proof.Machine.execBeamLoad s
  | .beamSwitch => Sys2Proof.Machine.execBeamSwitch s
  | .beamRamp => Sys2Proof.Machine.execBeamRamp s
  | .beamQuery => Sys2Proof.Machine.execBeamQuery s
  | .dpdEnable => Sys2Proof.Machine.execDpdEnable s
  | .dpdBank => Sys2Proof.Machine.execDpdBank s
  | .dpdSwitch => Sys2Proof.Machine.execDpdSwitch s
  | .dpdTrial => Sys2Proof.Machine.execDpdTrial s
  | .dpdAdapt => Sys2Proof.Machine.execDpdAdapt s
  | .dpdCfg => Sys2Proof.Machine.execDpdCfg s
  | .dpdQuery => Sys2Proof.Machine.execDpdQuery s
  | .calRun => Sys2Proof.Machine.execCalRun s
  | .calApply => Sys2Proof.Machine.execCalApply s
  | .calCfg => Sys2Proof.Machine.execCalCfg s
  | .calNet => Sys2Proof.Machine.execCalNet s
  | .calQuery => Sys2Proof.Machine.execCalQuery s
  | .timeGet => Sys2Proof.Machine.execTimeGet s
  | .timePtp => Sys2Proof.Machine.execTimePtp s
  | .timeSet => Sys2Proof.Machine.execTimeSet s
  | .timeFrame => Sys2Proof.Machine.execTimeFrame s
  | .timePulse => Sys2Proof.Machine.execTimePulse s
  | .timeCapture => Sys2Proof.Machine.execTimeCapture s
  | .timeEmbcal => Sys2Proof.Machine.execTimeEmbcal s
  | .monTable => Sys2Proof.Machine.execMonTable s
  | .monRun => Sys2Proof.Machine.execMonRun s
  | .monRead => Sys2Proof.Machine.execMonRead s
  | .monPwm => Sys2Proof.Machine.execMonPwm s
  | .pwrLevel => Sys2Proof.Machine.execPwrLevel s
  | .pwrSleep => Sys2Proof.Machine.execPwrSleep s
  | .pwrVote => Sys2Proof.Machine.execPwrVote s
  | .pwrQuery => Sys2Proof.Machine.execPwrQuery s
  | .logCfg => Sys2Proof.Machine.execLogCfg s
  | .logRead => Sys2Proof.Machine.execLogRead s
  | .logKeep => Sys2Proof.Machine.execLogKeep s
  | .logAck => Sys2Proof.Machine.execLogAck s
  | .logNote => Sys2Proof.Machine.execLogNote s
  | .otpRead => Sys2Proof.Machine.execOtpRead s
  | .otpBurn => Sys2Proof.Machine.execOtpBurn s
  | .otpRevoke => Sys2Proof.Machine.execOtpRevoke s
  | .fwStatus => Sys2Proof.Machine.execFwStatus s
  | .fwLoad => Sys2Proof.Machine.execFwLoad s
  | .fwFlash => Sys2Proof.Machine.execFwFlash s
  | .fwActivate => Sys2Proof.Machine.execFwActivate s
  | .dmaBurstStart => Sys2Proof.Machine.execDmaBurstStart s
  | .monTimerTick => Sys2Proof.Machine.execMonTimerTick s
  | .monPwmTrigger => Sys2Proof.Machine.execMonPwmTrigger s
  | .mainsTimeout => Sys2Proof.Machine.execMainsTimeout s
  | .avsReport => Sys2Proof.Machine.execAvsReport s
  | .avsTimeout => Sys2Proof.Machine.execAvsTimeout s
  | .sleepDmaPaused => Sys2Proof.Machine.execSleepDmaPaused s
  | .sleepBeadsIdle => Sys2Proof.Machine.execSleepBeadsIdle s
  | .sleepFlushDone => Sys2Proof.Machine.execSleepFlushDone s
  | .sleepStepTimeout => Sys2Proof.Machine.execSleepStepTimeout s
  | .wakeComplete => Sys2Proof.Machine.execWakeComplete s
  | .otpSettingsLoaded => Sys2Proof.Machine.execOtpSettingsLoaded s
  | .bootRomStart => Sys2Proof.Machine.execBootRomStart s
  | .bundleLoadDone => Sys2Proof.Machine.execBundleLoadDone s
  | .configImageApply => Sys2Proof.Machine.execConfigImageApply s
  | .perstNAssert => Sys2Proof.Machine.execPerstNAssert s
  | .pcieLinkUp => Sys2Proof.Machine.execPcieLinkUp s

end Sys2Proof.Machine
end

