-- ==== Sys2Proof/Machine/Tick.lean ====
section
/-! DEFINITION. The network-time tick that a step takes on an empty queue (R362; log 1), and what the Beads do at it. -/
namespace Sys2Proof.Machine

/-- One network-time tick of the machine, after which the Beads look at what they wait for. -/
def tickState (s : State) : State := s.run idleTick

end Sys2Proof.Machine
end

