-- ==== Sys2Proof/Machine/Step.lean ====
section
/-! DEFINITION. One step: the command at the front of the queue, or one network-time tick while none waits. -/
namespace Sys2Proof.Machine

/-- Take the command at the front and run it with the queue's rest; on an empty queue one tick of network time
passes (R362; log 1, DESIGN CHOICE). -/
def step (s : State) : Host.Outcome State Fault Refusal :=
  match s.pending with
  | [] => .next (tickState s)
  | c :: cs => exec c { s with pending := cs }

/-- The command a table word spells put at the front; no word spells one (Decode). -/
def State.withFetchWord (s : State) (nbits w : Nat) : State :=
  match decodeTableWord nbits w with
  | some c => { s with pending := c :: s.pending }
  | none => s

end Sys2Proof.Machine
end

