-- ==== Sys2Proof/Safety.lean ====
section
/-! DEFINITION. What a safe run is, in the terms the statements use: states a run can be in, commands that have their effect,
and what an effect leaves alone. -/
namespace Sys2Proof.Machine

/-- Memory is in its canonical form and no command has left bytes unwritten: what every step keeps. -/
def State.Settled (s : State) : Prop := memWf s.mem = true ∧ s.dev.memOut = []

/-- The command, well-formed, answers the state in which its effect `f` has happened to memory and device, and the queue is as
it was. -/
def HasEffect (i : Instr) (f : List Host.Cell → Device → Device) : Prop :=
  i.wf = true → ∀ s : State, exec i s = .next (s.run f)

/-- Every byte of the addressed memories reads as before. -/
def SameMemory (s t : State) : Prop := ∀ a, memGet t.mem a = memGet s.mem a

/-- Every byte outside `n` bytes from `a` reads as before. -/
def SameMemoryBut (a n : Nat) (s t : State) : Prop := ∀ c, c < a ∨ a + n ≤ c → memGet t.mem c = memGet s.mem c

/-- Every register reads as before. -/
def SameRegisters (d e : Device) : Prop := ∀ a, e.rd a = d.rd a

/-- Every register outside the Tally block (R64) reads as before. -/
def SameRegistersButTally (d e : Device) : Prop := ∀ a, a < 0x20000 ∨ 0x30000 ≤ a → e.rd a = d.rd a

/-- Nothing of the device but the registers, the Tally log and the messages an event sends has changed. -/
def SameButTallyAndRegisters (d e : Device) : Prop :=
  { e with regs := d.regs, tally := d.tally, delivered := d.delivered, msixPend := d.msixPend, memOut := d.memOut } = d

/-- An access of master `m` to an address reaches its target at once: FABRIC answers the master, none of its accesses waits, the
device is awake and the address's domain is on (R491, R492). -/
def Device.reaches (d : Device) (m a : Nat) : Prop :=
  d.answers m = true ∧ (∀ x ∈ d.stalled, x.master ≠ m) ∧ d.asleep = 0 ∧ d.domHeld (domainOf a) = false ∧ d.domState (domainOf a) = 2

/-- The command answers the state in which only the device has changed, to `d`: memory and queue are as they were. -/
def ActsOnDevice (i : Instr) (s : State) (d : Device) : Prop := exec i s = .next { s with dev := d }

/-- The command answers a state that has a property. -/
def Answers (i : Instr) (s : State) (P : State → Prop) : Prop := ∃ t, exec i s = .next t ∧ P t

/-- Every register but those listed reads as before. -/
def OnlyRegisters (as : List Nat) (d e : Device) : Prop := ∀ a, a ∉ as → e.rd a = d.rd a

/-- The number that `n` bytes of memory make, least significant first (R11). -/
def memNum (m : List Host.Cell) : Nat → Nat → Nat
  | _, 0 => 0
  | a, n + 1 => (memGet m a).toNat + 2 ^ 8 * memNum m (a + 1) n

/-- A 32-bit answer to a master with no bus error. -/
def Device.replied (d : Device) (m a v : Nat) : Device := { d with reply := some ⟨m, a, v, false⟩ }

end Sys2Proof.Machine
end

