-- ==== Sys2Proof/Certificates/Slice0/Obligations.lean ====
section
/-! DEFINITION. The statements for the provers. -/
open Sys2Proof Sys2Proof.Machine

/-- For every state with a command at the front of its queue, the step is that command on the state with the queue's rest
(the block form of the model, log 1). [00_scope, 01_architecture] -/
def Obligations.StepRunsFrontCommand : Prop :=
  ∀ (s : State) (c : Instr) (cs : List Instr), s.pending = c :: cs → step s = exec c { s with pending := cs }

/-- With no command waiting, a running tick, no commit due and no Bead waiting, a step answers a state whose counter has
advanced by the increment in force, with one tick more, the queue empty and memory as it was. That the tick is what a
step does on an empty queue is the model's choice (log 1). [15_network_time] -/
def Obligations.EmptyQueueTicks : Prop :=
  ∀ s : State, s.pending = [] → s.Settled → s.dev.tickRuns = true → s.dev.tctl.setPend = none → s.dev.tctl.adjPend = none →
    s.dev.tctl.incPend = none → s.dev.tctl.foffPend = none → s.dev.cmdWaits = [] → s.dev.laters = [] →
    ∃ t, step s = .next t ∧ t.pending = [] ∧ t.mem = s.mem ∧ t.dev.ticks = s.dev.ticks + 1 ∧
      t.dev.counter = (s.dev.counter + s.dev.tctl.inc) % timeSpan

/-- From every state whose memory is in canonical form and whose device holds no unwritten bytes, whatever command is in
front or none, a step that answers a next state answers one with the same property. The canonical form is the model's
own (log 2, log 8). [01_architecture, 16_tally_faults] -/
def Obligations.StepKeepsSettled : Prop :=
  ∀ s t : State, s.Settled → step s = .next t → t.Settled

/-- State.reset has canonical memory, no unwritten bytes, an empty queue, no record of a command, and reads every register
at its reset word. [22_boot_otp_security] -/
def Obligations.ResetIsSettled : Prop :=
  State.reset.Settled ∧ State.reset.pending = [] ∧ State.reset.dev.cmdRecs = [] ∧
    ∀ a, State.reset.dev.rd a % 2 ^ 32 = resetWord a % 2 ^ 32

/-- For every command whose operands exist and fit their fields and for every state, exec answers a next state; the queue
is untouched and the invariant of memory is kept. [00_scope, 01_architecture] -/
def Obligations.WellFormedCommandsComplete : Prop :=
  ∀ (i : Instr) (s : State), i.wf = true →
    Answers i s fun t => t.pending = s.pending ∧ (s.Settled → t.Settled)

/-- A step never faults, and it refuses exactly where the command in front is ill-formed, with the reason illFormed. That
an ill-formed command is refused is the model's choice (log 32). [00_scope] -/
def Obligations.OnlyIllFormedCommandsStop : Prop :=
  ∀ s : State, (∀ r, step s ≠ .fault r) ∧
    ((∃ r, step s = .refused r) ↔ ∃ c cs, s.pending = c :: cs ∧ c.wf = false) ∧ (∀ r, step s = .refused r → r = .illFormed)

/-- From every state whose waiting commands are all well-formed, as many steps as commands wait lead to a next state with
an empty queue, and the memory invariant is kept along the whole run. [00_scope, 01_architecture] -/
def Obligations.QueueDrains : Prop :=
  ∀ s : State, (∀ c ∈ s.pending, c.wf = true) →
    ∃ t : State, Host.Core.run Sys2Proof.core s.pending.length s = .next t ∧ t.pending = [] ∧ (s.Settled → t.Settled)

/-- A read of such an address is answered with 0, a write is completed, and in both only the Tally record that names
master and address is written: every register outside the Tally block, every memory byte and the rest of the device
are as they were. [01_architecture] -/
def Obligations.UncoveredAccessHasNoEffect : Prop :=
  ∀ (m a v : Nat) (s : State), isMaster m = true → a < 2 ^ 32 → v < 2 ^ 32 → a % 4 = 0 → isMapped a = false → s.Settled →
    s.dev.answers m = true → (∀ x ∈ s.dev.stalled, x.master ≠ m) →
    ActsOnDevice (.registerRead m a 4) s ((unmapped m a s.dev).replied m a 0) ∧
    ActsOnDevice (.registerWrite m a 4 v) s ((unmapped m a s.dev).replied m a 0) ∧
    SameRegistersButTally s.dev (unmapped m a s.dev) ∧ SameButTallyAndRegisters s.dev (unmapped m a s.dev)

/-- Every register is a word at a multiple of 4, and aligned accesses of 32 or 64 bits are the ones a register takes. An
access of any other width or alignment by any master completes without effect, a read answers 0, and a Tally record of
its own code with the master and the address is written: every register outside the Tally block, every memory byte and
the rest of the device are as they were. [R19] -/
def Obligations.WrongWidthHasNoEffect : Prop :=
  (∀ (a i j : Nat) (r : RegRow), regAt a = some (r, i, j) → a % 4 = 0) ∧
  (∀ a n : Nat, a < 0x10000000 → isWidth n = true → (widthOk a n = true ↔ (n = 4 ∨ n = 8) ∧ a % n = 0)) ∧
  ∀ (m a n v : Nat) (s : State), isMaster m = true → isWidth n = true → a < 2 ^ 32 → v < 2 ^ (8 * n) → widthOk a n = false →
    s.Settled → s.dev.answers m = true → (∀ x ∈ s.dev.stalled, x.master ≠ m) →
    ActsOnDevice (.registerRead m a n) s ((widthError m a s.dev).replied m a 0) ∧
    ActsOnDevice (.registerWrite m a n v) s ((widthError m a s.dev).replied m a 0) ∧
    widthError m a s.dev = s.dev.log isleFABRIC 1 0 m (common 5) [(a, 32)] ∧
    SameRegistersButTally s.dev (widthError m a s.dev) ∧ SameButTallyAndRegisters s.dev (widthError m a s.dev)

/-- For every field of access RC in a firmware-only register: a 32-bit read by a master that is no Bead answers the value
of the field and changes nothing but the answer; a read by a Bead answers it and leaves the field 0. [R24] -/
def Obligations.CountersClearForBeadsOnly : Prop :=
  ∀ (m a i j : Nat) (r : RegRow) (f : FieldRow) (s : State), isMaster m = true → a < 0x10000000 → isMapped a = true →
    regAt a = some (r, i, j) → r.mark.firmware i = true → f ∈ r.fields → f.acc = .rc → s.Settled → s.dev.reaches m a →
    (16 ≤ m → ActsOnDevice (.registerRead m a 4) s (s.dev.replied m a (s.dev.live m r.name i j a))) ∧
    (m < 16 → Answers (.registerRead m a 4) s fun t =>
      t.dev.reply = some ⟨m, a, s.dev.live m r.name i j a, false⟩ ∧ t.dev.get ⟨a, f.lo, f.hi + 1 - f.lo⟩ = 0 ∧ SameMemory s t) ∧
    bitsOf (s.dev.live m r.name i j a) f.lo (f.hi + 1 - f.lo) = s.dev.get ⟨a, f.lo, f.hi + 1 - f.lo⟩

/-- For every firmware-only register but MBX_BIND, which raises an event of its own, a write that counts as a host write
leaves every register outside the Tally block but SYS_HOSTVIOL and SYS_HOSTVIOL_ADDR as it was; COUNT goes up by one
to its top, LAST_MASTER and ADDR name the write, and memory is unchanged. [01_architecture] -/
def Obligations.HostWriteToFirmwareRegister : Prop :=
  ∀ (m a v i j : Nat) (r : RegRow) (s : State), isMaster m = true → a < 0x10000000 → v < 2 ^ 32 → a % 4 = 0 →
    isMapped a = true → regAt a = some (r, i, j) → r.mark.firmware i = true → r.name ≠ .MBX_BIND → s.Settled →
    s.dev.hostLike m = true → s.dev.reaches m a →
    ActsOnDevice (.registerWrite m a 4 v) s ((hostViolation m a s.dev).replied m a 0) ∧
    (hostViolation m a s.dev).get L.SYS_HOSTVIOL_COUNT = min 65535 (s.dev.get L.SYS_HOSTVIOL_COUNT + 1) ∧
    (hostViolation m a s.dev).get L.SYS_HOSTVIOL_LAST_MASTER = m ∧
    (hostViolation m a s.dev).get L.SYS_HOSTVIOL_ADDR_ADDR = a ∧
    ∀ b, b < 0x20000 ∨ 0x30000 ≤ b → b ≠ A.SYS_HOSTVIOL → b ≠ A.SYS_HOSTVIOL_ADDR →
      (hostViolation m a s.dev).rd b = s.dev.rd b

/-- A host write into shared SRAM below SYS_FW_PRIV or into capture memory leaves every byte of memory as it was and is
handled as a write to a firmware-only register. [01_architecture] -/
def Obligations.HostWriteToPrivateMemory : Prop :=
  ∀ (m a n v : Nat) (s : State), isMaster m = true → isWidth n = true → v < 2 ^ (8 * n) → widthOk a n = true →
    isMapped a = true → 0x10000000 ≤ a ∧ a < 0x16800000 →
    (a < 0x12000000 ∧ a - 0x10000000 < 4096 * s.dev.get L.SYS_FW_PRIV_TOP) ∨ 0x16000000 ≤ a → s.Settled →
    s.dev.hostLike m = true → s.dev.reaches m a →
    ActsOnDevice (.memoryWindowWrite m a n v) s ((hostViolation m a s.dev).replied m a 0)

/-- For every width, value and aligned address of shared SRAM with no uncorrectable word standing, each byte written reads
back, every other byte of memory reads as before, and the device changes only in the answer. [00_scope,
01_architecture] -/
def Obligations.SramWriteLands : Prop :=
  ∀ (m a n v : Nat) (s : State), m < 16 → isMemWidth n = true → v < 2 ^ (8 * n) → a % n = 0 → 0x10000000 ≤ a → a + n ≤ 0x12000000 →
    s.Settled → s.dev.eccBad = [] → s.dev.reaches m a →
    Answers (.memoryWindowWrite m a n v) s fun t =>
      (∀ k, k < n → memGet t.mem (a + k) = BitVec.ofNat 8 (v / 2 ^ (8 * k))) ∧ SameMemoryBut a n s t ∧
      t.dev = s.dev.replied m a 0 ∧ t.pending = s.pending

/-- For every master, width and aligned address of shared SRAM with no uncorrectable word standing, the answer is the
number the bytes make and nothing else changes. [00_scope, 01_architecture] -/
def Obligations.SramReadIsLittleEndian : Prop :=
  ∀ (m a n : Nat) (s : State), isMaster m = true → isMemWidth n = true → a % n = 0 → 0x10000000 ≤ a → a + n ≤ 0x12000000 →
    s.Settled → s.dev.eccBad = [] → s.dev.reaches m a →
    ActsOnDevice (.registerRead m a n) s (s.dev.replied m a (memNum s.mem a n))

/-- For a word of shared SRAM with an uncorrectable error: a read is answered with its stored data and a bus error and
memory stays; a Bead's write narrower than 64 bits ends in a bus error and changes nothing; a 64-bit write clears the
error. [16_tally_faults] -/
def Obligations.UncorrectableWord : Prop :=
  ∀ (m a n v : Nat) (s : State), m < 16 → isMemWidth n = true → v < 2 ^ (8 * n) → a % n = 0 → 0x10000000 ≤ a → a + n ≤ 0x12000000 →
    s.Settled → s.dev.eccBad.contains (a / 8 * 8) = true → s.dev.reaches m a →
    (Answers (.registerRead m a n) s fun t =>
      t.dev.reply = some ⟨m, a, memNum s.mem a n, true⟩ ∧ SameMemory s t ∧ t.pending = s.pending) ∧
    (n ≠ 8 → ActsOnDevice (.memoryWindowWrite m a n v) s { s.dev with reply := some ⟨m, a, 0, true⟩ }) ∧
    (n = 8 → Answers (.memoryWindowWrite m a n v) s fun t =>
      t.dev.eccBad.contains a = false ∧ SameMemoryBut a 8 s t ∧ memNum t.mem a 8 = v)

/-- A Bead's LOCK_BIT_SET sets the bit of its block and changes no other register; once set, no write of any master to the
lock register clears it. [00_scope, 22_boot_otp_security] -/
def Obligations.LockBitsStaySet : Prop :=
  ∀ (m b v : Nat) (s : State), isMaster m = true → b < 8 → v < 2 ^ 32 → s.Settled → s.dev.reaches m (lockAddr b) →
    (m < 16 → Answers (.lockBitSet m b) s fun t =>
      bitsOf (t.dev.rd (lockAddr b)) 0 1 = 1 ∧ OnlyRegisters [lockAddr b] s.dev t.dev ∧ SameMemory s t) ∧
    (bitsOf (s.dev.rd (lockAddr b)) 0 1 = 1 → Answers (.registerWrite m (lockAddr b) 4 v) s fun t =>
      bitsOf (t.dev.rd (lockAddr b)) 0 1 = 1 ∧ SameMemory s t)

/-- For every register of more than one word, every word but its highest and every master whose write is not turned away:
the word goes to that master's write shadow and nothing else changes but the answer. [01_architecture] -/
def Obligations.WideWriteIsHeld : Prop :=
  ∀ (m a v i j : Nat) (r : RegRow) (s : State), isMaster m = true → a < 0x10000000 → v < 2 ^ 32 → a % 4 = 0 → isMapped a = true →
    regAt a = some (r, i, j) → 2 ≤ r.wlen → r.wpos + 1 < r.wlen → (r.mark.firmware i && s.dev.hostLike m) = false →
    targetRefuses r.name i j a s.dev = none → s.Settled → s.dev.reaches m a →
    ActsOnDevice (.wideWriteHeld m a v) s
      ({ s.dev with writeShadow := tabPut s.dev.writeShadow m (tabPut (s.dev.shadow m) a (word v)) }.replied m a 0)

/-- A 32-bit read of the lowest word of TIME_NOW answers the fraction and copies the higher words of that instant into the
master's read shadow; in any later state with that shadow, whatever the counter is, a read of a higher word answers
the copy and changes nothing. [01_architecture, 15_network_time] -/
def Obligations.WideReadIsOneInstant : Prop :=
  ∀ (m : Nat) (s : State), isMaster m = true → s.Settled → s.dev.reaches m A.TIME_NOW_W0 →
    ActsOnDevice (.wideReadLowWord m A.TIME_NOW_W0) s
      ({ s.dev with readShadow := tabPut s.dev.readShadow m ⟨A.TIME_NOW_W0,
          [word s.dev.time.ns, word (s.dev.time.sec % 2 ^ 32), word (s.dev.time.sec / 2 ^ 32)]⟩ }.replied m A.TIME_NOW_W0
        s.dev.time.frac) ∧
    ∀ (ws : List Word) (k : Nat), ws.length = 3 → k < 3 → tabGet? s.dev.readShadow m = some ⟨A.TIME_NOW_W0, ws⟩ →
      ActsOnDevice (.registerRead m (A.TIME_NOW_W0 + 4 * (k + 1)) 4) s
        (s.dev.replied m (A.TIME_NOW_W0 + 4 * (k + 1)) (ws.getD k 0).toNat)

/-- For every channel, offset and tag, while the device is awake with no sleep entry in progress: the result stored for
the master is UNBOUND, NOT_SENDER, BAD_OFS, FULL or OK, the first that applies; an accepted doorbell joins the end of
the channel. A refused ring leaves the channel as it was, raises its event bit of the ringing master and ends with the
record of that event, which carries the channel and OFFSET. No other channel and no memory byte changes. [R415] -/
def Obligations.RingChecksInOrder : Prop :=
  ∀ (m c offset tag : Nat) (s : State), (Instr.mbxRingCommit m c offset tag).wf = true → s.Settled → s.dev.step' = 0 →
    s.dev.reaches m (A.MBX_RING_W0 c) →
    let res :=
      if s.dev.on (L.MBX_BIND_EN c) = false then 1
      else if s.dev.get (L.MBX_BIND_SENDER c) ≠ m then 2
      else if offset % 64 ≠ 0 ∨ 0x02000000 ≤ offset then 3
      else if 16 ≤ (s.dev.chan' c).length then 4 else 0
    let ev := match res with
      | 1 => L.MBX_EVENT_UNBOUND
      | 2 => L.MBX_EVENT_NOT_SENDER
      | 3 => L.MBX_EVENT_BAD_OFS
      | _ => L.MBX_EVENT_FULL
    Answers (.mbxRingCommit m c offset tag) s fun t =>
      tabGet? t.dev.ringRes m = some (res, c) ∧
      t.dev.chan' c = s.dev.chan' c ++ (if res = 0 then [⟨offset, tag⟩] else []) ∧
      (∀ k, k ≠ c → t.dev.chan' k = s.dev.chan' k) ∧
      (res ≠ 0 → t.dev.on (ev m) = true ∧
        ∃ d, t.dev = (mbxEvent ev m [(c, 6), (offset, 32)] d).replied m (A.MBX_RING_W0 c + 4) 0) ∧
      SameMemory s t

/-- A 32-bit read of word 0 of MBX_POP answers the offset at the head, or 0 on an empty channel. By the bound receiver of
an enabled channel it removes the head; by any other master, or on a channel that is not enabled, every channel stays
as it was. Memory is unchanged. [17_beads_mailboxes] -/
def Obligations.PopTakesTheHead : Prop :=
  ∀ (m c : Nat) (s : State), isMaster m = true → c < 64 → s.Settled → s.dev.reaches m (A.MBX_POP_W0 c) →
    Answers (.mbxPopRead m c 4) s fun t =>
      t.dev.reply = some ⟨m, A.MBX_POP_W0 c, (s.dev.popWords c).1, false⟩ ∧
      (s.dev.on (L.MBX_BIND_EN c) = true ∧ s.dev.receiver c = m → t.dev.chan' c = (s.dev.chan' c).tail) ∧
      (s.dev.on (L.MBX_BIND_EN c) = false ∨ s.dev.receiver c ≠ m → t.dev.mbx = s.dev.mbx) ∧
      (∀ k, k ≠ c → t.dev.chan' k = s.dev.chan' k) ∧ SameMemory s t

/-- For every votable domain in UP with no access waiting, where the DEP votes stand as R487 has them: DOMAIN_POWERUP_FAIL
answers a state with the domain OFF, its vote bits as they were and DFAIL raised. In every state with the domain OFF,
a vote of a Bead's own that did not stand, newly set, takes it to UP and ends the failure; one that stands, withdrawn,
leaves it OFF with the vote ready to be set again. [R490] -/
def Obligations.FailedPowerUp : Prop :=
  (∀ (n : Nat) (s : State), n < 96 → neverOff n = false → s.Settled → s.dev.asleep = 0 → s.dev.domState n = 1 →
    s.dev.stalled = [] → s.dev.dmaStall = none →
    (∀ k, k = 4 ∨ k = 7 → s.dev.voted k 20 = (List.range 72).any fun j => s.dev.domState (24 + j) != 0) →
    Answers (.domainPowerupFail n) s fun t =>
      t.dev.domState n = 0 ∧ t.dev.votes n = s.dev.votes n ∧ t.dev.on L.PWR_EVENT_DFAIL = true ∧
      t.dev.dfail.contains n = true ∧ SameMemory s t) ∧
  (∀ (m n : Nat) (s : State), m < 16 → n < 96 → neverOff n = false → s.Settled → s.dev.asleep = 0 → s.dev.domState n = 0 →
    s.dev.voted n m = false → s.dev.reaches m (A.PWR_VSET n) →
    Answers (.pwrVsetWrite m n (2 ^ m)) s fun t =>
      t.dev.domState n = 1 ∧ t.dev.voted n m = true ∧ t.dev.dfail.contains n = false ∧ SameMemory s t) ∧
  (∀ (m n : Nat) (s : State), m < 16 → n < 96 → neverOff n = false → s.Settled → s.dev.asleep = 0 → s.dev.domState n = 0 →
    s.dev.voted n m = true → s.dev.reaches m (A.PWR_VCLR n) →
    Answers (.pwrVclrWrite m n (2 ^ m)) s fun t =>
      t.dev.domState n = 0 ∧ t.dev.voted n m = false ∧ SameMemory s t)

/-- For every votable domain that holds no DEP vote: whatever bits a master writes to PWR_VSET or PWR_VCLR, every vote bit
it does not own stays as it was. A Bead's domain whose hysteresis ends goes to DOWN, and nothing else changes.
[21_power_states] -/
def Obligations.VotesStayWithTheirOwners : Prop :=
  (∀ (m n bits b : Nat) (s : State), isMaster m = true → n < 96 → neverOff n = false → n ≠ 4 → n ≠ 7 → bits < 2 ^ 23 → b < 23 →
    s.Settled → s.dev.reaches m (A.PWR_VSET n) →
    ((ownVotes m false).contains b = false → Answers (.pwrVsetWrite m n bits) s fun t =>
      t.dev.voted n b = s.dev.voted n b ∧ SameMemory s t) ∧
    ((ownVotes m true).contains b = false → Answers (.pwrVclrWrite m n bits) s fun t =>
      t.dev.voted n b = s.dev.voted n b ∧ SameMemory s t)) ∧
  (∀ (n : Nat) (s : State), 9 ≤ n → n < 24 → s.Settled → s.dev.asleep = 0 → s.dev.domState n = 3 →
    ActsOnDevice (.domainHystExpiry n) s (s.dev.set (L.PWR_DSTAT_STATE n) 4))

/-- In SEARCH the chosen band is shown and ACQUIRE follows; in SLEWING the end of the slew leads to LOCKED; a return of
FHREFCLK sets FH_PRESENT where no cold reset holds and PORT is on; in any other state these change nothing.
[03_clock_synthesis] -/
def Obligations.ClockLockSequence : Prop :=
  ∀ s : State, s.Settled →
    (∀ band, band < 64 → s.dev.mstate = 1 →
      ActsOnDevice (.mdllBandChosen band) s ((s.dev.set L.CLK_MDLL_BAND band).set L.CLK_STAT_MSTATE 2)) ∧
    (∀ band, band < 64 → s.dev.mstate ≠ 1 → ActsOnDevice (.mdllBandChosen band) s s.dev) ∧
    (s.dev.mstate = 7 → ActsOnDevice .slewComplete s (s.dev.set L.CLK_STAT_MSTATE 4)) ∧
    (s.dev.mstate ≠ 7 → ActsOnDevice .slewComplete s s.dev) ∧
    (s.dev.coldHeld = false → s.dev.domState 5 = 2 → ActsOnDevice .fhrefclkQualified s (s.dev.set L.CLK_STAT_FH_PRESENT 1)) ∧
    (s.dev.coldHeld = true ∨ s.dev.domState 5 ≠ 2 → ActsOnDevice .fhrefclkQualified s s.dev)

/-- For every target and every offset in force: the new offset lies between the old one and the target, at most 50,000
units of 10^-12 from the old one, and is the target where that is no farther; no other register changes.
[03_clock_synthesis] -/
def Obligations.AuxOffsetMovesToTarget : Prop :=
  ∀ s : State, s.Settled → Answers .auxOffsetStep s fun t =>
    let target := s.dev.getS L.CLK_AUX_OFFSET_TARGET
    let old := s.dev.getS L.CLK_AUX_APPLIED_APPLIED
    let new := t.dev.getS L.CLK_AUX_APPLIED_APPLIED
    min old target ≤ new ∧ new ≤ max old target ∧ (new - old).natAbs ≤ 50000 ∧
    ((target - old).natAbs ≤ 50000 → new = target) ∧ ((target - old).natAbs > 50000 → (new - old).natAbs = 50000) ∧
    OnlyRegisters [A.CLK_AUX_APPLIED] s.dev t.dev ∧ SameMemory s t

/-- For every receive and observation converter: RXADC_OVR_CNT goes up by one and stays at its top, the OVR event bit is
set, and outside the Tally block no other register changes. [04_rx_sampling] -/
def Obligations.OverrangeIsCounted : Prop :=
  ∀ (n : Nat) (s : State), n < 72 → s.Settled → Answers (.sampleOverrange n) s fun t =>
    t.dev.get (L.RXADC_OVR_CNT_COUNT n) = min (2 ^ 32 - 1) (s.dev.get (L.RXADC_OVR_CNT_COUNT n) + 1) ∧
    t.dev.on (L.RXADC_EVENT_OVR n) = true ∧
    (∀ a, a < 0x20000 ∨ 0x30000 ≤ a → a ≠ A.RXADC_OVR_CNT n → a ≠ A.RXADC_EVENT n → t.dev.rd a = s.dev.rd a) ∧ SameMemory s t

/-- A bias event changes nothing in a receive or transmit converter that is not in BIAS, and in an outage leaves the
converter waiting for the strobe; a mute ramp that ends shows MUTED for a ramp down and not for a ramp up, and changes
nothing where none runs or its samples have not passed (that no sample has passed since its start counts as its end is the
model's, log 113). [04_rx_sampling, 05_tx_conversion] -/
def Obligations.ConverterBiasAndRamp : Prop :=
  ∀ (p : Nat) (s : State), p < 64 → s.Settled →
    (s.dev.rxState p ≠ 1 → ActsOnDevice (.rxadcBiasDone p) s s.dev) ∧
    (s.dev.rxState p = 1 → s.dev.clk.outage = true →
      ActsOnDevice (.rxadcBiasDone p) s (s.dev.setRx p { s.dev.rxc p with waiting := true })) ∧
    (s.dev.txState p ≠ 1 → ActsOnDevice (.txdacBiasDone p) s s.dev) ∧
    (s.dev.txState p = 1 → s.dev.txStopped = false →
      ActsOnDevice (.txdacBiasDone p) s ((s.dev.set (L.TXDAC_STAT_STATE p) 2).setTx p { s.dev.txc p with sweep := 0 })) ∧
    ((s.dev.txc p).ramp = none → ActsOnDevice (.muteRampDone p) s s.dev) ∧
    (∀ r, (s.dev.txc p).ramp = some r → (r.ended s.dev.laneNow = true ∨ s.dev.laneNow = r.start) →
      ActsOnDevice (.muteRampDone p) s
        (((s.dev.setTx p { s.dev.txc p with
          ramp := none
          was := (s.dev.txc p).was ++ [r]
          zeroFrom := if r.up then none else some (min s.dev.laneNow (r.start + r.pos)) }).set (L.TXDAC_STAT_RAMPING p) 0).set
            (L.TXDAC_STAT_MUTED p) (if r.up then 0 else 1))) ∧
    (∀ r, (s.dev.txc p).ramp = some r → r.ended s.dev.laneNow = false → s.dev.laneNow ≠ r.start →
      ActsOnDevice (.muteRampDone p) s s.dev)

/-- A fine window that holds an invalid sample, or of a chain whose converter does not sample, changes nothing but where the next
window begins, and a coarse window with a word without VALID changes nothing; a valid fine window on a chain that runs shows the mean power of its
samples, cut off at -8,192, where no threshold is crossed. [06_channelisers] -/
def Obligations.InvalidPowerWindow : Prop :=
  (∀ (p j : Nat) (s : State), (Instr.coarsePowerWindow p j).wf = true → s.Settled → s.dev.coarseValid p j = false →
    ActsOnDevice (.coarsePowerWindow p j) s s.dev) ∧
  ∀ (k : Nat) (s : State), isChain k = true → isDuc k = false → s.Settled →
    (s.dev.fineValid k = false → ActsOnDevice (.finePowerWindow k) s (fineNext k s.dev)) ∧
    (s.dev.fineValid k = true → s.dev.get (L.CH_STAT_STATE k) = 1 → (s.dev.chn k).hiOn = false → (s.dev.chn k).loOn = false →
      let pwr := meanDb ((s.dev.fineSamples k).map (·.1))
      powerClamp pwr < s.dev.getS (L.CH_FTHR_HI k) → s.dev.getS (L.CH_FTHR_LO k) < powerClamp pwr →
      Answers (.finePowerWindow k) s fun t =>
        t.dev.getS (L.CH_FPWR_PWR k) = powerClamp pwr ∧ OnlyRegisters [A.CH_FPWR k] s.dev t.dev ∧ SameMemory s t)

/-- For every direction, element and target, a Bead's GO with LEN = 0 gives every carrier the target gain, ends any ramp
of the element and shows the target as its STATE; ramps of other elements go on. [08_beamforming] -/
def Obligations.RampOfLengthZeroSteps : Prop :=
  ∀ (m dir e target : Nat) (s : State), m < 16 → dir < 2 → e < 64 → target < 2 → s.Settled → s.dev.reaches m (A.BM_ERAMP dir e) →
    (∀ p, p < 64 → s.dev.pathState p = 0 ∧ (s.dev.pathc p).outWait = false) →
    Answers (.bmErampGo m dir e target 0) s fun t =>
      (∀ c, c < 4 → t.dev.gain dir e c = (if target = 1 then 4096 else 0)) ∧
      t.dev.get (L.BM_ERAMP_STATE dir e) = target ∧ tabGet? t.dev.ramps (64 * dir + e) = none ∧
      (∀ k, k ≠ 64 * dir + e → tabGet? t.dev.ramps k = tabGet? s.dev.ramps k) ∧ SameMemory s t

/-- For every bankable object but the predistorters: a request whose fade is above 8 sets ERR of the object and leaves its
requests, its fade and its ACTIVE bank as they were; a cancel leaves no armed and no pending request and does not
touch a fade in progress. [01_architecture] -/
def Obligations.BankChangeRequests : Prop :=
  ∀ (m mode fade target start : Nat) (o : XfObj) (s : State), m < 16 → (∀ p, o ≠ .dpd p) →
    (Instr.xfRequest m o mode fade target start).wf = true → s.Settled → s.dev.reaches m (xfReqAddr o) →
    (8 < fade → Answers (.xfRequest m o mode fade target start) s fun t =>
      t.dev.on (xfField o 26 1) = true ∧ t.dev.xf = s.dev.xf ∧ t.dev.xfActive o = s.dev.xfActive o ∧ SameMemory s t) ∧
    Answers (.xfCancel m o) s fun t =>
      (t.dev.xfc o).armed = none ∧ (t.dev.xfc o).pend = none ∧ (t.dev.xfc o).fade = (s.dev.xfc o).fade ∧
      t.dev.xfActive o = s.dev.xfActive o ∧ SameMemory s t

/-- A Bead's push with WHEN = 3 appends nothing; on a full FIFO it appends nothing and raises OVF; otherwise TUN_DATA
joins the end with WHEN and M, and with the burst it is timed for where WHEN = 1 or the burst whose end it waits for where
WHEN = 2 (which one that is, log 128), and LEVEL counts it. No other bus
changes. [10_path_control] -/
def Obligations.TunerFifo : Prop :=
  ∀ (m k w u : Nat) (s : State), m < 16 → k < 8 → w < 4 → u < 8 → s.Settled → s.dev.reaches m (A.TUN_PUSH k) →
    let q := tabGet s.dev.tuners [] k
    Answers (.tunPushGo m k w u) s fun t =>
      (∃ due, (w = 0 → due = none) ∧ (w = 1 → due = s.dev.tunDue k 1 u) ∧ (w = 2 → due = s.dev.tunDue k 2 u) ∧
        tabGet t.dev.tuners [] k = q ++ (if w ≠ 3 ∧ q.length < 16 then [⟨s.dev.get (L.TUN_DATA_WORD k), w, u, due⟩] else [])) ∧
      (w ≠ 3 → 16 ≤ q.length → t.dev.on (L.TUN_STAT_OVF k) = true) ∧
      (w ≠ 3 → q.length < 16 → t.dev.get (L.TUN_STAT_LEVEL k) = q.length + 1) ∧
      (∀ j, j ≠ k → tabGet t.dev.tuners [] j = tabGet s.dev.tuners [] j) ∧ SameMemory s t

/-- While a calibration run is in progress, a Bead's write to the Pilot leaves its three registers as they were and raises
PILOT_BUSY. A DMP_REARM for one path that is not in LOCKOUT changes no register and nothing of the Damper.
[11_calibration, 12_damper] -/
def Obligations.HeldPilotAndRearm : Prop :=
  (∀ (m reg value : Nat) (s : State), m < 16 → reg < 3 → value < 2 ^ 32 → s.Settled → s.dev.get L.CAL_RSTAT_STATE ≠ 0 →
    s.dev.reaches m A.CAL_PILOT →
    Answers (.pilotWrite m reg value) s fun t =>
      (∀ a, a = A.CAL_PILOT ∨ a = A.CAL_PILOT_LO ∨ a = A.CAL_PILOT_HI → t.dev.rd a = s.dev.rd a) ∧
      t.dev.on L.CAL_EVENT_PILOT_BUSY = true ∧ SameMemory s t) ∧
  (∀ (m p : Nat) (s : State), m < 16 → p < 64 → s.Settled → s.dev.dmpState p ≠ 3 → s.dev.reaches m A.DMP_REARM →
    Answers (.dmpRearmGo m 0 p) s fun t => SameRegisters s.dev t.dev ∧ t.dev.dmp = s.dev.dmp ∧ SameMemory s t)

/-- With the input enabled for both edges and the tick running, an edge appends its stamp while the FIFO holds fewer than
8 and LEVEL counts it; with 8 it is discarded and OVF counts it. The end of a pulse with no commit waiting takes the
output low and changes nothing else. [15_network_time] -/
def Obligations.CapturesAndPulses : Prop :=
  (∀ (i : Nat) (rising : Bool) (s : State), i < 2 → s.Settled → s.dev.on (L.TCAP_CFG_EN i) = true → s.dev.tickRuns = true →
    2 ≤ s.dev.get (L.TCAP_CFG_EDGE i) →
    Answers (.tcapEdge i rising) s fun t =>
      ((s.dev.caps i).length < 8 → t.dev.caps i = s.dev.caps i ++ [stampWords s.dev.counter (if rising then 0 else 1) 0] ∧
        t.dev.get (L.TCAP_STAT_LEVEL i) = (s.dev.caps i).length + 1) ∧
      (8 ≤ (s.dev.caps i).length → t.dev.caps i = s.dev.caps i ∧
        t.dev.get (L.TCAP_STAT_OVF i) = min 65535 (s.dev.get (L.TCAP_STAT_OVF i) + 1)) ∧
      t.dev.caps (1 - i) = s.dev.caps (1 - i) ∧ SameMemory s t) ∧
  (∀ (k : Nat) (s : State), k < 8 → s.Settled → (s.dev.pulse k).next = none →
    ActsOnDevice (.pulseWidthEnd k) s (s.dev.set (L.TP_STAT_HIGH k) 0))

/-- With the tick running, a broadcast gives the island the counter of this instant and changes nothing else. A scrubbed
word without an error changes nothing; a single-bit error changes no register outside the Tally block and no byte of
memory. [16_tally_faults] -/
def Obligations.StampsAndScrubbing : Prop :=
  ∀ s : State, s.Settled →
    (∀ i, i < 9 → s.dev.tickRuns = true → ActsOnDevice (.stampBroadcast i) s
      { s.dev with tally := { s.dev.tally with clocks := tabPut s.dev.tally.clocks i (s.dev.tai % 2 ^ 64, s.dev.ticks) } }) ∧
    (∀ i, i < 9 → (Instr.stampBroadcast i).wf = true → s.dev.tickRuns = true →
      Answers (.stampBroadcast i) s fun t => t.dev.localTime i = s.dev.tai % 2 ^ 64) ∧
    ∀ o, (Instr.scrubCheck (.sram o) 1).wf = true →
      ActsOnDevice (.scrubCheck (.sram o) 0) s s.dev ∧
      (Answers (.scrubCheck (.sram o) 1) s fun t => SameRegistersButTally s.dev t.dev ∧ t.dev.eccBad = s.dev.eccBad ∧ SameMemory s t)

/-- Where no Bead waits for anything, one SYS_INFO doorbell is at the head, its block carries the SEQ and OFFSET of the
channel's record and no channel leads back to its sender: the header of the block is rewritten from the record, with
DETAIL 1 where the record is OK; no other byte of memory changes, so the result area stays, and the record stays.
[18_ikirik_commands] -/
def Obligations.CommandRecordAnswersARepeat : Prop :=
  ∀ (s : State) (c : Cmd) (r : CmdRec), s.Settled → s.dev.cmdWaits = [] → s.dev.laters = [] →
    (∀ n x, headCmd n s.mem s.dev = some x → n = 0 ∧ x = c) → headCmd 0 s.mem s.dev = some c → c.op = 0x0100 → c.sender ≠ 19 →
    (∀ k, k < 64 → s.dev.get (L.MBX_BIND_SENDER k) ≠ 0) →
    tabGet? s.dev.cmdRecs c.chan = some r → r.seq = c.seq → r.off = c.off →
    Answers .sysInfo s fun t =>
      memNum t.mem (sramBase + c.off + 8) 4 = (r.status * 2 ^ 24 + (if r.status = stOK then 1 else r.detail) % 256 * 2 ^ 16 + r.rlen) % 2 ^ 32 ∧
      SameMemoryBut (sramBase + c.off + 8) 4 s t ∧ t.dev.cmdRecs = s.dev.cmdRecs ∧
      t.dev.chan' c.chan = (s.dev.chan' c.chan).tail

/-- With no DMA channel in hand, a Bead's signed write to DMA_QADJ moves LEVEL by that amount, cut off at 0 and 0xFFFFF; a
MON_PWM period takes the settings held at its start, and none runs in a cold reset or in S3; memory is unchanged. [19_dma] -/
def Obligations.QueueLevelSaturates : Prop :=
  (∀ (m q delta : Nat) (s : State), m < 16 → q < 8 → delta < 2 ^ 21 → s.Settled → s.dev.dma = [] → s.dev.reaches m (A.DMA_QADJ q) →
    Answers (.dmaQadjWrite m q delta) s fun t =>
      (t.dev.get (L.DMA_QLVL_LEVEL q) : Int) = max 0 (min 0xFFFFF ((s.dev.get (L.DMA_QLVL_LEVEL q) : Int) + signedOf 21 delta)) ∧
      SameMemory s t) ∧
  (∀ (j : Nat) (s : State), (Instr.pwmPeriodStart j).wf = true → s.Settled →
    (s.dev.monPowered = true → ActsOnDevice (.pwmPeriodStart j) s
      { s.dev with pwm := tabPut s.dev.pwm j (s.dev.rd (A.MON_PWM_CFG j), s.dev.rd (A.MON_PWM_DUTY j)) }) ∧
    (s.dev.monPowered = false → ActsOnDevice (.pwmPeriodStart j) s s.dev))

/-- After a warm reset of any cause: the network-time counter is as it was, every byte of memory is as it was, no mailbox
FIFO, waiting access, command in progress or command record is left, and every lock bit reads 0. That shared SRAM
keeps its bytes is the model's reading (log 33). [17_beads_mailboxes, 18_ikirik_commands, 15_network_time,
22_boot_otp_security] -/
def Obligations.WarmResetForgets : Prop :=
  ∀ (cause : Nat) (s : State), (Instr.warmReset cause).wf = true → s.Settled →
    Answers (.warmReset cause) s fun t =>
      t.dev.time = s.dev.time ∧ SameMemory s t ∧ t.dev.mbx = [] ∧ t.dev.stalled = [] ∧ t.dev.cmdWaits = [] ∧ t.dev.cmdRecs = [] ∧
      (∀ b, b < 8 → bitsOf (t.dev.rd (lockAddr b)) 0 1 = 0) ∧ t.pending = s.pending

/-- For a port that is UP: loss of alignment takes it to DOWN, raises LINK_DOWN and empties its egress queue; the queue
and the link state of the other port and memory are unchanged. In a port that is OFF or DOWN it changes nothing.
[13_fronthaul_ports] -/
def Obligations.LinkLossEmptiesThePort : Prop :=
  ∀ (q sig : Nat) (s : State), (Instr.linkDown q sig).wf = true → s.Settled →
    (s.dev.link q = 3 → Answers (.linkDown q sig) s fun t =>
      t.dev.link q = 1 ∧ t.dev.eg q = [] ∧ t.dev.on (L.FH_PEVENT_LINK_DOWN q) = true ∧
      t.dev.eg (1 - q) = s.dev.eg (1 - q) ∧ t.dev.link (1 - q) = s.dev.link (1 - q) ∧ SameMemory s t) ∧
    (s.dev.link q < 2 → ActsOnDevice (.linkDown q sig) s s.dev)

/-- A thermal reset in any state: BOOT_RCAUSE shows cause 3, or 0 while the supply that keeps it is below its limit, and then
the kept records are gone; every register but it, the debug nonce, TLY_KEEP_WR and DMP_STAT
reads its reset word, and DMP_STAT its own but for THERM, which stays as it was unless that supply is gone (log 110); no doorbell, waiting access or
command record is left; the kept records, OTP and the flash stay. That shared SRAM keeps its bytes is the model's choice
(log 33). [22_boot_otp_security] -/
def Obligations.ColdResetLeaves : Prop :=
  ∀ s : State, s.Settled → Answers .thermalReset s fun t =>
    t.dev.get L.BOOT_RCAUSE_CAUSE = (if s.dev.boot.g1 then 3 else 0) ∧ OnlyRegisters [A.BOOT_RCAUSE, A.BOOT_DBG_NONCE, A.TLY_KEEP_WR, A.DMP_STAT] State.reset.dev t.dev ∧
    t.dev.rd A.DMP_STAT = (State.reset.dev.set L.DMP_STAT_THERM (if s.dev.boot.g1 then s.dev.get L.DMP_STAT_THERM else 0)).rd A.DMP_STAT ∧
    t.dev.mbx = [] ∧ t.dev.stalled = [] ∧ t.dev.cmdRecs = [] ∧
    t.dev.tally.kept = (if s.dev.boot.g1 then s.dev.tally.kept else []) ∧
    t.dev.boot.otp = s.dev.boot.otp ∧ t.dev.boot.flash = s.dev.boot.flash ∧ t.dev.time = State.reset.dev.time ∧ SameMemory s t

/-- For every operand that exists and fits its field, and for every state, each command of this family answers the next
state in which its own effect, named here, has happened to memory and device; its queue is as it was.
[01_architecture] -/
def Obligations.ArchitectureCommandsHaveTheirEffect : Prop :=
  (∀ (m addr width v : Nat), HasEffect (.registerWrite m addr width v) (busWrite m addr width v)) ∧
  (∀ (m addr : Nat), HasEffect (.wideReadLowWord m addr) (busRead m addr 4)) ∧
  (∀ (m addr v : Nat), HasEffect (.wideWriteHeld m addr v) (busWrite m addr 4 v)) ∧
  (∀ (m addr width v : Nat), HasEffect (.memoryWindowWrite m addr width v) (busWrite m addr width v)) ∧
  (∀ (m block : Nat), HasEffect (.lockBitSet m block) (busWrite m (lockAddr block) 4 1)) ∧
  (∀ (m : Nat), HasEffect (.hostviolClr m) (fieldStore m A.SYS_HOSTVIOL [(L.SYS_HOSTVIOL_CLR, 1)])) ∧
  (∀ (rxs : List RxBlock), HasEffect (.laneBlockBoundary rxs) (laneTurn rxs)) ∧
  (∀ (i fn n : Nat), HasEffect (.gridSymbolBoundary i fn n) (gridSymbol i fn n)) ∧
  (∀ (m : Nat) (o : XfObj) (mode fade target start : Nat), HasEffect (.xfRequest m o mode fade target start) (fieldStore m (xfReqAddr o) [(⟨xfReqAddr o, 31, 1⟩, 1), (⟨xfReqAddr o, 30, 1⟩, mode), (⟨xfReqAddr o, 24, 4⟩, fade), (⟨xfReqAddr o, 20, 4⟩, target), (⟨xfReqAddr o, 0, 16⟩, start)])) ∧
  (∀ (m : Nat) (o : XfObj), HasEffect (.xfCancel m o) (fieldStore m (xfReqAddr o) [(⟨xfReqAddr o, 31, 1⟩, 1), (⟨xfReqAddr o, 20, 4⟩, 15)])) ∧
  (∀ (k : Nat), HasEffect (.obsCaptureGrant k) (fun _ => capGrant k)) ∧
  (∀ (m addr width : Nat), HasEffect (.registerRead m addr width) (busRead m addr width))

/-- For every operand that exists and fits its field, and for every state, each command of this family answers the next
state in which its own effect, named here, has happened to memory and device; its queue is as it was.
[02_package_electrical] -/
def Obligations.RailCommandsHaveTheirEffect : Prop :=
  HasEffect .railG1Valid (fun _ => g1Valid) ∧
  HasEffect .porstNAssert (fun _ => fun d =>
        if d.boot.porstLow then d else coldReset (d.latches 1) { d with boot := { d.boot with porstLow := true } }) ∧
  HasEffect .railUndervoltage (fun _ => railLow) ∧
  HasEffect .emberRailLoss (fun _ => emberLoss) ∧
  HasEffect .railResetRelease (fun _ => railsUp) ∧
  HasEffect .thermalTrip (fun _ => thermTrip) ∧
  HasEffect .thermalTripClear (fun _ => thermClear) ∧
  HasEffect .thermalReset (fun _ => fun d => coldReset (d.latches 3) { d with boot := { d.boot with thermHold := true } }) ∧
  HasEffect .thermalResetRelease (fun _ => thermRelease) ∧
  HasEffect .pcieLinkUp (fun _ => pcieLink)

/-- For every operand that exists and fits its field, and for every state, each command of this family answers the next
state in which its own effect, named here, has happened to memory and device; its queue is as it was.
[03_clock_synthesis] -/
def Obligations.ClockCommandsHaveTheirEffect : Prop :=
  (∀ (band : Nat), HasEffect (.mdllBandChosen band) (fun _ => bandChosen band)) ∧
  (∀ (ctrl : Nat), HasEffect (.bandEdge ctrl) (fun _ => bandEdge ctrl)) ∧
  (∀ (m : Nat), HasEffect (.clkRelockWrite m) (fieldStore m A.CLK_CFG [(L.CLK_CFG_RELOCK, 1)])) ∧
  (∀ (m : Nat), HasEffect (.clkRealignWrite m) (fieldStore m A.CLK_CFG [(L.CLK_CFG_REALIGN, 1)])) ∧
  (∀ (m v : Nat), HasEffect (.convLpWrite m v) (fieldStore m A.CLK_CFG [(L.CLK_CFG_CONV_LP, v)])) ∧
  (∀ (jump : Int), HasEffect (.jumpMeasured jump) (fun _ => jumpMeasured jump)) ∧
  (∀ (m i k n : Nat), HasEffect (.clkAuxdivWrite m i k n) (fieldStore m (A.CLK_AUXDIV i) [(L.CLK_AUXDIV_K i, k), (L.CLK_AUXDIV_N i, n)])) ∧
  (∀ (m target : Nat), HasEffect (.auxOffsetWrite m target) (busWrite m A.CLK_AUX_OFFSET 4 target)) ∧
  (∀ (m i v : Nat), HasEffect (.clkOutWrite m i v) (busWrite m (A.CLK_OUT i) 4 v)) ∧
  (∀ (m : Nat), HasEffect (.clkCountClr m) (fieldStore m A.CLK_COUNT [(L.CLK_COUNT_CLR, 1)])) ∧
  (∀ (err : Int), HasEffect (.refFreqMeasurement err) (fun _ => refFreq err)) ∧
  HasEffect .mdllLockSet (fun _ => mdllLocked) ∧
  HasEffect .mdllUnlock (fun _ => mdllUnlock) ∧
  HasEffect .mdllLockFail (fun _ => lockFail) ∧
  HasEffect .dblLockSet (fun _ => dblLocked) ∧
  HasEffect .dblUnlock (fun _ => dblUnlock) ∧
  HasEffect .alignmentStrobe (fun _ => strobeBlock) ∧
  HasEffect .refMissingEdge (fun _ => refMissing) ∧
  HasEffect .refQualifiedReturn (fun _ => refReturn) ∧
  HasEffect .coastExpired (fun _ => coastExpired) ∧
  HasEffect .slewComplete (fun _ => slewDone) ∧
  HasEffect .fhrefclkQualified (fun _ => fhQualified) ∧
  HasEffect .fhrefclkMissing (fun _ => fhMissing) ∧
  HasEffect .auxOffsetStep (fun _ => auxOffsetStep) ∧
  HasEffect .auxLockSet (fun _ => auxLockedBlock) ∧
  HasEffect .auxUnlock (fun _ => auxUnlock)

/-- For every operand that exists and fits its field, and for every state, each command of this family answers the next
state in which its own effect, named here, has happened to memory and device; its queue is as it was. [04_rx_sampling] -/
def Obligations.ReceiveCommandsHaveTheirEffect : Prop :=
  (∀ (m n : Nat), HasEffect (.rxadcEnSet m n) (fieldStore m (A.RXADC_CFG n) [(L.RXADC_CFG_EN n, 1)])) ∧
  (∀ (m n : Nat), HasEffect (.rxadcEnClear m n) (fieldStore m (A.RXADC_CFG n) [(L.RXADC_CFG_EN n, 0)])) ∧
  (∀ (n : Nat), HasEffect (.rxadcBiasDone n) (fun _ => rxBiasDone n)) ∧
  (∀ (m n z : Nat), HasEffect (.rxadcZoneWrite m n z) (fieldStore m (A.RXADC_CFG n) [(L.RXADC_CFG_ZONE n, z)])) ∧
  (∀ (n : Nat), HasEffect (.zoneSettlingEnd n) (fun _ => rxSettled n 0)) ∧
  (∀ (m n v : Nat), HasEffect (.rxadcRotEnWrite m n v) (fieldStore m (A.RXADC_CFG n) [(L.RXADC_CFG_ROT_EN n, v)])) ∧
  (∀ (m n att mode block : Nat), HasEffect (.rxadcDsaWrite m n att mode block) (fieldStore m (A.RXADC_DSA n) [(L.RXADC_DSA_ATT n, att), (L.RXADC_DSA_AT_MODE n, mode), (L.RXADC_DSA_AT n, block)])) ∧
  (∀ (n : Nat), HasEffect (.dsaApply n) (fun _ => rxDsaApply n)) ∧
  (∀ (n : Nat), HasEffect (.sampleOverrange n) (fun _ => rxOverrange n)) ∧
  (∀ (n : Nat), HasEffect (.spareRetargetDone n) (fun _ => rxShadow n)) ∧
  (∀ (n : Nat) (ofs gain skew bw : Int) (moved : Nat), HasEffect (.sliceHandover n ofs gain skew bw moved) (fun _ => rxHandover n ofs gain skew bw moved)) ∧
  (∀ (n : Nat), HasEffect (.dwellStart n) (fun _ => fun d => let (d, ran) := rxDwellStart n d; d.when (ran && n < 64) (retConv n))) ∧
  (∀ (n slice : Nat), HasEffect (.sliceCheckFail n slice) (fun _ => rxFault n slice 1)) ∧
  (∀ (n slice : Nat), HasEffect (.sliceStuck n slice) (fun _ => rxFault n slice 2)) ∧
  (∀ (n : Nat), HasEffect (.handoverCheckFail n) (fun _ => rxHandoverFail n)) ∧
  (∀ (n count : Nat), HasEffect (.sliceTakeover n count) (fun _ => rxTakeover n count)) ∧
  (∀ (m k sel : Nat), HasEffect (.obsSelWrite m k sel) (fieldStore m (A.RXADC_OBS_SEL k) [(L.RXADC_OBS_SEL_SEL k, sel)])) ∧
  (∀ (k : Nat), HasEffect (.obsSettlingEnd k) (fun _ => rxSettled (64 + k) 1))

/-- For every operand that exists and fits its field, and for every state, each command of this family answers the next
state in which its own effect, named here, has happened to memory and device; its queue is as it was.
[05_tx_conversion] -/
def Obligations.TransmitCommandsHaveTheirEffect : Prop :=
  (∀ (m p : Nat), HasEffect (.txdacEnSet m p) (fieldStore m (A.TXDAC_CFG p) [(L.TXDAC_CFG_EN p, 1)])) ∧
  (∀ (m p : Nat), HasEffect (.txdacEnClear m p) (fieldStore m (A.TXDAC_CFG p) [(L.TXDAC_CFG_EN p, 0)])) ∧
  (∀ (p : Nat), HasEffect (.txdacBiasDone p) (fun _ => txBiasDone p)) ∧
  (∀ (p : Nat), HasEffect (.txdacCalDone p) (fun _ => fun d => retConv p (txCalDone p d))) ∧
  (∀ (m p phase ftwHi : Nat), HasEffect (.txdacNcoCommit m p phase ftwHi) (fieldStore m (A.TXDAC_NCO_HI p) [(L.TXDAC_NCO_HI_PHASE p, phase), (L.TXDAC_NCO_HI_FTW_HI p, ftwHi)])) ∧
  (∀ (m p v : Nat), HasEffect (.txdacMuteWrite m p v) (fieldStore m (A.TXDAC_MUTE p) [(L.TXDAC_MUTE_MUTE p, v)])) ∧
  (∀ (p : Nat), HasEffect (.muteRampDone p) (fun _ => muteRampDone p)) ∧
  (∀ (p seg cause : Nat), HasEffect (.segmentFault p seg cause) (fun _ => segFault p seg cause)) ∧
  (∀ (p trim : Nat) (drift : Bool), HasEffect (.segmentSweepStep p trim drift) (fun _ => segSweep p trim drift)) ∧
  (∀ (p : Nat), HasEffect (.segmentExclude p) (fun _ => segExclude p)) ∧
  (∀ (p : Nat) (cp : Bool), HasEffect (.guardWindow p cp) (fun _ => guardWindow p cp)) ∧
  (∀ (p : Nat), HasEffect (.segmentSwapDone p) (fun _ => swapDone p)) ∧
  (∀ (p : Nat), HasEffect (.gwWaitTimeout p) (fun _ => gwWait p)) ∧
  (∀ (p code : Nat), HasEffect (.txCodeClip p code) (fun _ => codeClip p code))

/-- For every operand that exists and fits its field, and for every state, each command of this family answers the next
state in which its own effect, named here, has happened to memory and device; its queue is as it was.
[06_channelisers] -/
def Obligations.ChannelCommandsHaveTheirEffect : Prop :=
  (∀ (m p ctr : Nat), HasEffect (.chRxctrWrite m p ctr) (fieldStore m (A.CH_RXCTR p) [(L.CH_RXCTR_CTR p, ctr)])) ∧
  (∀ (m k mode block : Nat), HasEffect (.chChgGo m k mode block) (fieldStore m (A.CH_CHG k) [(L.CH_CHG_GO k, 1), (L.CH_CHG_AT_MODE k, mode), (L.CH_CHG_AT k, block)])) ∧
  (∀ (k : Nat), HasEffect (.invalidRunEnd k) (fun _ => chanSettled k)) ∧
  (∀ (p c : Nat), HasEffect (.ducSettlingEnd p c) (fun _ => chanSettled (duc p c))) ∧
  (∀ (p j : Nat), HasEffect (.coarsePowerWindow p j) (fun _ => fun d => let (d, hi) := coarseWindow p (meanDb (d.coarseSamples p j)) (d.coarseValid p j) d; d.when hi (lnaBypass p))) ∧
  (∀ (k : Nat), HasEffect (.finePowerWindow k) (fun _ => fun d => fineNext k (fineWindow k (meanDb ((d.fineSamples k).map (·.1))) (d.fineValid k) d)))

/-- For every operand that exists and fits its field, and for every state, each command of this family answers the next
state in which its own effect, named here, has happened to memory and device; its queue is as it was. [07_ofdm_engine] -/
def Obligations.OfdmCommandsHaveTheirEffect : Prop :=
  (∀ (half : Nat), HasEffect (.halfSubframeBoundary half) (fun _ => halfSubframe half)) ∧
  (∀ (m i mode half : Nat), HasEffect (.ofChgGo m i mode half) (fieldStore m (A.OF_CHG i) [(L.OF_CHG_GO i, 1), (L.OF_CHG_AT_MODE i, mode), (L.OF_CHG_AT i, half)])) ∧
  HasEffect .ofdmAdmissionResult (fun _ => ofResult)

/-- For every operand that exists and fits its field, and for every state, each command of this family answers the next
state in which its own effect, named here, has happened to memory and device; its queue is as it was. [08_beamforming] -/
def Obligations.BeamCommandsHaveTheirEffect : Prop :=
  (∀ (m i mode half : Nat), HasEffect (.bmChgGo m i mode half) (fieldStore m (A.BM_CHG i) [(L.BM_CHG_GO i, 1), (L.BM_CHG_AT_MODE i, mode), (L.BM_CHG_AT i, half)])) ∧
  (∀ (i fn n : Nat), HasEffect (.symbolCommitPoint i fn n) (fun _ => commitPoint i fn n)) ∧
  (∀ (i fn n : Nat), HasEffect (.dlSymbolCompute i fn n) (dlCompute i fn n)) ∧
  (∀ (dir c sym : Nat) (errs : List RodErr), HasEffect (.rodLocatedFault dir c sym errs) (located dir c sym errs)) ∧
  (∀ (dir c sym : Nat), HasEffect (.beamReplayDone dir c sym) (replayDone dir c sym)) ∧
  (∀ (dir c sym : Nat) (errs : List RodErr), HasEffect (.checkUnlocated dir c sym errs) (unlocated dir c sym errs)) ∧
  (∀ (dir rod c sym : Nat) (own : RodErr) (errs : List RodErr), HasEffect (.spareRodMismatch dir rod c sym own errs) (spareMismatch dir rod c sym own errs)) ∧
  (∀ (m dir e target len : Nat), HasEffect (.bmErampGo m dir e target len) (fieldStore m (A.BM_ERAMP dir e) [(L.BM_ERAMP_GO dir e, 1), (L.BM_ERAMP_TARGET dir e, target), (L.BM_ERAMP_LEN dir e, len)]))

/-- For every operand that exists and fits its field, and for every state, each command of this family answers the next
state in which its own effect, named here, has happened to memory and device; its queue is as it was.
[09_predistortion] -/
def Obligations.PredistortionCommandsHaveTheirEffect : Prop :=
  (∀ (m p v : Nat), HasEffect (.dpdEnWrite m p v) (fieldStore m (A.DPD_PCFG p) [(L.DPD_PCFG_EN p, v)])) ∧
  (∀ (m k input path : Nat), HasEffect (.dpdCapreqGo m k input path) (fieldStore m (A.DPD_CAPREQ k) [(L.DPD_CAPREQ_GO k, 1), (L.DPD_CAPREQ_INPUT k, input), (L.DPD_CAPREQ_M k, path)])) ∧
  (∀ (k : Nat), HasEffect (.routineCaptureTick k) (fun _ => routineTick k)) ∧
  (∀ (k : Nat), HasEffect (.captureEnd k) (fun _ => capEnd k)) ∧
  (∀ (k : Nat), HasEffect (.captureResultsReady k) (fun _ => capResults k)) ∧
  (∀ (m k slot : Nat), HasEffect (.captureSlotRelease m k slot) (fieldStore m (A.DPD_CAPSTAT k) [(if slot = 0 then L.DPD_CAPSTAT_FULL0 k else L.DPD_CAPSTAT_FULL1 k, 1)])) ∧
  (∀ (m p holdoff j fade rbFade : Nat), HasEffect (.dpdTrialGo m p holdoff j fade rbFade) (fieldStore m (A.DPD_TRIAL p) [(L.DPD_TRIAL_GO p, 1), (L.DPD_TRIAL_HOLDOFF p, holdoff), (L.DPD_TRIAL_J p, j), (L.DPD_TRIAL_FADE p, fade), (L.DPD_TRIAL_RB_FADE p, rbFade)])) ∧
  (∀ (m p : Nat), HasEffect (.dpdTrialAbort m p) (fieldStore m (A.DPD_TRIAL p) [(L.DPD_TRIAL_ABORT p, 1)])) ∧
  (∀ (p : Nat), HasEffect (.trialHoldoffEnd p) (fun _ => trialHoldEnd p)) ∧
  (∀ (p : Nat), HasEffect (.trialTimeout p) (fun _ => trialTimeout p)) ∧
  (∀ (m desc : Nat), HasEffect (.dpdSjobGo m desc) (fieldStore m A.DPD_SJOB [(L.DPD_SJOB_GO, 1), (L.DPD_SJOB_DESC, desc)])) ∧
  HasEffect .solverJobDone solverDone ∧
  HasEffect .solverJobStart solverStart

/-- For every operand that exists and fits its field, and for every state, each command of this family answers the next
state in which its own effect, named here, has happened to memory and device; its queue is as it was.
[10_path_control] -/
def Obligations.PathCommandsHaveTheirEffect : Prop :=
  (∀ (m p : Nat), HasEffect (.pathEnSet m p) (fieldStore m (A.PATH_CFG p) [(L.PATH_CFG_EN p, 1)])) ∧
  (∀ (m p : Nat), HasEffect (.pathEnClear m p) (fieldStore m (A.PATH_CFG p) [(L.PATH_CFG_EN p, 0)])) ∧
  (∀ (m p tmo len : Nat), HasEffect (.pathOutGo m p tmo len) (fieldStore m (A.PATH_CTL p) [(L.PATH_CTL_OUT_GO p, 1), (L.PATH_CTL_RET_TMO p, tmo), (L.PATH_CTL_LEN p, len)])) ∧
  (∀ (m p tmo len : Nat), HasEffect (.pathRetGo m p tmo len) (fieldStore m (A.PATH_CTL p) [(L.PATH_CTL_RET_GO p, 1), (L.PATH_CTL_RET_TMO p, tmo), (L.PATH_CTL_LEN p, len)])) ∧
  (∀ (m p tmo len : Nat), HasEffect (.pathFeGo m p tmo len) (fieldStore m (A.PATH_CTL p) [(L.PATH_CTL_FE_GO p, 1), (L.PATH_CTL_RET_TMO p, tmo), (L.PATH_CTL_LEN p, len)])) ∧
  (∀ (m mode scs period lead : Nat), HasEffect (.airCfgGo m mode scs period lead) (fieldStore m A.AIR_CFG [(L.AIR_CFG_GO, 1), (L.AIR_CFG_MODE, mode), (L.AIR_CFG_SCS_REF, scs), (L.AIR_CFG_PERIOD, period), (L.AIR_CFG_CHK_LEAD, lead)])) ∧
  (∀ (p b : Nat), HasEffect (.burstCheck p b) (fun _ => burstCheck p b)) ∧
  (∀ (p : Nat), HasEffect (.burstMuteWithdraw p) (fun _ => burstWithdraw p)) ∧
  (∀ (p line : Nat) (on : Bool), HasEffect (.feProgramEdge p line on) (fun _ => feEdge p line on)) ∧
  (∀ (p : Nat), HasEffect (.burstEnd p) (fun _ => burstEnd p)) ∧
  (∀ (p : Nat), HasEffect (.returnTimeout p) (fun _ => retTimeout p)) ∧
  (∀ (p : Nat), HasEffect (.lnaBypassEnd p) (fun _ => lnaBypassEnd p)) ∧
  (∀ (k pin level : Nat), HasEffect (.coexInputAccepted k pin level) (fun _ => fun d => dmpSettleAll (coexAccept k pin level d))) ∧
  (∀ (k pin : Nat), HasEffect (.coexStuck k pin) (fun _ => fun d => dmpSettleAll (coexStuck k pin d))) ∧
  (∀ (k : Nat), HasEffect (.coexDelayedEdge k) (fun _ => fun d => dmpSettleAll (coexDelayed k d))) ∧
  (∀ (k b : Nat), HasEffect (.coexReqRise k b) (fun _ => coexReq k b)) ∧
  (∀ (m k when m' : Nat), HasEffect (.tunPushGo m k when m') (fieldStore m (A.TUN_PUSH k) [(L.TUN_PUSH_GO k, 1), (L.TUN_PUSH_WHEN k, when), (L.TUN_PUSH_M k, m')])) ∧
  (∀ (k : Nat), HasEffect (.tunerWordStart k) (fun _ => tunStart k)) ∧
  (∀ (k : Nat), HasEffect (.tunerWordDone k) (fun _ => tunDone k)) ∧
  (∀ (p : Nat), HasEffect (.mismatchInterval p) (fun _ => mismatchTick p)) ∧
  (∀ (p : Nat), HasEffect (.mismatchMeasured p) (fun _ => mismatchResult p)) ∧
  (∀ (m p n cur settle : Nat), HasEffect (.pathSrchGo m p n cur settle) (fieldStore m (A.PATH_SRCH p) [(L.PATH_SRCH_GO p, 1), (L.PATH_SRCH_N p, n), (L.PATH_SRCH_CUR p, cur), (L.PATH_SRCH_TSETTLE p, settle)])) ∧
  (∀ (p : Nat), HasEffect (.searchSettleEnd p) (fun _ => searchSettled p))

/-- For every operand that exists and fits its field, and for every state, each command of this family answers the next
state in which its own effect, named here, has happened to memory and device; its queue is as it was. [11_calibration] -/
def Obligations.CalibrationCommandsHaveTheirEffect : Prop :=
  (∀ (m apply fade kind path : Nat), HasEffect (.calRunGo m apply fade kind path) (fieldStore m A.CAL_RUN [(L.CAL_RUN_GO, 1), (L.CAL_RUN_APPLY, apply), (L.CAL_RUN_FADE, fade), (L.CAL_RUN_KIND, kind), (L.CAL_RUN_PATH, path)])) ∧
  (∀ (m : Nat), HasEffect (.calRunAbort m) (fieldStore m A.CAL_RUN [(L.CAL_RUN_ABORT, 1)])) ∧
  HasEffect .calWindowStart (fun _ => calWindow) ∧
  HasEffect .calPreconditionDone (fun _ => calPre) ∧
  HasEffect .calMeasurementDone (fun _ => calMeasured) ∧
  (∀ (c : CalData), HasEffect (.calRunEnd c) (fun _ => calEnd c)) ∧
  (∀ (m fade path at' : Nat), HasEffect (.calApplyGo m fade path at') (fieldStore m A.CAL_APPLY [(L.CAL_APPLY_GO, 1), (L.CAL_APPLY_FADE, fade), (L.CAL_APPLY_PATH, path), (L.CAL_APPLY_AT, at')])) ∧
  (∀ (m reg value : Nat), HasEffect (.pilotWrite m reg value) (busWrite m (match reg with | 0 => A.CAL_PILOT | 1 => A.CAL_PILOT_LO | _ => A.CAL_PILOT_HI) 4 value)) ∧
  HasEffect .calRunStart (fun _ => calStart) ∧
  HasEffect .calNoWindow (fun _ => calNoWindow) ∧
  HasEffect .bgCalInterval (fun _ => calBackground)

/-- For every operand that exists and fits its field, and for every state, each command of this family answers the next
state in which its own effect, named here, has happened to memory and device; its queue is as it was. [12_damper] -/
def Obligations.DamperCommandsHaveTheirEffect : Prop :=
  (∀ (p : Nat) (v : List (Int × Int)), HasEffect (.damperPkBreak p v) (fun _ => dmpPk p v)) ∧
  (∀ (p k : Nat), HasEffect (.damperGrantBreak p k) (fun _ => dmpGrant p k)) ∧
  (∀ (p : Nat) (v : List (Int × Int)), HasEffect (.damperCauseClear p v) (fun _ => dmpCauseClear p v)) ∧
  (∀ (p : Nat), HasEffect (.damperCooldownEnd p) (fun _ => dmpCoolEnd p)) ∧
  (∀ (m all path : Nat), HasEffect (.dmpRearmGo m all path) (fieldStore m A.DMP_REARM [(L.DMP_REARM_GO, 1), (L.DMP_REARM_ALL, all), (L.DMP_REARM_PATH, path)])) ∧
  (∀ (k : Nat), HasEffect (.tripAcceptedHigh k) (fun _ => tripHigh k)) ∧
  (∀ (k : Nat), HasEffect (.tripAcceptedLow k) (fun _ => tripLow k)) ∧
  (∀ (m addr value : Nat), HasEffect (.damperLimitWrite m addr value) (busWrite m addr 4 value)) ∧
  HasEffect .txInhibitLow (fun _ => inhibitLow) ∧
  HasEffect .txInhibitHigh (fun _ => inhibitHigh)

/-- For every operand that exists and fits its field, and for every state, each command of this family answers the next
state in which its own effect, named here, has happened to memory and device; its queue is as it was.
[13_fronthaul_ports] -/
def Obligations.PortCommandsHaveTheirEffect : Prop :=
  (∀ (m fwd fec25 dual mode : Nat), HasEffect (.fhModeWrite m fwd fec25 dual mode) (fieldStore m A.FH_CFG [(L.FH_CFG_FWD_EN, fwd), (L.FH_CFG_FEC25, fec25), (L.FH_CFG_DUAL, dual), (L.FH_CFG_MODE, mode)])) ∧
  (∀ (q : Nat), HasEffect (.linkSignalDetect q) (fun _ => linkSignal q)) ∧
  (∀ (q : Nat), HasEffect (.linkAligned q) (fun _ => linkAligned q)) ∧
  (∀ (q : Nat), HasEffect (.linkUp q) (fun _ => linkUp q)) ∧
  (∀ (q sig : Nat), HasEffect (.linkDown q sig) (fun _ => fun d =>
        if d.link q ≥ 2 then (portDown q d).set (L.FH_PSTAT_SIG q) (sig &&& d.portLanes q) else d)) ∧
  (∀ (q : Nat), HasEffect (.linkRemoteFault q) (fun _ => remoteFault q)) ∧
  (∀ (q symbols words : Nat), HasEffect (.fecWindow q symbols words) (fun _ => fecWindow q symbols words)) ∧
  (∀ (q : Nat) (f : RxFrame), HasEffect (.frameReceived q f) (fun _ => portWakes (frameIn q f))) ∧
  (∀ (q : Nat), HasEffect (.frameTransmit q) (fun _ => frameOut q)) ∧
  (∀ (q : Nat), HasEffect (.remoteFaultEnd q) (fun _ => fun d => d.set (L.FH_PSTAT_RFAULT q) 0))

/-- For every operand that exists and fits its field, and for every state, each command of this family answers the next
state in which its own effect, named here, has happened to memory and device; its queue is as it was.
[14_gastad_framing] -/
def Obligations.FramingCommandsHaveTheirEffect : Prop :=
  (∀ (c fn n : Nat), HasEffect (.fdUlDepart c fn n) (fdUl c fn n)) ∧
  (∀ (t : TdUl), HasEffect (.tdUlDepart t) (fun _ => tdUl t)) ∧
  (∀ (flow : Nat), HasEffect (.mgtReorderTimeout flow) (fun _ => mgtTimeout flow)) ∧
  (∀ (m len tag : Nat), HasEffect (.mgtUlSend m len tag) (fieldStore m A.GST_MTX [(L.GST_MTX_GO, 1), (L.GST_MTX_LEN, len), (L.GST_MTX_TAG, tag)])) ∧
  HasEffect .fdDlMessage (fun _ => gstMessage 1 fun f => fdDl f.bytes) ∧
  HasEffect .tdDlMessage (fun _ => gstMessage 3 fun f => tdDl f.bytes) ∧
  HasEffect .schedMessage (fun _ => gstMessage 5 fun f => sched f.bytes) ∧
  HasEffect .weightMessage (fun mem => gstMessage 6 fun f => weightMsg f.bytes mem) ∧
  HasEffect .retractMessage (fun _ => gstMessage 7 fun f => retract f.bytes) ∧
  HasEffect .mgtDlMessage (fun _ => gstMessage 8 fun f => mgtDl f.bytes) ∧
  HasEffect .echoReqMessage (fun _ => gstMessage 10 echoReq) ∧
  HasEffect .echoRspReady (fun _ => echoRsp)

/-- For every operand that exists and fits its field, and for every state, each command of this family answers the next
state in which its own effect, named here, has happened to memory and device; its queue is as it was.
[15_network_time] -/
def Obligations.NetworkTimeCommandsHaveTheirEffect : Prop :=
  (∀ (alignOff : Int), HasEffect (.frameBoundary alignOff) (fun _ => frameBegin alignOff)) ∧
  (∀ (m ns sec : Nat), HasEffect (.timeSetWrite m ns sec) (wordsStore m A.TIME_SET_W0 [ns, sec % 2 ^ 32, sec / 2 ^ 32])) ∧
  (∀ (m adj : Nat), HasEffect (.timeAdjWrite m adj) (wordsStore m A.TIME_ADJ_W0 [adj % 2 ^ 32, adj / 2 ^ 32])) ∧
  (∀ (m inc : Nat), HasEffect (.timeIncWrite m inc) (wordsStore m A.TIME_INC_W0 [inc % 2 ^ 32, inc / 2 ^ 32])) ∧
  (∀ (m foff : Nat), HasEffect (.timeFoffWrite m foff) (fieldStore m A.TIME_FRAME [(L.TIME_FRAME_FOFF, foff)])) ∧
  (∀ (m state : Nat), HasEffect (.timeVgo m state) (fieldStore m A.TIME_CTL [(L.TIME_CTL_VGO, 1), (L.TIME_CTL_STATE, state)])) ∧
  (∀ (m : Nat), HasEffect (.timeKick m) (fieldStore m A.TIME_CTL [(L.TIME_CTL_KICK, 1)])) ∧
  (∀ (m port op len : Nat), HasEffect (.timePtxGo m port op len) (fieldStore m A.TIME_PTX [(L.TIME_PTX_GO, 1), (L.TIME_PTX_PORT, port), (L.TIME_PTX_OP, op), (L.TIME_PTX_LEN, len)])) ∧
  (∀ (m : Nat), HasEffect (.ptpRxPop m) (fieldStore m A.TIME_PRX_RD [(L.TIME_PRX_RD_POP, 1)])) ∧
  (∀ (i : Nat) (rising : Bool), HasEffect (.tcapEdge i rising) (fun _ => tcapEdge i rising)) ∧
  (∀ (m i : Nat), HasEffect (.tcapEntryRead m i) (busRead m (A.TCAP_ENTRY_W0 i) 4)) ∧
  (∀ (m : Nat), HasEffect (.timeEtsRead m) (busRead m A.TIME_ETS_W0 4)) ∧
  (∀ (m k ns sec : Nat), HasEffect (.tpStartArm m k ns sec) (wordsStore m (A.TP_START_W0 k) [ns, sec % 2 ^ 32, sec / 2 ^ 32])) ∧
  (∀ (k : Nat), HasEffect (.pulseDue k) (fun _ => pulseDue k)) ∧
  (∀ (k : Nat), HasEffect (.pulseWidthEnd k) (fun _ => pulseLow k)) ∧
  (∀ (m n : Nat), HasEffect (.embCalGo m n) (fieldStore m A.EMB_CAL [(L.EMB_CAL_GO, 1), (L.EMB_CAL_N, n)])) ∧
  (∀ (span : Nat), HasEffect (.embCalDone span) (fun _ => embDone span)) ∧
  (∀ (e : Nat), HasEffect (.sleepSaveDone e) (fun _ => saveDone e)) ∧
  (∀ (e : Nat), HasEffect (.timeBridgeLoad e) (fun _ => timeBridge e)) ∧
  (∀ (e : Nat), HasEffect (.xinStop e) (fun _ => xinStop e)) ∧
  HasEffect .timeStepApply (fun _ => timeTick) ∧
  HasEffect .holdTimeout (fun _ => holdTimeout)

/-- For every operand that exists and fits its field, and for every state, each command of this family answers the next
state in which its own effect, named here, has happened to memory and device; its queue is as it was.
[16_tally_faults] -/
def Obligations.TallyCommandsHaveTheirEffect : Prop :=
  (∀ (i : Nat), HasEffect (.stampBroadcast i) (fun _ => stampLoad i)) ∧
  (∀ (i : Nat), HasEffect (.tallyRecordArrive i) (fun _ => tallyArrive i)) ∧
  (∀ (m en : Nat), HasEffect (.tallyEnWrite m en) (fieldStore m A.TLY_CFG [(L.TLY_CFG_EN, en)])) ∧
  (∀ (m payload sev code : Nat), HasEffect (.tallySwrecCommit m payload sev code) (wordsStore m A.TLY_SWREC_W0 [payload, sev * 2 ^ 24 + code])) ∧
  (∀ (m : Nat), HasEffect (.fnLatchClear m) (fieldStore m A.TLY_FAULT [(L.TLY_FAULT_FN_LATCH, 1)])) ∧
  (∀ (m : Nat), HasEffect (.tlyStatBeadRead m) (busRead m A.TLY_STAT 4)) ∧
  (∀ (m : Nat), HasEffect (.keptRingClear m) (fieldStore m A.TLY_KEEP_WR [(L.TLY_KEEP_WR_KCLR, 1)])) ∧
  (∀ (w : EccWord) (result : Nat), HasEffect (.scrubCheck w result) (fun _ => scrub w result)) ∧
  HasEffect .tallyRecordEmit (fun _ => tallyEmit)

/-- For every operand that exists and fits its field, and for every state, each command of this family answers the next
state in which its own effect, named here, has happened to memory and device; its queue is as it was.
[17_beads_mailboxes] -/
def Obligations.MailboxCommandsHaveTheirEffect : Prop :=
  (∀ (n : Nat) (pc : Nat), HasEffect (.watchdogExpiry n pc) (fun mem d =>
        let runs := d.wdogExpires n
        let d := watchdog n pc d
        if runs && d.get (L.MBX_BSTAT_STATE n) = 0 then cmdInterrupt n mem d else d)) ∧
  (∀ (m n period : Nat), HasEffect (.mbxWdogArm m n period) (fieldStore m (A.MBX_WDOG n) [(L.MBX_WDOG_EN n, 1), (L.MBX_WDOG_PERIOD n, period)])) ∧
  (∀ (m n : Nat), HasEffect (.mbxWdogKick m n) (fieldStore m (A.MBX_WDOG n) [(L.MBX_WDOG_KICK n, 1)])) ∧
  (∀ (m c en sender recv : Nat), HasEffect (.mbxBindWrite m c en sender recv) (fieldStore m (A.MBX_BIND c) [(L.MBX_BIND_EN c, en), (L.MBX_BIND_SENDER c, sender), (L.MBX_BIND_RECV c, recv)])) ∧
  (∀ (m c offset tag : Nat), HasEffect (.mbxRingCommit m c offset tag) (wordsStore m (A.MBX_RING_W0 c) [offset, tag])) ∧
  (∀ (m c width : Nat), HasEffect (.mbxPopRead m c width) (busRead m (A.MBX_POP_W0 c) width)) ∧
  (∀ (a : Nat), HasEffect (.smbAddr a) (fun _ => smbCommand fun d => { d with smbAddr := a })) ∧
  (∀ (v : Nat), HasEffect (.smbWrite v) (fun mem => smbCommand (smbAccess true v mem))) ∧
  (∀ (c tag offset : Nat), HasEffect (.smbRing c tag offset) (fun _ => smbCommand (smbRing c tag offset))) ∧
  (∀ (complete : Bool), HasEffect (.smbPop complete) (fun _ => smbCommand (smbPop complete))) ∧
  (∀ (n : Nat), HasEffect (.jtagHalt n) (fun _ => jtagHalt n)) ∧
  (∀ (n : Nat), HasEffect (.jtagResume n) (fun _ => jtagResume n)) ∧
  HasEffect .smbAddressMatch (fun _ => smbMatch) ∧
  HasEffect .smbStretchTimeout (fun _ => fun d => if d.smbReady then d else smbTimeout d) ∧
  HasEffect .smbRead (fun mem => smbCommand (smbAccess false 0 mem)) ∧
  HasEffect .smbStatus (fun _ => smbCommand smbStatus) ∧
  HasEffect .smbAlertResponse (fun _ => smbAlertTaken)

/-- For every operand that exists and fits its field, and for every state, each command of this family answers the next
state in which its own effect, named here, has happened to memory and device; its queue is as it was.
[18_ikirik_commands] -/
def Obligations.IkirikCommandsHaveTheirEffect : Prop :=
  HasEffect .sysInfo (serve 0x0100 sysInfo) ∧
  HasEffect .sysStatus (serve 0x0101 sysStatus) ∧
  HasEffect .sysReset (serve 0x0102 sysReset) ∧
  HasEffect .pathEnable (serve 0x0200 cmdPathEnable) ∧
  HasEffect .pathReturn (serve 0x0201 cmdPathReturn) ∧
  HasEffect .pathOut (serve 0x0202 cmdPathOut) ∧
  HasEffect .pathFe (serve 0x0203 cmdPathFe) ∧
  HasEffect .pathPolicy (serve 0x0204 cmdPathPolicy) ∧
  HasEffect .pathTune (serve 0x0205 cmdPathTune) ∧
  HasEffect .pathAir (serve 0x0206 cmdPathAir) ∧
  HasEffect .pathCoex (serve 0x0207 cmdPathCoex) ∧
  HasEffect .pathTuner (serve 0x0208 cmdPathTuner) ∧
  HasEffect .pathQuery (serve 0x0209 cmdPathQuery) ∧
  HasEffect .carrierSet (serve 0x0300 cmdCarrierSet) ∧
  HasEffect .carrierStop (serve 0x0301 cmdCarrierStop) ∧
  HasEffect .carrierQuery (serve 0x0302 cmdCarrierQuery) ∧
  HasEffect .beamLoad (serve 0x0400 cmdBeamLoad) ∧
  HasEffect .beamSwitch (serve 0x0401 cmdBeamSwitch) ∧
  HasEffect .beamRamp (serve 0x0402 cmdBeamRamp) ∧
  HasEffect .beamQuery (serve 0x0403 cmdBeamQuery) ∧
  HasEffect .dpdEnable (serve 0x0500 cmdDpdEnable) ∧
  HasEffect .dpdBank (serve 0x0501 cmdDpdBank) ∧
  HasEffect .dpdSwitch (serve 0x0502 cmdDpdSwitch) ∧
  HasEffect .dpdTrial (serve 0x0503 cmdDpdTrial) ∧
  HasEffect .dpdAdapt (serve 0x0504 cmdDpdAdapt) ∧
  HasEffect .dpdCfg (serve 0x0505 cmdDpdCfg) ∧
  HasEffect .dpdQuery (serve 0x0506 cmdDpdQuery) ∧
  HasEffect .calRun (serve 0x0600 cmdCalRun) ∧
  HasEffect .calApply (serve 0x0601 cmdCalApply) ∧
  HasEffect .calCfg (serve 0x0602 cmdCalCfg) ∧
  HasEffect .calNet (serve 0x0603 cmdCalNet) ∧
  HasEffect .calQuery (serve 0x0604 cmdCalQuery) ∧
  HasEffect .timeGet (serve 0x0700 cmdTimeGet) ∧
  HasEffect .timePtp (serve 0x0701 cmdTimePtp) ∧
  HasEffect .timeSet (serve 0x0702 cmdTimeSet) ∧
  HasEffect .timeFrame (serve 0x0703 cmdTimeFrame) ∧
  HasEffect .timePulse (serve 0x0704 cmdTimePulse) ∧
  HasEffect .timeCapture (serve 0x0705 cmdTimeCapture) ∧
  HasEffect .timeEmbcal (serve 0x0706 cmdTimeEmbcal) ∧
  HasEffect .monTable (serve 0x0800 cmdMonTable) ∧
  HasEffect .monRun (serve 0x0801 cmdMonRun) ∧
  HasEffect .monRead (serve 0x0802 cmdMonRead) ∧
  HasEffect .monPwm (serve 0x0803 cmdMonPwm) ∧
  HasEffect .pwrLevel (serve 0x0900 cmdPwrLevel) ∧
  HasEffect .pwrSleep (serve 0x0901 cmdPwrSleep) ∧
  HasEffect .pwrVote (serve 0x0902 cmdPwrVote) ∧
  HasEffect .pwrQuery (serve 0x0903 cmdPwrQuery) ∧
  HasEffect .logCfg (serve 0x0A00 cmdLogCfg) ∧
  HasEffect .logRead (serve 0x0A01 cmdLogRead) ∧
  HasEffect .logKeep (serve 0x0A02 cmdLogKeep) ∧
  HasEffect .logAck (serve 0x0A03 cmdLogAck) ∧
  HasEffect .logNote (serve 0x0A04 cmdLogNote) ∧
  HasEffect .otpRead (serve 0x0B00 cmdOtpRead) ∧
  HasEffect .fwStatus (serve 0x0C00 cmdFwStatus) ∧
  HasEffect .fwLoad (serve 0x0C01 cmdFwLoad) ∧
  HasEffect .fwFlash (serve 0x0C02 cmdFwFlash) ∧
  HasEffect .fwActivate (fun mem d => laterPoll mem (serve 0x0C03 cmdFwActivate mem d))

/-- For every operand that exists and fits its field, and for every state, each command of this family answers the next
state in which its own effect, named here, has happened to memory and device; its queue is as it was. [19_dma] -/
def Obligations.DmaCommandsHaveTheirEffect : Prop :=
  (∀ (m ch : Nat), HasEffect (.dmaGo m ch) (fieldStore m (A.DMA_CCTL ch) [(L.DMA_CCTL_GO ch, 1)])) ∧
  (∀ (m ch : Nat), HasEffect (.dmaStop m ch) (fieldStore m (A.DMA_CCTL ch) [(L.DMA_CCTL_STOP ch, 1)])) ∧
  (∀ (ch : Nat), HasEffect (.dmaDescriptorFetched ch) (dmaFetched ch)) ∧
  (∀ (ch issued : Nat), HasEffect (.dmaBurstDone ch issued) (dmaBurstDone ch issued)) ∧
  (∀ (m q level : Nat), HasEffect (.dmaQlvlWrite m q level) (busWrite m (A.DMA_QLVL q) 4 level)) ∧
  (∀ (m q delta : Nat), HasEffect (.dmaQadjWrite m q delta) (busWrite m (A.DMA_QADJ q) 4 delta)) ∧
  (∀ (m q v : Nat), HasEffect (.dmaQcfgCommit m q v) (busWrite m (A.DMA_QCFG q) 4 v)) ∧
  (∀ (m ch v : Nat), HasEffect (.dmaCcfgWrite m ch v) (busWrite m (A.DMA_CCFG ch) 4 v)) ∧
  (∀ (m ch addr : Nat), HasEffect (.dmaCdescWrite m ch addr) (busWrite m (A.DMA_CDESC ch) 4 addr)) ∧
  HasEffect .dmaBurstStart (fun _ => dmaGrant)

/-- For every operand that exists and fits its field, and for every state, each command of this family answers the next
state in which its own effect, named here, has happened to memory and device; its queue is as it was. [20_monitor] -/
def Obligations.MonitorCommandsHaveTheirEffect : Prop :=
  (∀ (m : Nat), HasEffect (.monRunSet m) (fieldStore m A.MON_CTL [(L.MON_CTL_RUN, 1)])) ∧
  (∀ (m : Nat), HasEffect (.monRunClear m) (fieldStore m A.MON_CTL [(L.MON_CTL_RUN, 0)])) ∧
  (∀ (m lp : Nat), HasEffect (.monLpWrite m lp) (fieldStore m A.MON_CTL [(L.MON_CTL_LP, lp)])) ∧
  (∀ (m v : Nat), HasEffect (.monTrigWrite m v) (busWrite m A.MON_TRIG 4 v)) ∧
  (∀ (k : Nat), HasEffect (.monSetupEnd k) (fun _ => monSetupEnd k)) ∧
  (∀ (k : Nat) (raw : Int), HasEffect (.monIntegrationEnd k raw) (fun _ => monIntegrationEnd k raw)) ∧
  (∀ (k : Nat), HasEffect (.monResultStored k) (fun _ => monWakes (monStore k))) ∧
  (∀ (k : Nat), HasEffect (.monDelayEnd k) (fun _ => monDelayEnd k)) ∧
  (∀ (k : Nat), HasEffect (.monTriggerTimeout k) (fun _ => monTimeout k)) ∧
  (∀ (cycles : Nat), HasEffect (.mainsEdge cycles) (fun _ => monWakes (mainsEdge cycles))) ∧
  (∀ (j : Nat), HasEffect (.pwmPeriodStart j) (fun _ => pwmStart j)) ∧
  HasEffect .monTimerTick (fun _ => fun d => if d.get L.MON_TRIG_TIMER = 0 then d else monTrigger 1 d) ∧
  HasEffect .monPwmTrigger (fun _ => monTrigger 2) ∧
  HasEffect .mainsTimeout (fun _ => monWakes mainsTimeout)

/-- For every operand that exists and fits its field, and for every state, each command of this family answers the next
state in which its own effect, named here, has happened to memory and device; its queue is as it was.
[21_power_states] -/
def Obligations.PowerCommandsHaveTheirEffect : Prop :=
  (∀ (m n bits : Nat), HasEffect (.pwrVsetWrite m n bits) (busWrite m (A.PWR_VSET n) 4 bits)) ∧
  (∀ (m n bits : Nat), HasEffect (.pwrVclrWrite m n bits) (busWrite m (A.PWR_VCLR n) 4 bits)) ∧
  (∀ (n : Nat), HasEffect (.domainPowerGood n) (fun mem d => waitsSettle mem (domainGood n d))) ∧
  (∀ (n : Nat), HasEffect (.domainPowerupFail n) (fun mem d => waitsSettle mem (domainFail n d))) ∧
  (∀ (n : Nat), HasEffect (.domainHystExpiry n) (fun _ => domainExpire n)) ∧
  (∀ (n : Nat), HasEffect (.domainDownDone n) (fun _ => domainOff n)) ∧
  (∀ (m : Nat), HasEffect (.accessStallTimeout m) (fun mem d =>
        if d.stalled.any (fun x => x.master == m) || m = 18 then waitTimeout m mem d else cmdTimeout m mem d)) ∧
  (∀ (m level : Nat), HasEffect (.pwrLctlGo m level) (fieldStore m A.PWR_LCTL [(L.PWR_LCTL_GO, 1), (L.PWR_LCTL_LEVEL, level)])) ∧
  (∀ (m st : Nat), HasEffect (.pwrSctlGo m st) (fieldStore m A.PWR_SCTL [(L.PWR_SCTL_GO, 1), (L.PWR_SCTL_STATE, st)])) ∧
  (∀ (src pin edge : Nat), HasEffect (.wakeEvent src pin edge) (fun _ => wakeSource src pin edge)) ∧
  HasEffect .avsReport (fun _ => avsReport) ∧
  HasEffect .avsTimeout (fun _ => avsTimeout) ∧
  HasEffect .sleepDmaPaused (fun _ => fun d => if d.dmaQuiet then stepDone 2 d else d) ∧
  HasEffect .sleepBeadsIdle (fun _ => stepDone 3) ∧
  HasEffect .sleepFlushDone (fun _ => flushDone) ∧
  HasEffect .sleepStepTimeout (fun _ => stepTimeout) ∧
  HasEffect .wakeComplete (fun mem d => waitsSettle mem (wakeDone d)) ∧
  (∀ (e : Nat) (s : State), (Instr.sleepEnterDone e).wf = true → exec (.sleepEnterDone e) s =
    .next (State.run (if s.dev.step' == 6 && s.dev.sleep.target == 3 then { s with mem := [] } else s) fun _ => enterSleep e))

/-- For every operand that exists and fits its field, and for every state, each command of this family answers the next
state in which its own effect, named here, has happened to memory and device; its queue is as it was.
[22_boot_otp_security] -/
def Obligations.BootCommandsHaveTheirEffect : Prop :=
  (∀ (cause : Nat), HasEffect (.warmReset cause) (fun _ => warmReset cause)) ∧
  (∀ (m : Nat), HasEffect (.bootReadyWrite m) (fieldStore m A.BOOT_CTL [(L.BOOT_CTL_READY, 1)])) ∧
  (∀ (m : Nat), HasEffect (.bootFwWrite m) (fieldStore m A.BOOT_CTL [(L.BOOT_CTL_FW, 1)])) ∧
  (∀ (m offset : Nat), HasEffect (.bootDbgGo m offset) (fieldStore m A.BOOT_DBG [(L.BOOT_DBG_GO, 1), (L.BOOT_DBG_OFFSET, offset)])) ∧
  (∀ (op : Nat), HasEffect (.pcieConfigurationRequest op) (fun _ => pcieConfig op)) ∧
  HasEffect .porstNRelease (fun _ => fun d =>
        if d.boot.porstLow then coldRelease { d with boot := { d.boot with porstLow := false } } else d) ∧
  HasEffect .perstNRelease (fun _ => fun d => { d with boot := { d.boot with perstLow := false } }) ∧
  HasEffect .otpBurn (serve 0x0B01 cmdOtpBurn) ∧
  HasEffect .otpRevoke (serve 0x0B02 cmdOtpRevoke) ∧
  HasEffect .otpSettingsLoaded (fun _ => otpLoad) ∧
  HasEffect .bootRomStart romStart ∧
  HasEffect .bundleLoadDone (fun _ => bundleLoaded) ∧
  HasEffect .configImageApply configApply ∧
  HasEffect .perstNAssert (fun _ => perstAssert)
end

