-- ==== Sys2Proof/Laws/Table.lean ====
section
/-! SUPPORT. Reading after writing in the sparse tables, and the canonical form of memory (log 2). -/
namespace Sys2Proof.Laws
open Sys2Proof.Machine

variable {α : Type}

/-- An entry just written is found. -/
@[simp] theorem tabGet?_tabPut_same (t : List (Nat × α)) (k : Nat) (v : α) : tabGet? (tabPut t k v) k = some v := by
  induction t with
  | nil => simp [tabPut, tabGet?]
  | cons p t ih =>
    obtain ⟨j, x⟩ := p
    unfold tabPut
    split
    · simp [tabGet?]
    · split
      · simp [tabGet?]
      · rw [tabGet?, if_neg (fun h => by omega), ih]

/-- Other entries stay. -/
theorem tabGet?_tabPut_ne (t : List (Nat × α)) (k j : Nat) (v : α) (h : j ≠ k) : tabGet? (tabPut t k v) j = tabGet? t j := by
  induction t with
  | nil => simp [tabPut, tabGet?, Ne.symm h]
  | cons p t ih =>
    obtain ⟨i, x⟩ := p
    unfold tabPut
    split
    · rw [tabGet?, if_neg (Ne.symm h)]
    · split
      · subst_vars; simp [tabGet?, Ne.symm h]
      · simp only [tabGet?, ih]

/-- A deleted entry is gone. -/
@[simp] theorem tabGet?_tabDel_same (t : List (Nat × α)) (k : Nat) : tabGet? (tabDel t k) k = none := by
  induction t with
  | nil => rfl
  | cons p t ih =>
    unfold tabDel
    split
    · exact ih
    · rw [tabGet?, if_neg (by assumption), ih]

/-- Deleting leaves the other entries. -/
theorem tabGet?_tabDel_ne (t : List (Nat × α)) (k j : Nat) (h : j ≠ k) : tabGet? (tabDel t k) j = tabGet? t j := by
  induction t with
  | nil => rfl
  | cons p t ih =>
    obtain ⟨i, x⟩ := p
    unfold tabDel
    split
    · subst_vars; rw [ih, tabGet?, if_neg (Ne.symm h)]
    · simp only [tabGet?, ih]

/-- Read after write with a default. -/
@[simp] theorem tabGet_tabPut_same (t : List (Nat × α)) (x : α) (k : Nat) (v : α) : tabGet (tabPut t k v) x k = v := by
  simp [tabGet]

/-- A byte just written reads back. -/
@[simp] theorem memGet_memPut_same (m : List (Nat × Byte)) (a : Nat) (b : Byte) : memGet (memPut m a b) a = b := by
  unfold memGet memPut tabGet
  split
  · simp_all
  · simp

/-- A write leaves every other byte. -/
theorem memGet_memPut_ne (m : List (Nat × Byte)) (a c : Nat) (b : Byte) (h : c ≠ a) : memGet (memPut m a b) c = memGet m c := by
  unfold memGet memPut tabGet
  split
  · rw [tabGet?_tabDel_ne _ _ _ h]
  · rw [tabGet?_tabPut_ne _ _ _ _ h]

/-- A list of writes leaves every byte it does not name. -/
theorem memGet_memPutAll_ne (l : List (Nat × Byte)) (m : List (Nat × Byte)) (c : Nat) (h : ∀ p ∈ l, p.1 ≠ c) :
    memGet (memPutAll m l) c = memGet m c := by
  induction l generalizing m with
  | nil => rfl
  | cons p l ih =>
    obtain ⟨a, b⟩ := p
    rw [memPutAll, ih _ fun q hq => h q (List.mem_cons_of_mem _ hq),
      memGet_memPut_ne _ _ _ _ (Ne.symm (h (a, b) List.mem_cons_self))]

/-- Every listed byte lies above an address, and none is at its reset contents, rising. -/
def memAbove (a : Nat) : List (Nat × Byte) → Prop
  | [] => True
  | (j, b) :: t => a < j ∧ b ≠ memReset ∧ memAbove j t

/-- The canonical form of a list with a head. -/
theorem memWf_cons (j : Nat) (b : Byte) (t : List (Nat × Byte)) : memWf ((j, b) :: t) = true ↔ b ≠ memReset ∧ memAbove j t := by
  induction t generalizing j b with
  | nil => simp [memWf, memAbove]
  | cons p t ih =>
    obtain ⟨i, c⟩ := p
    simp only [memWf, Bool.and_eq_true, bne_iff_ne, ne_eq, decide_eq_true_eq, ih, memAbove]
    tauto

theorem memAbove_wf (a : Nat) (t : List (Nat × Byte)) (h : memAbove a t) : memWf t = true := by
  cases t with
  | nil => rfl
  | cons p t => obtain ⟨j, b⟩ := p; exact (memWf_cons _ _ _).2 h.2

theorem memAbove_mono (a c : Nat) (t : List (Nat × Byte)) (hc : c ≤ a) (h : memAbove a t) : memAbove c t := by
  cases t with
  | nil => trivial
  | cons p t => exact ⟨Nat.lt_of_le_of_lt hc h.1, h.2⟩

theorem memAbove_tabDel (a k : Nat) (t : List (Nat × Byte)) (h : memAbove a t) : memAbove a (tabDel t k) := by
  induction t generalizing a with
  | nil => trivial
  | cons p t ih =>
    obtain ⟨j, b⟩ := p
    unfold tabDel
    split
    · exact ih _ (memAbove_mono j a t (Nat.le_of_lt h.1) h.2.2)
    · exact ⟨h.1, h.2.1, ih _ h.2.2⟩

theorem memAbove_tabPut (a k : Nat) (b : Byte) (t : List (Nat × Byte)) (hk : a < k) (hb : b ≠ memReset) (h : memAbove a t) :
    memAbove a (tabPut t k b) := by
  induction t generalizing a with
  | nil => exact ⟨hk, hb, trivial⟩
  | cons p t ih =>
    obtain ⟨j, x⟩ := p
    unfold tabPut
    split
    · exact ⟨hk, hb, by assumption, h.2⟩
    · split
      · subst_vars; exact ⟨hk, hb, h.2.2⟩
      · exact ⟨h.1, h.2.1, ih _ (by omega) h.2.2⟩

/-- One byte written keeps the canonical form. -/
theorem memPut_wf (m : List (Nat × Byte)) (a : Nat) (b : Byte) (h : memWf m = true) : memWf (memPut m a b) = true := by
  cases m with
  | nil => unfold memPut; split <;> simp_all [tabDel, tabPut, memWf]
  | cons p t =>
    obtain ⟨j, x⟩ := p
    have hx := (memWf_cons j x t).1 h
    unfold memPut
    split
    · unfold tabDel
      split
      · exact memAbove_wf j _ (memAbove_tabDel j a t hx.2)
      · exact (memWf_cons _ _ _).2 ⟨hx.1, memAbove_tabDel j a t hx.2⟩
    · rename_i hb
      unfold tabPut
      split
      · exact (memWf_cons _ _ _).2 ⟨hb, by assumption, hx⟩
      · split
        · subst_vars; exact (memWf_cons _ _ _).2 ⟨hb, hx.2⟩
        · exact (memWf_cons _ _ _).2 ⟨hx.1, memAbove_tabPut j a b t (by omega) hb hx.2⟩

/-- A list of writes keeps the canonical form. -/
theorem memPutAll_wf (l : List (Nat × Byte)) (m : List (Nat × Byte)) (h : memWf m = true) : memWf (memPutAll m l) = true := by
  induction l generalizing m with
  | nil => exact h
  | cons p l ih => obtain ⟨a, b⟩ := p; exact ih _ (memPut_wf m a b h)

end Sys2Proof.Laws
end

