-- ==== Sys2Proof/Laws/Word.lean ====
section
/-! SUPPORT. Fields of a word: what a written field reads as, and what a write leaves alone (R27). -/
namespace Sys2Proof.Laws

/-- A field value stays below its range. -/
theorem bitsOf_lt (n lo w : Nat) : bitsOf n lo w < 2 ^ w := Nat.mod_lt _ (Nat.two_pow_pos w)

/-- A field just written reads as what was written, modulo its width. -/
theorem bitsOf_putBits_same (n lo w v : Nat) : bitsOf (putBits n lo w v) lo w = v % 2 ^ w := by
  unfold bitsOf putBits
  have hlo := Nat.two_pow_pos lo
  have h1 : n % 2 ^ lo < 2 ^ lo := Nat.mod_lt _ hlo
  have e : n / 2 ^ (lo + w) * 2 ^ (lo + w) + v % 2 ^ w * 2 ^ lo + n % 2 ^ lo
      = 2 ^ lo * (n / 2 ^ (lo + w) * 2 ^ w + v % 2 ^ w) + n % 2 ^ lo := by rw [pow_add]; ring
  rw [e, Nat.mul_add_div hlo, Nat.div_eq_of_lt h1, Nat.add_zero, Nat.mul_comm, Nat.mul_add_mod, Nat.mod_mod]

/-- A field below the written one is unchanged. -/
theorem bitsOf_putBits_below (n lo w v l k : Nat) (h : l + k ≤ lo) : bitsOf (putBits n lo w v) l k = bitsOf n l k := by
  unfold bitsOf putBits
  obtain ⟨c, rfl⟩ := Nat.exists_eq_add_of_le h
  have hl := Nat.two_pow_pos l
  have e : n / 2 ^ (l + k + c + w) * 2 ^ (l + k + c + w) + v % 2 ^ w * 2 ^ (l + k + c) + n % 2 ^ (l + k + c)
      = 2 ^ l * (2 ^ k * (2 ^ c * (n / 2 ^ (l + k + c + w) * 2 ^ w + v % 2 ^ w))) + n % 2 ^ (l + k + c) := by
    simp only [pow_add]; ring
  rw [e, Nat.mul_add_div hl, Nat.mul_add_mod, show l + k + c = l + (k + c) by ring, pow_add 2 l, Nat.mod_mul_right_div_self, pow_add,
    Nat.mod_mul_right_mod]

/-- A field above the written one is unchanged. -/
theorem bitsOf_putBits_above (n lo w v l k : Nat) (h : lo + w ≤ l) : bitsOf (putBits n lo w v) l k = bitsOf n l k := by
  unfold bitsOf putBits
  congr 1
  obtain ⟨c, rfl⟩ := Nat.exists_eq_add_of_le h
  have hp := Nat.two_pow_pos (lo + w)
  have hs : v % 2 ^ w * 2 ^ lo + n % 2 ^ lo < 2 ^ (lo + w) := by
    have a := Nat.mod_lt v (Nat.two_pow_pos w)
    have b := Nat.mod_lt n (Nat.two_pow_pos lo)
    calc v % 2 ^ w * 2 ^ lo + n % 2 ^ lo < v % 2 ^ w * 2 ^ lo + 2 ^ lo := by omega
      _ = (v % 2 ^ w + 1) * 2 ^ lo := by ring
      _ ≤ 2 ^ w * 2 ^ lo := Nat.mul_le_mul_right _ a
      _ = 2 ^ (lo + w) := by rw [pow_add]; ring
  rw [pow_add 2 (lo + w) c, ← Nat.div_div_eq_div_mul, ← Nat.div_div_eq_div_mul, add_assoc, Nat.mul_comm, Nat.mul_add_div hp,
    Nat.div_eq_of_lt hs, Nat.add_zero]

/-- A word with a field written stays a word. -/
theorem putBits_lt (n lo w v : Nat) (hn : n < 2 ^ 32) (h : lo + w ≤ 32) : putBits n lo w v < 2 ^ 32 := by
  unfold putBits
  obtain ⟨c, hc⟩ := Nat.exists_eq_add_of_le h
  have hv := Nat.mod_lt v (Nat.two_pow_pos w)
  have hm := Nat.mod_lt n (Nat.two_pow_pos lo)
  have hd : n / 2 ^ (lo + w) < 2 ^ c := by
    rw [Nat.div_lt_iff_lt_mul (Nat.two_pow_pos _), ← pow_add, Nat.add_comm c, ← hc]; exact hn
  calc n / 2 ^ (lo + w) * 2 ^ (lo + w) + v % 2 ^ w * 2 ^ lo + n % 2 ^ lo
      < n / 2 ^ (lo + w) * 2 ^ (lo + w) + v % 2 ^ w * 2 ^ lo + 2 ^ lo := by omega
    _ = n / 2 ^ (lo + w) * 2 ^ (lo + w) + (v % 2 ^ w + 1) * 2 ^ lo := by ring
    _ ≤ n / 2 ^ (lo + w) * 2 ^ (lo + w) + 2 ^ w * 2 ^ lo := by
      exact Nat.add_le_add_left (Nat.mul_le_mul_right _ hv) _
    _ = (n / 2 ^ (lo + w) + 1) * 2 ^ (lo + w) := by rw [pow_add]; ring
    _ ≤ 2 ^ c * 2 ^ (lo + w) := Nat.mul_le_mul_right _ hd
    _ = 2 ^ 32 := by rw [← pow_add, Nat.add_comm c, ← hc]

/-- A number below 2^32 survives the round trip through a word. -/
theorem word_toNat (n : Nat) (h : n < 2 ^ 32) : (word n).toNat = n := by
  simpa [word, BitVec.toNat_ofNat] using h

end Sys2Proof.Laws
end

