-- ==== Sys2Proof/Laws/State.lean ====
section
/-! SUPPORT. What each update of the device leaves alone, field by field, and what a register reads as after it. -/
namespace Sys2Proof.Laws
open Sys2Proof.Machine

variable (d : Device) (s : State) (a v : Nat) (l : Loc)

/-! ## One lemma per field and update -/

@[simp] theorem wr_time : (d.wr a v).time = d.time := rfl
@[simp] theorem wr_ticks : (d.wr a v).ticks = d.ticks := rfl
@[simp] theorem wr_tickRuns : (d.wr a v).tickRuns = d.tickRuns := rfl
@[simp] theorem wr_drawn : (d.wr a v).drawn = d.drawn := rfl
@[simp] theorem wr_readShadow : (d.wr a v).readShadow = d.readShadow := rfl
@[simp] theorem wr_writeShadow : (d.wr a v).writeShadow = d.writeShadow := rfl
@[simp] theorem wr_reply : (d.wr a v).reply = d.reply := rfl
@[simp] theorem wr_stalled : (d.wr a v).stalled = d.stalled := rfl
@[simp] theorem wr_port : (d.wr a v).port = d.port := rfl
@[simp] theorem wr_xf : (d.wr a v).xf = d.xf := rfl
@[simp] theorem wr_tally : (d.wr a v).tally = d.tally := rfl
@[simp] theorem wr_eccBad : (d.wr a v).eccBad = d.eccBad := rfl
@[simp] theorem wr_clk : (d.wr a v).clk = d.clk := rfl
@[simp] theorem wr_rx : (d.wr a v).rx = d.rx := rfl
@[simp] theorem wr_tx : (d.wr a v).tx = d.tx := rfl
@[simp] theorem wr_cap : (d.wr a v).cap = d.cap := rfl
@[simp] theorem wr_ramps : (d.wr a v).ramps = d.ramps := rfl
@[simp] theorem wr_gains : (d.wr a v).gains = d.gains := rfl
@[simp] theorem wr_paths : (d.wr a v).paths = d.paths := rfl
@[simp] theorem wr_tuners : (d.wr a v).tuners = d.tuners := rfl
@[simp] theorem wr_tunWire : (d.wr a v).tunWire = d.tunWire := rfl
@[simp] theorem wr_coex : (d.wr a v).coex = d.coex := rfl
@[simp] theorem wr_air : (d.wr a v).air = d.air := rfl
@[simp] theorem wr_airNext : (d.wr a v).airNext = d.airNext := rfl
@[simp] theorem wr_cal : (d.wr a v).cal = d.cal := rfl
@[simp] theorem wr_chan : (d.wr a v).chan = d.chan := rfl
@[simp] theorem wr_chanSig : (d.wr a v).chanSig = d.chanSig := rfl
@[simp] theorem wr_txSig : (d.wr a v).txSig = d.txSig := rfl
@[simp] theorem wr_rxSig : (d.wr a v).rxSig = d.rxSig := rfl
@[simp] theorem wr_centre : (d.wr a v).centre = d.centre := rfl
@[simp] theorem wr_centreArmed : (d.wr a v).centreArmed = d.centreArmed := rfl
@[simp] theorem wr_block : (d.wr a v).block = d.block := rfl
@[simp] theorem wr_grid : (d.wr a v).grid = d.grid := rfl
@[simp] theorem wr_ofCheck : (d.wr a v).ofCheck = d.ofCheck := rfl
@[simp] theorem wr_dirs : (d.wr a v).dirs = d.dirs := rfl
@[simp] theorem wr_fnAdd : (d.wr a v).fnAdd = d.fnAdd := rfl
@[simp] theorem wr_dpdOn : (d.wr a v).dpdOn = d.dpdOn := rfl
@[simp] theorem wr_trial : (d.wr a v).trial = d.trial := rfl
@[simp] theorem wr_solver : (d.wr a v).solver = d.solver := rfl
@[simp] theorem wr_solving : (d.wr a v).solving = d.solving := rfl
@[simp] theorem wr_slotHeld : (d.wr a v).slotHeld = d.slotHeld := rfl
@[simp] theorem wr_dmp : (d.wr a v).dmp = d.dmp := rfl
@[simp] theorem wr_dmpLoaded : (d.wr a v).dmpLoaded = d.dmpLoaded := rfl
@[simp] theorem wr_dmpSerial : (d.wr a v).dmpSerial = d.dmpSerial := rfl
@[simp] theorem wr_dmpArray : (d.wr a v).dmpArray = d.dmpArray := rfl
@[simp] theorem wr_egress : (d.wr a v).egress = d.egress := rfl
@[simp] theorem wr_wire : (d.wr a v).wire = d.wire := rfl
@[simp] theorem wr_dups : (d.wr a v).dups = d.dups := rfl
@[simp] theorem wr_deframer : (d.wr a v).deframer = d.deframer := rfl
@[simp] theorem wr_ets : (d.wr a v).ets = d.ets := rfl
@[simp] theorem wr_flows : (d.wr a v).flows = d.flows := rfl
@[simp] theorem wr_tdSecs : (d.wr a v).tdSecs = d.tdSecs := rfl
@[simp] theorem wr_ulSeq : (d.wr a v).ulSeq = d.ulSeq := rfl
@[simp] theorem wr_tdCount : (d.wr a v).tdCount = d.tdCount := rfl
@[simp] theorem wr_echoes : (d.wr a v).echoes = d.echoes := rfl
@[simp] theorem wr_tctl : (d.wr a v).tctl = d.tctl := rfl
@[simp] theorem wr_mbx : (d.wr a v).mbx = d.mbx := rfl
@[simp] theorem wr_ringRes : (d.wr a v).ringRes = d.ringRes := rfl
@[simp] theorem wr_delivered : (d.wr a v).delivered = d.delivered := rfl
@[simp] theorem wr_msixPend : (d.wr a v).msixPend = d.msixPend := rfl
@[simp] theorem wr_smbAlert : (d.wr a v).smbAlert = d.smbAlert := rfl
@[simp] theorem wr_smbAddr : (d.wr a v).smbAddr = d.smbAddr := rfl
@[simp] theorem wr_smbStretch : (d.wr a v).smbStretch = d.smbStretch := rfl
@[simp] theorem wr_wdogRan : (d.wr a v).wdogRan = d.wdogRan := rfl
@[simp] theorem wr_wdogLast : (d.wr a v).wdogLast = d.wdogLast := rfl
@[simp] theorem wr_cmdWaits : (d.wr a v).cmdWaits = d.cmdWaits := rfl
@[simp] theorem wr_cmdRecs : (d.wr a v).cmdRecs = d.cmdRecs := rfl
@[simp] theorem wr_laters : (d.wr a v).laters = d.laters := rfl
@[simp] theorem wr_adapt : (d.wr a v).adapt = d.adapt := rfl
@[simp] theorem wr_ptpIntervals : (d.wr a v).ptpIntervals = d.ptpIntervals := rfl
@[simp] theorem wr_ptpAnnexE : (d.wr a v).ptpAnnexE = d.ptpAnnexE := rfl
@[simp] theorem wr_levelDetail : (d.wr a v).levelDetail = d.levelDetail := rfl
@[simp] theorem wr_otpBurns : (d.wr a v).otpBurns = d.otpBurns := rfl
@[simp] theorem wr_flashTakes : (d.wr a v).flashTakes = d.flashTakes := rfl
@[simp] theorem wr_dma : (d.wr a v).dma = d.dma := rfl
@[simp] theorem wr_dmaLo : (d.wr a v).dmaLo = d.dmaLo := rfl
@[simp] theorem wr_dmaLast : (d.wr a v).dmaLast = d.dmaLast := rfl
@[simp] theorem wr_dmaStall : (d.wr a v).dmaStall = d.dmaStall := rfl
@[simp] theorem wr_mon : (d.wr a v).mon = d.mon := rfl
@[simp] theorem wr_mains : (d.wr a v).mains = d.mains := rfl
@[simp] theorem wr_pwm : (d.wr a v).pwm = d.pwm := rfl
@[simp] theorem wr_dfail : (d.wr a v).dfail = d.dfail := rfl
@[simp] theorem wr_avs : (d.wr a v).avs = d.avs := rfl
@[simp] theorem wr_fixedVoltage : (d.wr a v).fixedVoltage = d.fixedVoltage := rfl
@[simp] theorem wr_voltOffset : (d.wr a v).voltOffset = d.voltOffset := rfl
@[simp] theorem wr_sleep : (d.wr a v).sleep = d.sleep := rfl
@[simp] theorem wr_boot : (d.wr a v).boot = d.boot := rfl
@[simp] theorem wr_memOut : (d.wr a v).memOut = d.memOut := rfl

@[simp] theorem set_time : (d.set l v).time = d.time := rfl
@[simp] theorem set_ticks : (d.set l v).ticks = d.ticks := rfl
@[simp] theorem set_tickRuns : (d.set l v).tickRuns = d.tickRuns := rfl
@[simp] theorem set_drawn : (d.set l v).drawn = d.drawn := rfl
@[simp] theorem set_readShadow : (d.set l v).readShadow = d.readShadow := rfl
@[simp] theorem set_writeShadow : (d.set l v).writeShadow = d.writeShadow := rfl
@[simp] theorem set_reply : (d.set l v).reply = d.reply := rfl
@[simp] theorem set_stalled : (d.set l v).stalled = d.stalled := rfl
@[simp] theorem set_port : (d.set l v).port = d.port := rfl
@[simp] theorem set_xf : (d.set l v).xf = d.xf := rfl
@[simp] theorem set_tally : (d.set l v).tally = d.tally := rfl
@[simp] theorem set_eccBad : (d.set l v).eccBad = d.eccBad := rfl
@[simp] theorem set_clk : (d.set l v).clk = d.clk := rfl
@[simp] theorem set_rx : (d.set l v).rx = d.rx := rfl
@[simp] theorem set_tx : (d.set l v).tx = d.tx := rfl
@[simp] theorem set_cap : (d.set l v).cap = d.cap := rfl
@[simp] theorem set_ramps : (d.set l v).ramps = d.ramps := rfl
@[simp] theorem set_gains : (d.set l v).gains = d.gains := rfl
@[simp] theorem set_paths : (d.set l v).paths = d.paths := rfl
@[simp] theorem set_tuners : (d.set l v).tuners = d.tuners := rfl
@[simp] theorem set_tunWire : (d.set l v).tunWire = d.tunWire := rfl
@[simp] theorem set_coex : (d.set l v).coex = d.coex := rfl
@[simp] theorem set_air : (d.set l v).air = d.air := rfl
@[simp] theorem set_airNext : (d.set l v).airNext = d.airNext := rfl
@[simp] theorem set_cal : (d.set l v).cal = d.cal := rfl
@[simp] theorem set_chan : (d.set l v).chan = d.chan := rfl
@[simp] theorem set_chanSig : (d.set l v).chanSig = d.chanSig := rfl
@[simp] theorem set_txSig : (d.set l v).txSig = d.txSig := rfl
@[simp] theorem set_rxSig : (d.set l v).rxSig = d.rxSig := rfl
@[simp] theorem set_centre : (d.set l v).centre = d.centre := rfl
@[simp] theorem set_centreArmed : (d.set l v).centreArmed = d.centreArmed := rfl
@[simp] theorem set_block : (d.set l v).block = d.block := rfl
@[simp] theorem set_grid : (d.set l v).grid = d.grid := rfl
@[simp] theorem set_ofCheck : (d.set l v).ofCheck = d.ofCheck := rfl
@[simp] theorem set_dirs : (d.set l v).dirs = d.dirs := rfl
@[simp] theorem set_fnAdd : (d.set l v).fnAdd = d.fnAdd := rfl
@[simp] theorem set_dpdOn : (d.set l v).dpdOn = d.dpdOn := rfl
@[simp] theorem set_trial : (d.set l v).trial = d.trial := rfl
@[simp] theorem set_solver : (d.set l v).solver = d.solver := rfl
@[simp] theorem set_solving : (d.set l v).solving = d.solving := rfl
@[simp] theorem set_slotHeld : (d.set l v).slotHeld = d.slotHeld := rfl
@[simp] theorem set_dmp : (d.set l v).dmp = d.dmp := rfl
@[simp] theorem set_dmpLoaded : (d.set l v).dmpLoaded = d.dmpLoaded := rfl
@[simp] theorem set_dmpSerial : (d.set l v).dmpSerial = d.dmpSerial := rfl
@[simp] theorem set_dmpArray : (d.set l v).dmpArray = d.dmpArray := rfl
@[simp] theorem set_egress : (d.set l v).egress = d.egress := rfl
@[simp] theorem set_wire : (d.set l v).wire = d.wire := rfl
@[simp] theorem set_dups : (d.set l v).dups = d.dups := rfl
@[simp] theorem set_deframer : (d.set l v).deframer = d.deframer := rfl
@[simp] theorem set_ets : (d.set l v).ets = d.ets := rfl
@[simp] theorem set_flows : (d.set l v).flows = d.flows := rfl
@[simp] theorem set_tdSecs : (d.set l v).tdSecs = d.tdSecs := rfl
@[simp] theorem set_ulSeq : (d.set l v).ulSeq = d.ulSeq := rfl
@[simp] theorem set_tdCount : (d.set l v).tdCount = d.tdCount := rfl
@[simp] theorem set_echoes : (d.set l v).echoes = d.echoes := rfl
@[simp] theorem set_tctl : (d.set l v).tctl = d.tctl := rfl
@[simp] theorem set_mbx : (d.set l v).mbx = d.mbx := rfl
@[simp] theorem set_ringRes : (d.set l v).ringRes = d.ringRes := rfl
@[simp] theorem set_delivered : (d.set l v).delivered = d.delivered := rfl
@[simp] theorem set_msixPend : (d.set l v).msixPend = d.msixPend := rfl
@[simp] theorem set_smbAlert : (d.set l v).smbAlert = d.smbAlert := rfl
@[simp] theorem set_smbAddr : (d.set l v).smbAddr = d.smbAddr := rfl
@[simp] theorem set_smbStretch : (d.set l v).smbStretch = d.smbStretch := rfl
@[simp] theorem set_wdogRan : (d.set l v).wdogRan = d.wdogRan := rfl
@[simp] theorem set_wdogLast : (d.set l v).wdogLast = d.wdogLast := rfl
@[simp] theorem set_cmdWaits : (d.set l v).cmdWaits = d.cmdWaits := rfl
@[simp] theorem set_cmdRecs : (d.set l v).cmdRecs = d.cmdRecs := rfl
@[simp] theorem set_laters : (d.set l v).laters = d.laters := rfl
@[simp] theorem set_adapt : (d.set l v).adapt = d.adapt := rfl
@[simp] theorem set_ptpIntervals : (d.set l v).ptpIntervals = d.ptpIntervals := rfl
@[simp] theorem set_ptpAnnexE : (d.set l v).ptpAnnexE = d.ptpAnnexE := rfl
@[simp] theorem set_levelDetail : (d.set l v).levelDetail = d.levelDetail := rfl
@[simp] theorem set_otpBurns : (d.set l v).otpBurns = d.otpBurns := rfl
@[simp] theorem set_flashTakes : (d.set l v).flashTakes = d.flashTakes := rfl
@[simp] theorem set_dma : (d.set l v).dma = d.dma := rfl
@[simp] theorem set_dmaLo : (d.set l v).dmaLo = d.dmaLo := rfl
@[simp] theorem set_dmaLast : (d.set l v).dmaLast = d.dmaLast := rfl
@[simp] theorem set_dmaStall : (d.set l v).dmaStall = d.dmaStall := rfl
@[simp] theorem set_mon : (d.set l v).mon = d.mon := rfl
@[simp] theorem set_mains : (d.set l v).mains = d.mains := rfl
@[simp] theorem set_pwm : (d.set l v).pwm = d.pwm := rfl
@[simp] theorem set_dfail : (d.set l v).dfail = d.dfail := rfl
@[simp] theorem set_avs : (d.set l v).avs = d.avs := rfl
@[simp] theorem set_fixedVoltage : (d.set l v).fixedVoltage = d.fixedVoltage := rfl
@[simp] theorem set_voltOffset : (d.set l v).voltOffset = d.voltOffset := rfl
@[simp] theorem set_sleep : (d.set l v).sleep = d.sleep := rfl
@[simp] theorem set_boot : (d.set l v).boot = d.boot := rfl
@[simp] theorem set_memOut : (d.set l v).memOut = d.memOut := rfl

@[simp] theorem clearReg_time : (d.clearReg a).time = d.time := rfl
@[simp] theorem clearReg_ticks : (d.clearReg a).ticks = d.ticks := rfl
@[simp] theorem clearReg_tickRuns : (d.clearReg a).tickRuns = d.tickRuns := rfl
@[simp] theorem clearReg_drawn : (d.clearReg a).drawn = d.drawn := rfl
@[simp] theorem clearReg_readShadow : (d.clearReg a).readShadow = d.readShadow := rfl
@[simp] theorem clearReg_writeShadow : (d.clearReg a).writeShadow = d.writeShadow := rfl
@[simp] theorem clearReg_reply : (d.clearReg a).reply = d.reply := rfl
@[simp] theorem clearReg_stalled : (d.clearReg a).stalled = d.stalled := rfl
@[simp] theorem clearReg_port : (d.clearReg a).port = d.port := rfl
@[simp] theorem clearReg_xf : (d.clearReg a).xf = d.xf := rfl
@[simp] theorem clearReg_tally : (d.clearReg a).tally = d.tally := rfl
@[simp] theorem clearReg_eccBad : (d.clearReg a).eccBad = d.eccBad := rfl
@[simp] theorem clearReg_clk : (d.clearReg a).clk = d.clk := rfl
@[simp] theorem clearReg_rx : (d.clearReg a).rx = d.rx := rfl
@[simp] theorem clearReg_tx : (d.clearReg a).tx = d.tx := rfl
@[simp] theorem clearReg_cap : (d.clearReg a).cap = d.cap := rfl
@[simp] theorem clearReg_ramps : (d.clearReg a).ramps = d.ramps := rfl
@[simp] theorem clearReg_gains : (d.clearReg a).gains = d.gains := rfl
@[simp] theorem clearReg_paths : (d.clearReg a).paths = d.paths := rfl
@[simp] theorem clearReg_tuners : (d.clearReg a).tuners = d.tuners := rfl
@[simp] theorem clearReg_tunWire : (d.clearReg a).tunWire = d.tunWire := rfl
@[simp] theorem clearReg_coex : (d.clearReg a).coex = d.coex := rfl
@[simp] theorem clearReg_air : (d.clearReg a).air = d.air := rfl
@[simp] theorem clearReg_airNext : (d.clearReg a).airNext = d.airNext := rfl
@[simp] theorem clearReg_cal : (d.clearReg a).cal = d.cal := rfl
@[simp] theorem clearReg_chan : (d.clearReg a).chan = d.chan := rfl
@[simp] theorem clearReg_chanSig : (d.clearReg a).chanSig = d.chanSig := rfl
@[simp] theorem clearReg_txSig : (d.clearReg a).txSig = d.txSig := rfl
@[simp] theorem clearReg_rxSig : (d.clearReg a).rxSig = d.rxSig := rfl
@[simp] theorem clearReg_centre : (d.clearReg a).centre = d.centre := rfl
@[simp] theorem clearReg_centreArmed : (d.clearReg a).centreArmed = d.centreArmed := rfl
@[simp] theorem clearReg_block : (d.clearReg a).block = d.block := rfl
@[simp] theorem clearReg_grid : (d.clearReg a).grid = d.grid := rfl
@[simp] theorem clearReg_ofCheck : (d.clearReg a).ofCheck = d.ofCheck := rfl
@[simp] theorem clearReg_dirs : (d.clearReg a).dirs = d.dirs := rfl
@[simp] theorem clearReg_fnAdd : (d.clearReg a).fnAdd = d.fnAdd := rfl
@[simp] theorem clearReg_dpdOn : (d.clearReg a).dpdOn = d.dpdOn := rfl
@[simp] theorem clearReg_trial : (d.clearReg a).trial = d.trial := rfl
@[simp] theorem clearReg_solver : (d.clearReg a).solver = d.solver := rfl
@[simp] theorem clearReg_solving : (d.clearReg a).solving = d.solving := rfl
@[simp] theorem clearReg_slotHeld : (d.clearReg a).slotHeld = d.slotHeld := rfl
@[simp] theorem clearReg_dmp : (d.clearReg a).dmp = d.dmp := rfl
@[simp] theorem clearReg_dmpLoaded : (d.clearReg a).dmpLoaded = d.dmpLoaded := rfl
@[simp] theorem clearReg_dmpSerial : (d.clearReg a).dmpSerial = d.dmpSerial := rfl
@[simp] theorem clearReg_dmpArray : (d.clearReg a).dmpArray = d.dmpArray := rfl
@[simp] theorem clearReg_egress : (d.clearReg a).egress = d.egress := rfl
@[simp] theorem clearReg_wire : (d.clearReg a).wire = d.wire := rfl
@[simp] theorem clearReg_dups : (d.clearReg a).dups = d.dups := rfl
@[simp] theorem clearReg_deframer : (d.clearReg a).deframer = d.deframer := rfl
@[simp] theorem clearReg_ets : (d.clearReg a).ets = d.ets := rfl
@[simp] theorem clearReg_flows : (d.clearReg a).flows = d.flows := rfl
@[simp] theorem clearReg_tdSecs : (d.clearReg a).tdSecs = d.tdSecs := rfl
@[simp] theorem clearReg_ulSeq : (d.clearReg a).ulSeq = d.ulSeq := rfl
@[simp] theorem clearReg_tdCount : (d.clearReg a).tdCount = d.tdCount := rfl
@[simp] theorem clearReg_echoes : (d.clearReg a).echoes = d.echoes := rfl
@[simp] theorem clearReg_tctl : (d.clearReg a).tctl = d.tctl := rfl
@[simp] theorem clearReg_mbx : (d.clearReg a).mbx = d.mbx := rfl
@[simp] theorem clearReg_ringRes : (d.clearReg a).ringRes = d.ringRes := rfl
@[simp] theorem clearReg_delivered : (d.clearReg a).delivered = d.delivered := rfl
@[simp] theorem clearReg_msixPend : (d.clearReg a).msixPend = d.msixPend := rfl
@[simp] theorem clearReg_smbAlert : (d.clearReg a).smbAlert = d.smbAlert := rfl
@[simp] theorem clearReg_smbAddr : (d.clearReg a).smbAddr = d.smbAddr := rfl
@[simp] theorem clearReg_smbStretch : (d.clearReg a).smbStretch = d.smbStretch := rfl
@[simp] theorem clearReg_wdogRan : (d.clearReg a).wdogRan = d.wdogRan := rfl
@[simp] theorem clearReg_wdogLast : (d.clearReg a).wdogLast = d.wdogLast := rfl
@[simp] theorem clearReg_cmdWaits : (d.clearReg a).cmdWaits = d.cmdWaits := rfl
@[simp] theorem clearReg_cmdRecs : (d.clearReg a).cmdRecs = d.cmdRecs := rfl
@[simp] theorem clearReg_laters : (d.clearReg a).laters = d.laters := rfl
@[simp] theorem clearReg_adapt : (d.clearReg a).adapt = d.adapt := rfl
@[simp] theorem clearReg_ptpIntervals : (d.clearReg a).ptpIntervals = d.ptpIntervals := rfl
@[simp] theorem clearReg_ptpAnnexE : (d.clearReg a).ptpAnnexE = d.ptpAnnexE := rfl
@[simp] theorem clearReg_levelDetail : (d.clearReg a).levelDetail = d.levelDetail := rfl
@[simp] theorem clearReg_otpBurns : (d.clearReg a).otpBurns = d.otpBurns := rfl
@[simp] theorem clearReg_flashTakes : (d.clearReg a).flashTakes = d.flashTakes := rfl
@[simp] theorem clearReg_dma : (d.clearReg a).dma = d.dma := rfl
@[simp] theorem clearReg_dmaLo : (d.clearReg a).dmaLo = d.dmaLo := rfl
@[simp] theorem clearReg_dmaLast : (d.clearReg a).dmaLast = d.dmaLast := rfl
@[simp] theorem clearReg_dmaStall : (d.clearReg a).dmaStall = d.dmaStall := rfl
@[simp] theorem clearReg_mon : (d.clearReg a).mon = d.mon := rfl
@[simp] theorem clearReg_mains : (d.clearReg a).mains = d.mains := rfl
@[simp] theorem clearReg_pwm : (d.clearReg a).pwm = d.pwm := rfl
@[simp] theorem clearReg_dfail : (d.clearReg a).dfail = d.dfail := rfl
@[simp] theorem clearReg_avs : (d.clearReg a).avs = d.avs := rfl
@[simp] theorem clearReg_fixedVoltage : (d.clearReg a).fixedVoltage = d.fixedVoltage := rfl
@[simp] theorem clearReg_voltOffset : (d.clearReg a).voltOffset = d.voltOffset := rfl
@[simp] theorem clearReg_sleep : (d.clearReg a).sleep = d.sleep := rfl
@[simp] theorem clearReg_boot : (d.clearReg a).boot = d.boot := rfl
@[simp] theorem clearReg_memOut : (d.clearReg a).memOut = d.memOut := rfl

@[simp] theorem store_regs (bs : List Byte) : (d.store a bs).regs = d.regs := rfl
@[simp] theorem store_time (bs : List Byte) : (d.store a bs).time = d.time := rfl
@[simp] theorem store_ticks (bs : List Byte) : (d.store a bs).ticks = d.ticks := rfl
@[simp] theorem store_tickRuns (bs : List Byte) : (d.store a bs).tickRuns = d.tickRuns := rfl
@[simp] theorem store_drawn (bs : List Byte) : (d.store a bs).drawn = d.drawn := rfl
@[simp] theorem store_readShadow (bs : List Byte) : (d.store a bs).readShadow = d.readShadow := rfl
@[simp] theorem store_writeShadow (bs : List Byte) : (d.store a bs).writeShadow = d.writeShadow := rfl
@[simp] theorem store_reply (bs : List Byte) : (d.store a bs).reply = d.reply := rfl
@[simp] theorem store_stalled (bs : List Byte) : (d.store a bs).stalled = d.stalled := rfl
@[simp] theorem store_port (bs : List Byte) : (d.store a bs).port = d.port := rfl
@[simp] theorem store_xf (bs : List Byte) : (d.store a bs).xf = d.xf := rfl
@[simp] theorem store_tally (bs : List Byte) : (d.store a bs).tally = d.tally := rfl
@[simp] theorem store_eccBad (bs : List Byte) : (d.store a bs).eccBad = d.eccBad := rfl
@[simp] theorem store_clk (bs : List Byte) : (d.store a bs).clk = d.clk := rfl
@[simp] theorem store_rx (bs : List Byte) : (d.store a bs).rx = d.rx := rfl
@[simp] theorem store_tx (bs : List Byte) : (d.store a bs).tx = d.tx := rfl
@[simp] theorem store_cap (bs : List Byte) : (d.store a bs).cap = d.cap := rfl
@[simp] theorem store_ramps (bs : List Byte) : (d.store a bs).ramps = d.ramps := rfl
@[simp] theorem store_gains (bs : List Byte) : (d.store a bs).gains = d.gains := rfl
@[simp] theorem store_paths (bs : List Byte) : (d.store a bs).paths = d.paths := rfl
@[simp] theorem store_tuners (bs : List Byte) : (d.store a bs).tuners = d.tuners := rfl
@[simp] theorem store_tunWire (bs : List Byte) : (d.store a bs).tunWire = d.tunWire := rfl
@[simp] theorem store_coex (bs : List Byte) : (d.store a bs).coex = d.coex := rfl
@[simp] theorem store_air (bs : List Byte) : (d.store a bs).air = d.air := rfl
@[simp] theorem store_airNext (bs : List Byte) : (d.store a bs).airNext = d.airNext := rfl
@[simp] theorem store_cal (bs : List Byte) : (d.store a bs).cal = d.cal := rfl
@[simp] theorem store_chan (bs : List Byte) : (d.store a bs).chan = d.chan := rfl
@[simp] theorem store_chanSig (bs : List Byte) : (d.store a bs).chanSig = d.chanSig := rfl
@[simp] theorem store_txSig (bs : List Byte) : (d.store a bs).txSig = d.txSig := rfl
@[simp] theorem store_rxSig (bs : List Byte) : (d.store a bs).rxSig = d.rxSig := rfl
@[simp] theorem store_centre (bs : List Byte) : (d.store a bs).centre = d.centre := rfl
@[simp] theorem store_centreArmed (bs : List Byte) : (d.store a bs).centreArmed = d.centreArmed := rfl
@[simp] theorem store_block (bs : List Byte) : (d.store a bs).block = d.block := rfl
@[simp] theorem store_grid (bs : List Byte) : (d.store a bs).grid = d.grid := rfl
@[simp] theorem store_ofCheck (bs : List Byte) : (d.store a bs).ofCheck = d.ofCheck := rfl
@[simp] theorem store_dirs (bs : List Byte) : (d.store a bs).dirs = d.dirs := rfl
@[simp] theorem store_fnAdd (bs : List Byte) : (d.store a bs).fnAdd = d.fnAdd := rfl
@[simp] theorem store_dpdOn (bs : List Byte) : (d.store a bs).dpdOn = d.dpdOn := rfl
@[simp] theorem store_trial (bs : List Byte) : (d.store a bs).trial = d.trial := rfl
@[simp] theorem store_solver (bs : List Byte) : (d.store a bs).solver = d.solver := rfl
@[simp] theorem store_solving (bs : List Byte) : (d.store a bs).solving = d.solving := rfl
@[simp] theorem store_slotHeld (bs : List Byte) : (d.store a bs).slotHeld = d.slotHeld := rfl
@[simp] theorem store_dmp (bs : List Byte) : (d.store a bs).dmp = d.dmp := rfl
@[simp] theorem store_dmpLoaded (bs : List Byte) : (d.store a bs).dmpLoaded = d.dmpLoaded := rfl
@[simp] theorem store_dmpSerial (bs : List Byte) : (d.store a bs).dmpSerial = d.dmpSerial := rfl
@[simp] theorem store_dmpArray (bs : List Byte) : (d.store a bs).dmpArray = d.dmpArray := rfl
@[simp] theorem store_egress (bs : List Byte) : (d.store a bs).egress = d.egress := rfl
@[simp] theorem store_wire (bs : List Byte) : (d.store a bs).wire = d.wire := rfl
@[simp] theorem store_dups (bs : List Byte) : (d.store a bs).dups = d.dups := rfl
@[simp] theorem store_deframer (bs : List Byte) : (d.store a bs).deframer = d.deframer := rfl
@[simp] theorem store_ets (bs : List Byte) : (d.store a bs).ets = d.ets := rfl
@[simp] theorem store_flows (bs : List Byte) : (d.store a bs).flows = d.flows := rfl
@[simp] theorem store_tdSecs (bs : List Byte) : (d.store a bs).tdSecs = d.tdSecs := rfl
@[simp] theorem store_ulSeq (bs : List Byte) : (d.store a bs).ulSeq = d.ulSeq := rfl
@[simp] theorem store_tdCount (bs : List Byte) : (d.store a bs).tdCount = d.tdCount := rfl
@[simp] theorem store_echoes (bs : List Byte) : (d.store a bs).echoes = d.echoes := rfl
@[simp] theorem store_tctl (bs : List Byte) : (d.store a bs).tctl = d.tctl := rfl
@[simp] theorem store_mbx (bs : List Byte) : (d.store a bs).mbx = d.mbx := rfl
@[simp] theorem store_ringRes (bs : List Byte) : (d.store a bs).ringRes = d.ringRes := rfl
@[simp] theorem store_delivered (bs : List Byte) : (d.store a bs).delivered = d.delivered := rfl
@[simp] theorem store_msixPend (bs : List Byte) : (d.store a bs).msixPend = d.msixPend := rfl
@[simp] theorem store_smbAlert (bs : List Byte) : (d.store a bs).smbAlert = d.smbAlert := rfl
@[simp] theorem store_smbAddr (bs : List Byte) : (d.store a bs).smbAddr = d.smbAddr := rfl
@[simp] theorem store_smbStretch (bs : List Byte) : (d.store a bs).smbStretch = d.smbStretch := rfl
@[simp] theorem store_wdogRan (bs : List Byte) : (d.store a bs).wdogRan = d.wdogRan := rfl
@[simp] theorem store_wdogLast (bs : List Byte) : (d.store a bs).wdogLast = d.wdogLast := rfl
@[simp] theorem store_cmdWaits (bs : List Byte) : (d.store a bs).cmdWaits = d.cmdWaits := rfl
@[simp] theorem store_cmdRecs (bs : List Byte) : (d.store a bs).cmdRecs = d.cmdRecs := rfl
@[simp] theorem store_laters (bs : List Byte) : (d.store a bs).laters = d.laters := rfl
@[simp] theorem store_adapt (bs : List Byte) : (d.store a bs).adapt = d.adapt := rfl
@[simp] theorem store_ptpIntervals (bs : List Byte) : (d.store a bs).ptpIntervals = d.ptpIntervals := rfl
@[simp] theorem store_ptpAnnexE (bs : List Byte) : (d.store a bs).ptpAnnexE = d.ptpAnnexE := rfl
@[simp] theorem store_levelDetail (bs : List Byte) : (d.store a bs).levelDetail = d.levelDetail := rfl
@[simp] theorem store_otpBurns (bs : List Byte) : (d.store a bs).otpBurns = d.otpBurns := rfl
@[simp] theorem store_flashTakes (bs : List Byte) : (d.store a bs).flashTakes = d.flashTakes := rfl
@[simp] theorem store_dma (bs : List Byte) : (d.store a bs).dma = d.dma := rfl
@[simp] theorem store_dmaLo (bs : List Byte) : (d.store a bs).dmaLo = d.dmaLo := rfl
@[simp] theorem store_dmaLast (bs : List Byte) : (d.store a bs).dmaLast = d.dmaLast := rfl
@[simp] theorem store_dmaStall (bs : List Byte) : (d.store a bs).dmaStall = d.dmaStall := rfl
@[simp] theorem store_mon (bs : List Byte) : (d.store a bs).mon = d.mon := rfl
@[simp] theorem store_mains (bs : List Byte) : (d.store a bs).mains = d.mains := rfl
@[simp] theorem store_pwm (bs : List Byte) : (d.store a bs).pwm = d.pwm := rfl
@[simp] theorem store_dfail (bs : List Byte) : (d.store a bs).dfail = d.dfail := rfl
@[simp] theorem store_avs (bs : List Byte) : (d.store a bs).avs = d.avs := rfl
@[simp] theorem store_fixedVoltage (bs : List Byte) : (d.store a bs).fixedVoltage = d.fixedVoltage := rfl
@[simp] theorem store_voltOffset (bs : List Byte) : (d.store a bs).voltOffset = d.voltOffset := rfl
@[simp] theorem store_sleep (bs : List Byte) : (d.store a bs).sleep = d.sleep := rfl
@[simp] theorem store_boot (bs : List Byte) : (d.store a bs).boot = d.boot := rfl

@[simp] theorem storeWord_regs : (d.storeWord a v).regs = d.regs := rfl
@[simp] theorem storeWord_time : (d.storeWord a v).time = d.time := rfl
@[simp] theorem storeWord_ticks : (d.storeWord a v).ticks = d.ticks := rfl
@[simp] theorem storeWord_tickRuns : (d.storeWord a v).tickRuns = d.tickRuns := rfl
@[simp] theorem storeWord_drawn : (d.storeWord a v).drawn = d.drawn := rfl
@[simp] theorem storeWord_readShadow : (d.storeWord a v).readShadow = d.readShadow := rfl
@[simp] theorem storeWord_writeShadow : (d.storeWord a v).writeShadow = d.writeShadow := rfl
@[simp] theorem storeWord_reply : (d.storeWord a v).reply = d.reply := rfl
@[simp] theorem storeWord_stalled : (d.storeWord a v).stalled = d.stalled := rfl
@[simp] theorem storeWord_port : (d.storeWord a v).port = d.port := rfl
@[simp] theorem storeWord_xf : (d.storeWord a v).xf = d.xf := rfl
@[simp] theorem storeWord_tally : (d.storeWord a v).tally = d.tally := rfl
@[simp] theorem storeWord_eccBad : (d.storeWord a v).eccBad = d.eccBad := rfl
@[simp] theorem storeWord_clk : (d.storeWord a v).clk = d.clk := rfl
@[simp] theorem storeWord_rx : (d.storeWord a v).rx = d.rx := rfl
@[simp] theorem storeWord_tx : (d.storeWord a v).tx = d.tx := rfl
@[simp] theorem storeWord_cap : (d.storeWord a v).cap = d.cap := rfl
@[simp] theorem storeWord_ramps : (d.storeWord a v).ramps = d.ramps := rfl
@[simp] theorem storeWord_gains : (d.storeWord a v).gains = d.gains := rfl
@[simp] theorem storeWord_paths : (d.storeWord a v).paths = d.paths := rfl
@[simp] theorem storeWord_tuners : (d.storeWord a v).tuners = d.tuners := rfl
@[simp] theorem storeWord_tunWire : (d.storeWord a v).tunWire = d.tunWire := rfl
@[simp] theorem storeWord_coex : (d.storeWord a v).coex = d.coex := rfl
@[simp] theorem storeWord_air : (d.storeWord a v).air = d.air := rfl
@[simp] theorem storeWord_airNext : (d.storeWord a v).airNext = d.airNext := rfl
@[simp] theorem storeWord_cal : (d.storeWord a v).cal = d.cal := rfl
@[simp] theorem storeWord_chan : (d.storeWord a v).chan = d.chan := rfl
@[simp] theorem storeWord_chanSig : (d.storeWord a v).chanSig = d.chanSig := rfl
@[simp] theorem storeWord_txSig : (d.storeWord a v).txSig = d.txSig := rfl
@[simp] theorem storeWord_rxSig : (d.storeWord a v).rxSig = d.rxSig := rfl
@[simp] theorem storeWord_centre : (d.storeWord a v).centre = d.centre := rfl
@[simp] theorem storeWord_centreArmed : (d.storeWord a v).centreArmed = d.centreArmed := rfl
@[simp] theorem storeWord_block : (d.storeWord a v).block = d.block := rfl
@[simp] theorem storeWord_grid : (d.storeWord a v).grid = d.grid := rfl
@[simp] theorem storeWord_ofCheck : (d.storeWord a v).ofCheck = d.ofCheck := rfl
@[simp] theorem storeWord_dirs : (d.storeWord a v).dirs = d.dirs := rfl
@[simp] theorem storeWord_fnAdd : (d.storeWord a v).fnAdd = d.fnAdd := rfl
@[simp] theorem storeWord_dpdOn : (d.storeWord a v).dpdOn = d.dpdOn := rfl
@[simp] theorem storeWord_trial : (d.storeWord a v).trial = d.trial := rfl
@[simp] theorem storeWord_solver : (d.storeWord a v).solver = d.solver := rfl
@[simp] theorem storeWord_solving : (d.storeWord a v).solving = d.solving := rfl
@[simp] theorem storeWord_slotHeld : (d.storeWord a v).slotHeld = d.slotHeld := rfl
@[simp] theorem storeWord_dmp : (d.storeWord a v).dmp = d.dmp := rfl
@[simp] theorem storeWord_dmpLoaded : (d.storeWord a v).dmpLoaded = d.dmpLoaded := rfl
@[simp] theorem storeWord_dmpSerial : (d.storeWord a v).dmpSerial = d.dmpSerial := rfl
@[simp] theorem storeWord_dmpArray : (d.storeWord a v).dmpArray = d.dmpArray := rfl
@[simp] theorem storeWord_egress : (d.storeWord a v).egress = d.egress := rfl
@[simp] theorem storeWord_wire : (d.storeWord a v).wire = d.wire := rfl
@[simp] theorem storeWord_dups : (d.storeWord a v).dups = d.dups := rfl
@[simp] theorem storeWord_deframer : (d.storeWord a v).deframer = d.deframer := rfl
@[simp] theorem storeWord_ets : (d.storeWord a v).ets = d.ets := rfl
@[simp] theorem storeWord_flows : (d.storeWord a v).flows = d.flows := rfl
@[simp] theorem storeWord_tdSecs : (d.storeWord a v).tdSecs = d.tdSecs := rfl
@[simp] theorem storeWord_ulSeq : (d.storeWord a v).ulSeq = d.ulSeq := rfl
@[simp] theorem storeWord_tdCount : (d.storeWord a v).tdCount = d.tdCount := rfl
@[simp] theorem storeWord_echoes : (d.storeWord a v).echoes = d.echoes := rfl
@[simp] theorem storeWord_tctl : (d.storeWord a v).tctl = d.tctl := rfl
@[simp] theorem storeWord_mbx : (d.storeWord a v).mbx = d.mbx := rfl
@[simp] theorem storeWord_ringRes : (d.storeWord a v).ringRes = d.ringRes := rfl
@[simp] theorem storeWord_delivered : (d.storeWord a v).delivered = d.delivered := rfl
@[simp] theorem storeWord_msixPend : (d.storeWord a v).msixPend = d.msixPend := rfl
@[simp] theorem storeWord_smbAlert : (d.storeWord a v).smbAlert = d.smbAlert := rfl
@[simp] theorem storeWord_smbAddr : (d.storeWord a v).smbAddr = d.smbAddr := rfl
@[simp] theorem storeWord_smbStretch : (d.storeWord a v).smbStretch = d.smbStretch := rfl
@[simp] theorem storeWord_wdogRan : (d.storeWord a v).wdogRan = d.wdogRan := rfl
@[simp] theorem storeWord_wdogLast : (d.storeWord a v).wdogLast = d.wdogLast := rfl
@[simp] theorem storeWord_cmdWaits : (d.storeWord a v).cmdWaits = d.cmdWaits := rfl
@[simp] theorem storeWord_cmdRecs : (d.storeWord a v).cmdRecs = d.cmdRecs := rfl
@[simp] theorem storeWord_laters : (d.storeWord a v).laters = d.laters := rfl
@[simp] theorem storeWord_adapt : (d.storeWord a v).adapt = d.adapt := rfl
@[simp] theorem storeWord_ptpIntervals : (d.storeWord a v).ptpIntervals = d.ptpIntervals := rfl
@[simp] theorem storeWord_ptpAnnexE : (d.storeWord a v).ptpAnnexE = d.ptpAnnexE := rfl
@[simp] theorem storeWord_levelDetail : (d.storeWord a v).levelDetail = d.levelDetail := rfl
@[simp] theorem storeWord_otpBurns : (d.storeWord a v).otpBurns = d.otpBurns := rfl
@[simp] theorem storeWord_flashTakes : (d.storeWord a v).flashTakes = d.flashTakes := rfl
@[simp] theorem storeWord_dma : (d.storeWord a v).dma = d.dma := rfl
@[simp] theorem storeWord_dmaLo : (d.storeWord a v).dmaLo = d.dmaLo := rfl
@[simp] theorem storeWord_dmaLast : (d.storeWord a v).dmaLast = d.dmaLast := rfl
@[simp] theorem storeWord_dmaStall : (d.storeWord a v).dmaStall = d.dmaStall := rfl
@[simp] theorem storeWord_mon : (d.storeWord a v).mon = d.mon := rfl
@[simp] theorem storeWord_mains : (d.storeWord a v).mains = d.mains := rfl
@[simp] theorem storeWord_pwm : (d.storeWord a v).pwm = d.pwm := rfl
@[simp] theorem storeWord_dfail : (d.storeWord a v).dfail = d.dfail := rfl
@[simp] theorem storeWord_avs : (d.storeWord a v).avs = d.avs := rfl
@[simp] theorem storeWord_fixedVoltage : (d.storeWord a v).fixedVoltage = d.fixedVoltage := rfl
@[simp] theorem storeWord_voltOffset : (d.storeWord a v).voltOffset = d.voltOffset := rfl
@[simp] theorem storeWord_sleep : (d.storeWord a v).sleep = d.sleep := rfl
@[simp] theorem storeWord_boot : (d.storeWord a v).boot = d.boot := rfl

/-! ## The state around the device -/

@[simp] theorem run_pending (f : List Host.Cell → Device → Device) : (s.run f).pending = s.pending := rfl
@[simp] theorem run_memOut (f : List Host.Cell → Device → Device) : (s.run f).dev.memOut = [] := rfl
/-- What a command leaves in memory: the bytes its effect has stored. -/
theorem run_mem (f : List Host.Cell → Device → Device) :
    (s.run f).mem = memPutAll s.mem (f s.mem { s.dev with memOut := [] }).memOut := rfl
/-- What a command leaves in the device. -/
theorem run_dev (f : List Host.Cell → Device → Device) :
    (s.run f).dev = { f s.mem { s.dev with memOut := [] } with memOut := [] } := rfl

/-- A register reads the same in devices with the same register file. -/
theorem rd_congr (d e : Device) (a : Nat) (h : e.regs = d.regs) : e.rd a = d.rd a := by
  unfold Device.rd; rw [h]

@[simp] theorem store_rd (bs : List Byte) (c : Nat) : (d.store a bs).rd c = d.rd c := rfl
@[simp] theorem storeWord_rd (c : Nat) : (d.storeWord a v).rd c = d.rd c := rfl

/-! ## Reading a register after a write -/

/-- A word just written reads back, modulo 2^32. -/
@[simp] theorem rd_wr_same : (d.wr a v).rd a = v % 2 ^ 32 := by
  simp [Device.wr, Device.rd, word]

/-- A write leaves every other register. -/
theorem rd_wr_ne (c : Nat) (h : c ≠ a) : (d.wr a v).rd c = d.rd c := by
  unfold Device.wr Device.rd
  rw [tabGet?_tabPut_ne _ _ _ _ h]

/-- A field write leaves every other register. -/
theorem rd_set_ne (c : Nat) (h : c ≠ l.addr) : (d.set l v).rd c = d.rd c := rd_wr_ne d l.addr _ c h

/-- A field just written reads back, modulo its width. -/
theorem get_set_same (h : l.lo + l.w ≤ 32) : (d.set l v).get l = v % 2 ^ l.w := by
  unfold Device.set Device.get
  rw [rd_wr_same]
  have e : ∀ n, bitsOf (n % 2 ^ 32) l.lo l.w = bitsOf n l.lo l.w := by
    intro n
    obtain ⟨c, hc⟩ := Nat.exists_eq_add_of_le h
    unfold bitsOf
    rw [hc, Nat.pow_add, Nat.pow_add, Nat.mul_assoc, Nat.mod_mul_right_div_self, Nat.mod_mul_right_mod]
  rw [e, bitsOf_putBits_same]

/-- A field of another register is unchanged. -/
theorem get_set_ne (k : Loc) (h : k.addr ≠ l.addr) : (d.set l v).get k = d.get k := by
  unfold Device.get; rw [rd_set_ne d v l k.addr h]

/-- A field of the same register that does not overlap is unchanged. -/
theorem get_set_disjoint (k : Loc) (hk : k.lo + k.w ≤ 32) (h : k.lo + k.w ≤ l.lo ∨ l.lo + l.w ≤ k.lo) :
    (d.set l v).get k = d.get k := by
  by_cases ha : k.addr = l.addr
  · unfold Device.set Device.get
    rw [ha, rd_wr_same]
    have e : ∀ n, bitsOf (n % 2 ^ 32) k.lo k.w = bitsOf n k.lo k.w := by
      intro n
      obtain ⟨c, hc⟩ := Nat.exists_eq_add_of_le hk
      unfold bitsOf
      rw [hc, Nat.pow_add, Nat.pow_add, Nat.mul_assoc, Nat.mod_mul_right_div_self, Nat.mod_mul_right_mod]
    rw [e]
    rcases h with h | h
    · exact bitsOf_putBits_below _ _ _ _ _ _ h
    · exact bitsOf_putBits_above _ _ _ _ _ _ h
  · exact get_set_ne d v l k ha

end Sys2Proof.Laws
end

