-- ==== Sys2Proof/Laws/Log.lean ====
section
/-! SUPPORT. What writing Tally records and raising events can change: the Tally block's registers, the log, and messages sent. -/
namespace Sys2Proof.Laws
open Sys2Proof.Machine

/-- Only the Tally block's registers, the log and messages differ. -/
structure TallyOnly (d e : Device) : Prop where
  regs : SameRegistersButTally d e
  rest : { e with regs := d.regs, tally := d.tally, delivered := d.delivered, msixPend := d.msixPend } = d

theorem TallyOnly.refl (d : Device) : TallyOnly d d := ⟨fun _ _ => rfl, rfl⟩

theorem TallyOnly.trans {d e f : Device} (h : TallyOnly d e) (k : TallyOnly e f) : TallyOnly d f := by
  refine ⟨fun a ha => (k.regs a ha).trans (h.regs a ha), ?_⟩
  conv_rhs => rw [← h.rest, ← k.rest]

/-- A field outside the log keeps its value. -/
theorem TallyOnly.keep {d e : Device} (h : TallyOnly d e) {α : Type} (f : Device → α)
    (hf : ∀ (x : Device) r t v m, f { x with regs := r, tally := t, delivered := v, msixPend := m } = f x) : f e = f d :=
  (hf e _ _ _ _).symm.trans (congrArg f h.rest)

theorem TallyOnly.memOut {d e : Device} (h : TallyOnly d e) : e.memOut = d.memOut := h.keep _ fun _ _ _ _ _ => rfl
theorem TallyOnly.ticks {d e : Device} (h : TallyOnly d e) : e.ticks = d.ticks := h.keep _ fun _ _ _ _ _ => rfl

/-- A field of a register outside the Tally block reads as before. -/
theorem TallyOnly.get {d e : Device} (h : TallyOnly d e) (l : Loc) (hl : l.addr < 0x20000 ∨ 0x30000 ≤ l.addr) : e.get l = d.get l := by
  unfold Device.get; rw [h.regs _ hl]

theorem TallyOnly.of_set (d : Device) (l : Loc) (v : Nat) (h : 0x20000 ≤ l.addr ∧ l.addr < 0x30000) : TallyOnly d (d.set l v) := by
  refine ⟨fun a ha => rd_set_ne d v l a ?_, rfl⟩
  rintro rfl
  omega

theorem TallyOnly.of_tally (d : Device) (t : TallyState) : TallyOnly d { d with tally := t } := ⟨fun _ _ => rfl, rfl⟩

theorem deliverTo_tally (t : Nat) (d : Device) : TallyOnly d (deliverTo t d) := ⟨fun _ _ => rfl, rfl⟩

theorem msix_tally (v : Nat) (d : Device) : TallyOnly d (msix v d) := by
  unfold msix
  split
  · exact ⟨fun _ _ => rfl, rfl⟩
  · exact deliverTo_tally v d

theorem foldl_tally {β : Type} (f : Device → β → Device) (hf : ∀ d x, TallyOnly d (f d x)) (l : List β) (d : Device) :
    TallyOnly d (l.foldl f d) := by
  induction l generalizing d with
  | nil => exact .refl d
  | cons x l ih => exact (hf d x).trans (ih _)

theorem tallyIrq_tally (d : Device) : TallyOnly d (tallyIrq d) := by
  unfold tallyIrq
  split
  · exact .refl d
  · refine TallyOnly.trans ?_ (foldl_tally _ (fun d n => ?_) _ _)
    · refine (TallyOnly.of_tally d { d.tally with irq := true }).trans ?_
      split
      · exact msix_tally _ _
      · exact .refl _
    · split
      · exact deliverTo_tally _ _
      · exact .refl _

/-- The registers of an island's buffer lie in the Tally block. -/
theorem isl_range (i : Nat) (h : i < 16) :
    (0x20000 ≤ (L.TLY_ISL_LEVEL i).addr ∧ (L.TLY_ISL_LEVEL i).addr < 0x30000) ∧
    (0x20000 ≤ (L.TLY_ISL_DROP i).addr ∧ (L.TLY_ISL_DROP i).addr < 0x30000) := by
  simp only [L.TLY_ISL_LEVEL, L.TLY_ISL_DROP, A.TLY_ISL]
  omega

/-- A guarded answer that is there. -/
theorem of_guard {α : Type} {b : Prop} [Decidable b] {x e : α} (h : (if b then some x else none) = some e) : x = e := by
  split at h
  · exact Option.some.inj h
  · cases h

theorem pushAll_tally (d e : Device) (r : LogRec) (ps : List LogRec) (hr : r.island < 16) (h : d.pushAll r ps = some e) :
    TallyOnly d e := by
  unfold Device.pushAll at h
  rw [← of_guard h]
  exact (TallyOnly.of_tally d _).trans (.of_set _ _ _ (isl_range _ hr).1)

theorem loseRecs_tally (d : Device) (i n : Nat) (hi : i < 16) : TallyOnly d (d.loseRecs i n) := by
  unfold Device.loseRecs Device.addSat
  refine (TallyOnly.of_tally d _).trans ((TallyOnly.of_set _ _ _ (isl_range i hi).2).trans (.of_set _ _ _ ?_))
  simp only [L.TLY_LATE_LOST, A.TLY_LATE]; omega

/-- The parts of one record change the Tally log only, whether they are kept or lost. -/
theorem pushParts_tally (d : Device) (r : LogRec) (ps : List LogRec) (hr : r.island < 16) : TallyOnly d (d.pushParts r ps) := by
  unfold Device.pushParts
  split
  · exact pushAll_tally d _ r ps hr (by assumption)
  · dsimp only
    generalize hx : tallyIrq ((d.loseRecs r.island ps.length).set L.TLY_EVENT_LOST 1) = x
    have h0 : TallyOnly d x := hx ▸ (loseRecs_tally d _ _ hr).trans
      ((TallyOnly.of_set _ _ _ (by simp only [L.TLY_EVENT_LOST, A.TLY_EVENT]; omega)).trans (tallyIrq_tally _))
    split
    · have h1 := h0.trans (TallyOnly.of_tally x { x.tally with limiter := tabPut x.tally.limiter (A.TLY_EVENT * 4096 + 2 * 128) x.ticks })
      split
      · exact h1.trans (pushAll_tally _ _ _ _ (show isleFABRIC < 16 by decide) (by assumption))
      · exact h1.trans (loseRecs_tally _ _ _ (by decide))
    · exact h0

theorem push_tally (d : Device) (r : LogRec) (hr : r.island < 16) : TallyOnly d (d.push r) := pushParts_tally d r _ hr

/-- A record changes the Tally log only. -/
theorem log_tally (d : Device) (isle sev cls src code : Nat) (items : List (Nat × Nat)) (h : isle < 16) :
    TallyOnly d (d.log isle sev cls src code items) := pushParts_tally _ _ _ h

/-- A limited record changes the Tally log only. -/
theorem logLimited_tally (d : Device) (key period isle sev cls src code : Nat) (items : List (Nat × Nat)) (h : isle < 16) :
    TallyOnly d (d.logLimited key period isle sev cls src code items) := by
  unfold Device.logLimited
  split
  · exact (TallyOnly.of_tally d _).trans (log_tally _ _ _ _ _ _ _ h)
  · exact .refl d

/-- An event sets its bit, and for the rest changes the Tally log only. -/
theorem event_tally (d : Device) (l : Loc) (isle cls src reg sev : Nat) (items : List (Nat × Nat)) (h : isle < 16) :
    TallyOnly (d.set l 1) (d.event l isle cls src reg sev items) := log_tally _ _ _ _ _ _ _ h

/-- A limited event sets its bit, and for the rest changes the Tally log only. -/
theorem eventLimited_tally (d : Device) (l : Loc) (period isle cls src reg sev : Nat) (items : List (Nat × Nat)) (h : isle < 16) :
    TallyOnly (d.set l 1) (d.eventLimited l period isle cls src reg sev items) := logLimited_tally _ _ _ _ _ _ _ _ _ h

end Sys2Proof.Laws
end

