-- ==== Sys2Proof/Laws/Bus.lean ====
section
/-! SUPPORT. An access that reaches its target at once: how it is answered. -/
namespace Sys2Proof.Laws
open Sys2Proof.Machine

/-- A domain that is on lets the access through and is not changed (R491). -/
theorem domainAccess_reaches (d : Device) (m a : Nat) (h : d.reaches m a) : domainAccess m a d = (0, d) := by
  obtain ⟨_, _, hs, hh, hd⟩ := h
  simp [domainAccess, hh, hd, hs]

/-- None of the master's accesses waits. -/
theorem reaches_no_stall (d : Device) (m a : Nat) (h : d.reaches m a) : (d.stalled.any fun y => y.master == m) = false := by
  rw [List.any_eq_false]
  intro x hx
  simpa using h.2.1 x hx

/-- An access that reaches its target is performed and answered. -/
theorem access_reaches (x : StalledAccess) (mem : List Host.Cell) (d : Device) (h : d.reaches x.master x.addr)
    (hw : x.width ≠ 0 ∧ widthOk x.addr x.width = true) (hm : isMapped x.addr = true) (hr : (perform x mem d).1 ≠ 1) :
    access x mem d = ((perform x mem d).1, answer x (perform x mem d).1 (perform x mem d).2.1 (perform x mem d).2.2) := by
  unfold access busTry
  simp [h.1, reaches_no_stall d _ _ h, hw.1, hw.2, hm, domainAccess_reaches d _ _ h, hr]

/-- A register write never waits once it is performed. -/
theorem regStore_ne_one (m a v : Nat) (mem : List Host.Cell) (d : Device) : (regStore m a v mem d).1 ≠ 1 := by
  unfold regStore
  repeat' split
  all_goals simp

/-- A register write ends done or without effect, never in a bus error. -/
theorem regStore_ne_two (m a v : Nat) (mem : List Host.Cell) (d : Device) : (regStore m a v mem d).1 ≠ 2 := by
  unfold regStore
  repeat' split
  all_goals simp

/-- A 32-bit write of a register that reaches its target: the register's own effect, then the answer. -/
theorem busWrite_register (m a v : Nat) (mem : List Host.Cell) (d : Device) (h : d.reaches m a) (ha : a < 0x10000000) (h4 : a % 4 = 0)
    (hm : isMapped a = true) : busWrite m a 4 v mem d = (regStore m a v mem d).2.replied m a 0 := by
  have hw : widthOk a 4 = true := by simp [widthOk, h4]
  have hp : perform ⟨m, a, 4, true, v, domainOf a⟩ mem d = ((regStore m a v mem d).1, 0, (regStore m a v mem d).2) := by
    unfold perform
    rw [if_neg (by simpa using ha)]
    simp
  unfold busWrite
  rw [access_reaches _ mem d h ⟨by simp, hw⟩ hm (by rw [hp]; exact regStore_ne_one m a v mem d), hp]
  simp [answer, Device.replied, regStore_ne_two]

/-- A 32-bit read of a register that reaches its target: its value, and what the read clears or removes. -/
theorem busRead_register (m a : Nat) (mem : List Host.Cell) (d : Device) (h : d.reaches m a) (ha : a < 0x10000000) (h4 : a % 4 = 0)
    (hm : isMapped a = true) : busRead m a 4 mem d = (regLoad m a d).2.replied m a (regLoad m a d).1 := by
  have hw : widthOk a 4 = true := by simp [widthOk, h4]
  have hp : perform ⟨m, a, 4, false, 0, domainOf a⟩ mem d = (0, (regLoad m a d).1, (regLoad m a d).2) := by
    unfold perform
    rw [if_neg (by simpa using ha)]
    simp
  unfold busRead
  rw [access_reaches _ mem d h ⟨by simp, hw⟩ hm (by rw [hp]; simp), hp]
  simp [answer, Device.replied]

end Sys2Proof.Laws
end

