-- ==== Sys2Proof/Laws/Setters.lean ====
section
/-! SUPPORT. What replacing one unit's record leaves alone: registers, memory bytes to write, the tick count and the free values drawn. -/
namespace Sys2Proof.Laws
open Sys2Proof.Machine

variable (d : Device) (k a : Nat) (l : Loc)

@[simp] theorem setRx_regs (c : RxCtl) : (d.setRx k c).regs = d.regs := rfl
@[simp] theorem setRx_memOut (c : RxCtl) : (d.setRx k c).memOut = d.memOut := rfl
@[simp] theorem setRx_ticks (c : RxCtl) : (d.setRx k c).ticks = d.ticks := rfl
@[simp] theorem setRx_drawn (c : RxCtl) : (d.setRx k c).drawn = d.drawn := rfl
@[simp] theorem setRx_tally (c : RxCtl) : (d.setRx k c).tally = d.tally := rfl
@[simp] theorem setRx_rd (c : RxCtl) : (d.setRx k c).rd a = d.rd a := rfl
@[simp] theorem setRx_get (c : RxCtl) : (d.setRx k c).get l = d.get l := rfl
@[simp] theorem setTx_regs (c : TxCtl) : (d.setTx k c).regs = d.regs := rfl
@[simp] theorem setTx_memOut (c : TxCtl) : (d.setTx k c).memOut = d.memOut := rfl
@[simp] theorem setTx_ticks (c : TxCtl) : (d.setTx k c).ticks = d.ticks := rfl
@[simp] theorem setTx_drawn (c : TxCtl) : (d.setTx k c).drawn = d.drawn := rfl
@[simp] theorem setTx_tally (c : TxCtl) : (d.setTx k c).tally = d.tally := rfl
@[simp] theorem setTx_rd (c : TxCtl) : (d.setTx k c).rd a = d.rd a := rfl
@[simp] theorem setTx_get (c : TxCtl) : (d.setTx k c).get l = d.get l := rfl
@[simp] theorem setCap_regs (c : CapCtl) : (d.setCap k c).regs = d.regs := rfl
@[simp] theorem setCap_memOut (c : CapCtl) : (d.setCap k c).memOut = d.memOut := rfl
@[simp] theorem setCap_ticks (c : CapCtl) : (d.setCap k c).ticks = d.ticks := rfl
@[simp] theorem setCap_drawn (c : CapCtl) : (d.setCap k c).drawn = d.drawn := rfl
@[simp] theorem setCap_tally (c : CapCtl) : (d.setCap k c).tally = d.tally := rfl
@[simp] theorem setCap_rd (c : CapCtl) : (d.setCap k c).rd a = d.rd a := rfl
@[simp] theorem setCap_get (c : CapCtl) : (d.setCap k c).get l = d.get l := rfl
@[simp] theorem setPath_regs (c : PathCtl) : (d.setPath k c).regs = d.regs := rfl
@[simp] theorem setPath_memOut (c : PathCtl) : (d.setPath k c).memOut = d.memOut := rfl
@[simp] theorem setPath_ticks (c : PathCtl) : (d.setPath k c).ticks = d.ticks := rfl
@[simp] theorem setPath_drawn (c : PathCtl) : (d.setPath k c).drawn = d.drawn := rfl
@[simp] theorem setPath_tally (c : PathCtl) : (d.setPath k c).tally = d.tally := rfl
@[simp] theorem setPath_rd (c : PathCtl) : (d.setPath k c).rd a = d.rd a := rfl
@[simp] theorem setPath_get (c : PathCtl) : (d.setPath k c).get l = d.get l := rfl
@[simp] theorem setCoex_regs (c : CoexCtl) : (d.setCoex k c).regs = d.regs := rfl
@[simp] theorem setCoex_memOut (c : CoexCtl) : (d.setCoex k c).memOut = d.memOut := rfl
@[simp] theorem setCoex_ticks (c : CoexCtl) : (d.setCoex k c).ticks = d.ticks := rfl
@[simp] theorem setCoex_drawn (c : CoexCtl) : (d.setCoex k c).drawn = d.drawn := rfl
@[simp] theorem setCoex_tally (c : CoexCtl) : (d.setCoex k c).tally = d.tally := rfl
@[simp] theorem setCoex_rd (c : CoexCtl) : (d.setCoex k c).rd a = d.rd a := rfl
@[simp] theorem setCoex_get (c : CoexCtl) : (d.setCoex k c).get l = d.get l := rfl
@[simp] theorem setChn_regs (c : ChanCtl) : (d.setChn k c).regs = d.regs := rfl
@[simp] theorem setChn_memOut (c : ChanCtl) : (d.setChn k c).memOut = d.memOut := rfl
@[simp] theorem setChn_ticks (c : ChanCtl) : (d.setChn k c).ticks = d.ticks := rfl
@[simp] theorem setChn_drawn (c : ChanCtl) : (d.setChn k c).drawn = d.drawn := rfl
@[simp] theorem setChn_tally (c : ChanCtl) : (d.setChn k c).tally = d.tally := rfl
@[simp] theorem setChn_rd (c : ChanCtl) : (d.setChn k c).rd a = d.rd a := rfl
@[simp] theorem setChn_get (c : ChanCtl) : (d.setChn k c).get l = d.get l := rfl
@[simp] theorem setSig_regs (c : ChanSig) : (d.setSig k c).regs = d.regs := rfl
@[simp] theorem setSig_memOut (c : ChanSig) : (d.setSig k c).memOut = d.memOut := rfl
@[simp] theorem setSig_ticks (c : ChanSig) : (d.setSig k c).ticks = d.ticks := rfl
@[simp] theorem setSig_drawn (c : ChanSig) : (d.setSig k c).drawn = d.drawn := rfl
@[simp] theorem setSig_tally (c : ChanSig) : (d.setSig k c).tally = d.tally := rfl
@[simp] theorem setSig_rd (c : ChanSig) : (d.setSig k c).rd a = d.rd a := rfl
@[simp] theorem setSig_get (c : ChanSig) : (d.setSig k c).get l = d.get l := rfl
@[simp] theorem setRxs_regs (c : RxSig) : (d.setRxs k c).regs = d.regs := rfl
@[simp] theorem setRxs_memOut (c : RxSig) : (d.setRxs k c).memOut = d.memOut := rfl
@[simp] theorem setRxs_ticks (c : RxSig) : (d.setRxs k c).ticks = d.ticks := rfl
@[simp] theorem setRxs_drawn (c : RxSig) : (d.setRxs k c).drawn = d.drawn := rfl
@[simp] theorem setRxs_tally (c : RxSig) : (d.setRxs k c).tally = d.tally := rfl
@[simp] theorem setRxs_rd (c : RxSig) : (d.setRxs k c).rd a = d.rd a := rfl
@[simp] theorem setRxs_get (c : RxSig) : (d.setRxs k c).get l = d.get l := rfl
@[simp] theorem setTxs_regs (c : TxSig) : (d.setTxs k c).regs = d.regs := rfl
@[simp] theorem setTxs_memOut (c : TxSig) : (d.setTxs k c).memOut = d.memOut := rfl
@[simp] theorem setTxs_ticks (c : TxSig) : (d.setTxs k c).ticks = d.ticks := rfl
@[simp] theorem setTxs_drawn (c : TxSig) : (d.setTxs k c).drawn = d.drawn := rfl
@[simp] theorem setTxs_tally (c : TxSig) : (d.setTxs k c).tally = d.tally := rfl
@[simp] theorem setTxs_rd (c : TxSig) : (d.setTxs k c).rd a = d.rd a := rfl
@[simp] theorem setTxs_get (c : TxSig) : (d.setTxs k c).get l = d.get l := rfl
@[simp] theorem setGrd_regs (c : GridCtl) : (d.setGrd k c).regs = d.regs := rfl
@[simp] theorem setGrd_memOut (c : GridCtl) : (d.setGrd k c).memOut = d.memOut := rfl
@[simp] theorem setGrd_ticks (c : GridCtl) : (d.setGrd k c).ticks = d.ticks := rfl
@[simp] theorem setGrd_drawn (c : GridCtl) : (d.setGrd k c).drawn = d.drawn := rfl
@[simp] theorem setGrd_tally (c : GridCtl) : (d.setGrd k c).tally = d.tally := rfl
@[simp] theorem setGrd_rd (c : GridCtl) : (d.setGrd k c).rd a = d.rd a := rfl
@[simp] theorem setGrd_get (c : GridCtl) : (d.setGrd k c).get l = d.get l := rfl
@[simp] theorem setDir_regs (c : DirCtl) : (d.setDir k c).regs = d.regs := rfl
@[simp] theorem setDir_memOut (c : DirCtl) : (d.setDir k c).memOut = d.memOut := rfl
@[simp] theorem setDir_ticks (c : DirCtl) : (d.setDir k c).ticks = d.ticks := rfl
@[simp] theorem setDir_drawn (c : DirCtl) : (d.setDir k c).drawn = d.drawn := rfl
@[simp] theorem setDir_tally (c : DirCtl) : (d.setDir k c).tally = d.tally := rfl
@[simp] theorem setDir_rd (c : DirCtl) : (d.setDir k c).rd a = d.rd a := rfl
@[simp] theorem setDir_get (c : DirCtl) : (d.setDir k c).get l = d.get l := rfl
@[simp] theorem setDmp_regs (c : DmpCtl) : (d.setDmp k c).regs = d.regs := rfl
@[simp] theorem setDmp_memOut (c : DmpCtl) : (d.setDmp k c).memOut = d.memOut := rfl
@[simp] theorem setDmp_ticks (c : DmpCtl) : (d.setDmp k c).ticks = d.ticks := rfl
@[simp] theorem setDmp_drawn (c : DmpCtl) : (d.setDmp k c).drawn = d.drawn := rfl
@[simp] theorem setDmp_tally (c : DmpCtl) : (d.setDmp k c).tally = d.tally := rfl
@[simp] theorem setDmp_rd (c : DmpCtl) : (d.setDmp k c).rd a = d.rd a := rfl
@[simp] theorem setDmp_get (c : DmpCtl) : (d.setDmp k c).get l = d.get l := rfl
@[simp] theorem setFlow_regs (c : GstFlow) : (d.setFlow k c).regs = d.regs := rfl
@[simp] theorem setFlow_memOut (c : GstFlow) : (d.setFlow k c).memOut = d.memOut := rfl
@[simp] theorem setFlow_ticks (c : GstFlow) : (d.setFlow k c).ticks = d.ticks := rfl
@[simp] theorem setFlow_drawn (c : GstFlow) : (d.setFlow k c).drawn = d.drawn := rfl
@[simp] theorem setFlow_tally (c : GstFlow) : (d.setFlow k c).tally = d.tally := rfl
@[simp] theorem setFlow_rd (c : GstFlow) : (d.setFlow k c).rd a = d.rd a := rfl
@[simp] theorem setFlow_get (c : GstFlow) : (d.setFlow k c).get l = d.get l := rfl
@[simp] theorem setDma_regs (c : DmaCtl) : (d.setDma k c).regs = d.regs := rfl
@[simp] theorem setDma_memOut (c : DmaCtl) : (d.setDma k c).memOut = d.memOut := rfl
@[simp] theorem setDma_ticks (c : DmaCtl) : (d.setDma k c).ticks = d.ticks := rfl
@[simp] theorem setDma_drawn (c : DmaCtl) : (d.setDma k c).drawn = d.drawn := rfl
@[simp] theorem setDma_tally (c : DmaCtl) : (d.setDma k c).tally = d.tally := rfl
@[simp] theorem setDma_rd (c : DmaCtl) : (d.setDma k c).rd a = d.rd a := rfl
@[simp] theorem setDma_get (c : DmaCtl) : (d.setDma k c).get l = d.get l := rfl
@[simp] theorem setMon_regs (c : MonConv) : (d.setMon k c).regs = d.regs := rfl
@[simp] theorem setMon_memOut (c : MonConv) : (d.setMon k c).memOut = d.memOut := rfl
@[simp] theorem setMon_ticks (c : MonConv) : (d.setMon k c).ticks = d.ticks := rfl
@[simp] theorem setMon_drawn (c : MonConv) : (d.setMon k c).drawn = d.drawn := rfl
@[simp] theorem setMon_tally (c : MonConv) : (d.setMon k c).tally = d.tally := rfl
@[simp] theorem setMon_rd (c : MonConv) : (d.setMon k c).rd a = d.rd a := rfl
@[simp] theorem setMon_get (c : MonConv) : (d.setMon k c).get l = d.get l := rfl
@[simp] theorem setEg_regs (c : List EgFrame) : (d.setEg k c).regs = d.regs := rfl
@[simp] theorem setEg_memOut (c : List EgFrame) : (d.setEg k c).memOut = d.memOut := rfl
@[simp] theorem setEg_ticks (c : List EgFrame) : (d.setEg k c).ticks = d.ticks := rfl
@[simp] theorem setEg_drawn (c : List EgFrame) : (d.setEg k c).drawn = d.drawn := rfl
@[simp] theorem setEg_tally (c : List EgFrame) : (d.setEg k c).tally = d.tally := rfl
@[simp] theorem setEg_rd (c : List EgFrame) : (d.setEg k c).rd a = d.rd a := rfl
@[simp] theorem setEg_get (c : List EgFrame) : (d.setEg k c).get l = d.get l := rfl

end Sys2Proof.Laws
end

