-- ==== Sys2Proof/Laws/Step.lean ====
section
/-! SUPPORT. What a step can do, said once: a well-formed command has its effect on memory and device, an ill-formed one is
refused, and the queue is untouched. -/
namespace Sys2Proof.Laws
open Sys2Proof.Machine

/-- A meaning's answer for a well-formed command. -/
theorem act_wf (i : Instr) (s : State) (f : List Host.Cell → Device → Device) (h : i.wf = true) : act i s f = .next (s.run f) := by
  simp [act, h]

/-- A meaning's answer for an ill-formed command. -/
theorem act_illFormed (i : Instr) (s : State) (f : List Host.Cell → Device → Device) (h : i.wf = false) :
    act i s f = .refused .illFormed := by
  simp [act, h]

/-- Every command's meaning is `act` of some effect; the entry to S3 starts from memory lost (R499). -/
theorem exec_act (i : Instr) (s : State) :
    ∃ f m, (m = s.mem ∨ m = []) ∧ exec i s = act i { s with mem := m } f := by
  cases i
  case sleepEnterDone e =>
    rw [exec, execSleepEnterDone, actDev]
    by_cases h : (s.dev.step' == 6 && s.dev.sleep.target == 3) = true
    · exact ⟨_, [], Or.inr rfl, by rw [if_pos h]⟩
    · exact ⟨_, s.mem, Or.inl rfl, by rw [if_neg h]⟩
  all_goals exact ⟨_, s.mem, Or.inl rfl, rfl⟩

/-- A command that answers a next state is well-formed, and its state is the run of some effect. -/
theorem exec_next (i : Instr) (s t : State) (h : exec i s = .next t) :
    i.wf = true ∧ ∃ f m, (m = s.mem ∨ m = []) ∧ t = State.run { s with mem := m } f := by
  obtain ⟨f, m, hm, hf⟩ := exec_act i s
  rw [hf, act] at h
  split at h
  · exact ⟨by assumption, f, m, hm, by injection h with h; exact h.symm⟩
  · cases h

/-- A run keeps the canonical form of memory. -/
theorem run_memWf (s : State) (f : List Host.Cell → Device → Device) (h : memWf s.mem = true) : memWf (s.run f).mem = true :=
  memPutAll_wf _ _ h

/-- A run leaves each byte its effect does not store to. -/
theorem run_memGet (s : State) (f : List Host.Cell → Device → Device) (a : Nat)
    (h : ∀ p ∈ (f s.mem { s.dev with memOut := [] }).memOut, p.1 ≠ a) : memGet (s.run f).mem a = memGet s.mem a :=
  memGet_memPutAll_ne _ _ _ h

/-- Nothing left unwritten: clearing the scratch field changes nothing. -/
theorem dev_memOut (d : Device) (h : d.memOut = []) : { d with memOut := [] } = d := by rw [← h]

/-- A command whose effect stores no byte answers the state with its device changed, memory and queue as they were. -/
theorem act_onDevice (i : Instr) (s : State) (f : List Host.Cell → Device → Device) (h : i.wf = true) (hs : s.dev.memOut = [])
    (hf : (f s.mem s.dev).memOut = []) : act i s f = .next { s with dev := f s.mem s.dev } := by
  rw [act_wf i s f h, State.run, dev_memOut s.dev hs]
  simp only [hf, memPutAll]
  rw [dev_memOut _ hf]

/-- A step with a command in front is that command on the rest of the queue. -/
theorem step_cons (s : State) (c : Instr) (cs : List Instr) (h : s.pending = c :: cs) :
    step s = exec c { s with pending := cs } := by
  unfold step; rw [h]

/-- A step on an empty queue is a tick. -/
theorem step_nil (s : State) (h : s.pending = []) : step s = .next (tickState s) := by
  unfold step; rw [h]

end Sys2Proof.Laws
end

