-- ==== Sys2Proof/Tests/Slice0.lean ====
section
/-! SUPPORT. Tests: states that meet the statements' hypotheses, examples from the spec's rules, and the operands each command
takes and refuses. -/
set_option Elab.async false
namespace Sys2Proof.Tests
open Sys2Proof Sys2Proof.Machine

/-! ## States -/

/-- The device awake, its fabric and PCIe link up and the tick running. -/
def awake : Device :=
  { State.reset.dev with
    tickRuns := true
    boot := { State.reset.dev.boot with porstLow := false, g1 := true, fabricReady := true, pcieUp := true } }

/-- The same with SYNTH, GRID, LANE and PATH00 on. -/
def lit : Device := setDom 4 2 (setDom 6 2 (setDom 7 2 (setDom 32 2 awake)))

/-- A state with nothing queued and empty memory. -/
def st (d : Device) : State := { State.reset with dev := d }

theorem settled_st (d : Device) (h : d.memOut = []) : (st d).Settled := ⟨rfl, h⟩

/-- An access reaches its target where every part of `Device.reaches` can be computed. -/
def reachesB (d : Device) (m a : Nat) : Bool :=
  d.answers m && d.stalled.isEmpty && d.asleep == 0 && !d.domHeld (domainOf a) && d.domState (domainOf a) == 2

theorem reaches_of (d : Device) (m a : Nat) (h : reachesB d m a = true) : d.reaches m a := by
  simp only [reachesB, Bool.and_eq_true, List.isEmpty_iff, beq_iff_eq, Bool.not_eq_true'] at h
  obtain ⟨⟨⟨⟨h1, h2⟩, h3⟩, h4⟩, h5⟩ := h
  exact ⟨h1, by simp [h2], h3, h4, h5⟩

/-- The device a command leaves. -/
def after (i : Instr) (d : Device) : Device :=
  match exec i (st d) with
  | .next t => t.dev
  | _ => State.reset.dev

/-- The memory a command leaves. -/
def memAfter (i : Instr) (d : Device) : List Host.Cell :=
  match exec i (st d) with
  | .next t => t.mem
  | _ => []

/-- The register row at an address. -/
def rowAt (a : Nat) : RegRow := ((regAt a).map (·.1)).getD ⟨.SYS_ID, 0, [], 0, [], .none, 0, 0, []⟩

/-! ## States and operands that meet the statements' hypotheses -/

theorem witness_StepRunsFrontCommand : ∃ (s : State) (c : Instr) (cs : List Instr), s.pending = c :: cs :=
  ⟨{ st awake with pending := [.avsReport] }, .avsReport, [], rfl⟩

theorem witness_EmptyQueueTicks : ∃ s : State, s.pending = [] ∧ s.Settled ∧ s.dev.tickRuns = true ∧ s.dev.tctl.setPend = none ∧
    s.dev.tctl.adjPend = none ∧ s.dev.tctl.incPend = none ∧ s.dev.tctl.foffPend = none ∧ s.dev.cmdWaits = [] ∧ s.dev.laters = [] :=
  ⟨st awake, rfl, settled_st _ rfl, rfl, rfl, rfl, rfl, rfl, rfl, rfl⟩

theorem witness_StepKeepsSettled : ∃ s t : State, s.Settled ∧ step s = .next t :=
  ⟨st awake, _, settled_st _ rfl, rfl⟩

theorem witness_WellFormedCommandsComplete : ∃ (i : Instr) (s : State), i.wf = true ∧ s.Settled :=
  ⟨.avsReport, st awake, rfl, settled_st _ rfl⟩

theorem witness_OnlyIllFormedCommandsStop : step { st awake with pending := [.lockBitSet 0 8] } = .refused .illFormed := rfl

theorem witness_QueueDrains : ∃ s : State, s.pending ≠ [] ∧ (∀ c ∈ s.pending, c.wf = true) ∧ s.Settled :=
  ⟨{ st awake with pending := [.avsReport, .lockBitSet 0 7] }, by simp, by simp [Instr.wf, isMaster], settled_st _ rfl⟩

theorem witness_UncoveredAccessHasNoEffect : ∃ (m a v : Nat) (s : State), isMaster m = true ∧ a < 2 ^ 32 ∧ v < 2 ^ 32 ∧ a % 4 = 0 ∧
    isMapped a = false ∧ s.Settled ∧ s.dev.answers m = true ∧ (∀ x ∈ s.dev.stalled, x.master ≠ m) :=
  ⟨16, 0xD0000, 5, st awake, by decide, by decide, by decide, by decide, by decide, settled_st _ rfl, by decide, (by intro x h; cases h)⟩

theorem witness_WrongWidthHasNoEffect : (∃ a i j r, regAt a = some (r, i, j)) ∧ (∃ a n, a < 0x10000000 ∧ isWidth n = true) ∧
    ∃ (m a n v : Nat) (s : State), isMaster m = true ∧ isWidth n = true ∧ a < 2 ^ 32 ∧ v < 2 ^ (8 * n) ∧ widthOk a n = false ∧
      s.Settled ∧ s.dev.answers m = true ∧ (∀ x ∈ s.dev.stalled, x.master ≠ m) :=
  ⟨⟨0x24, 0, 0, rowAt 0x24, by decide +kernel⟩, ⟨0x24, 4, by decide, by decide⟩,
    17, 0x26, 4, 5, st awake, by decide, by decide, by decide, by decide, by decide, settled_st _ rfl, by decide, (by intro x h; cases h)⟩

theorem witness_CountersClearForBeadsOnly : ∃ (m a i j : Nat) (r : RegRow) (f : FieldRow) (s : State), isMaster m = true ∧
    a < 0x10000000 ∧ isMapped a = true ∧ regAt a = some (r, i, j) ∧ r.mark.firmware i = true ∧ f ∈ r.fields ∧ f.acc = .rc ∧ s.Settled ∧
    s.dev.reaches m a ∧ s.dev.get ⟨a, f.lo, f.hi + 1 - f.lo⟩ = 9 :=
  ⟨16, A.GST_CNT 3, 3, 0, rowAt (A.GST_CNT 3), ⟨31, 0, .rc, 0⟩, st (awake.set (L.GST_CNT_COUNT 3) 9), by decide, by decide, by decide,
    by decide +kernel, by decide +kernel, by decide +kernel, rfl, settled_st _ rfl, reaches_of _ _ _ (by decide +kernel),
    by decide +kernel⟩

theorem witness_HostWriteToFirmwareRegister : ∃ (m a v i j : Nat) (r : RegRow) (s : State), isMaster m = true ∧ a < 0x10000000 ∧
    v < 2 ^ 32 ∧ a % 4 = 0 ∧ isMapped a = true ∧ regAt a = some (r, i, j) ∧ r.mark.firmware i = true ∧ r.name ≠ .MBX_BIND ∧ s.Settled ∧
    s.dev.hostLike m = true ∧ s.dev.reaches m a :=
  ⟨21, A.SYS_FW_PRIV, 1, 0, 0, rowAt A.SYS_FW_PRIV, st awake, by decide, by decide, by decide, by decide, by decide, by decide +kernel,
    by decide +kernel, by decide +kernel, settled_st _ rfl, by decide +kernel, reaches_of _ _ _ (by decide +kernel)⟩

theorem witness_HostWriteToPrivateMemory : ∀ a ∈ [0x10000000, 0x100FFFFC, 0x16000000, 0x167FFFFC], ∃ (m n v : Nat) (s : State),
    isMaster m = true ∧ isWidth n = true ∧ v < 2 ^ (8 * n) ∧ widthOk a n = true ∧ isMapped a = true ∧ (0x10000000 ≤ a ∧ a < 0x16800000) ∧
    ((a < 0x12000000 ∧ a - 0x10000000 < 4096 * s.dev.get L.SYS_FW_PRIV_TOP) ∨ 0x16000000 ≤ a) ∧ s.Settled ∧ s.dev.hostLike m = true ∧
    s.dev.reaches m a := by
  intro a ha
  refine ⟨16, 4, 7, st lit, by decide, by decide, by decide, ?_, ?_, ?_, ?_, settled_st _ rfl, by decide +kernel, reaches_of _ _ _ ?_⟩ <;>
    · revert a; decide +kernel

theorem witness_SramWriteLands : ∀ a ∈ [0x10000000, 0x11FFFFF8], ∃ (m n v : Nat) (s : State), m < 16 ∧ isMemWidth n = true ∧
    v < 2 ^ (8 * n) ∧ a % n = 0 ∧ 0x10000000 ≤ a ∧ a + n ≤ 0x12000000 ∧ s.Settled ∧ s.dev.eccBad = [] ∧ s.dev.reaches m a := by
  intro a ha
  refine ⟨3, 8, 7, st awake, by decide, by decide, by decide, ?_, ?_, ?_, settled_st _ rfl, rfl, reaches_of _ _ _ ?_⟩ <;>
    · revert a; decide +kernel

theorem witness_SramReadIsLittleEndian : ∃ (m a n : Nat) (s : State), isMaster m = true ∧ isMemWidth n = true ∧ a % n = 0 ∧ 0x10000000 ≤ a ∧
    a + n ≤ 0x12000000 ∧ s.Settled ∧ s.dev.eccBad = [] ∧ s.dev.reaches m a :=
  ⟨17, 0x11FFFFFF, 1, st awake, by decide, by decide, by decide, by decide, by decide, settled_st _ rfl, rfl,
    reaches_of _ _ _ (by decide +kernel)⟩

theorem witness_UncorrectableWord : ∀ n ∈ [4, 8], ∃ (m a v : Nat) (s : State), m < 16 ∧ isMemWidth n = true ∧ v < 2 ^ (8 * n) ∧ a % n = 0 ∧
    0x10000000 ≤ a ∧ a + n ≤ 0x12000000 ∧ s.Settled ∧ s.dev.eccBad.contains (a / 8 * 8) = true ∧ s.dev.reaches m a := by
  intro n hn
  refine ⟨3, 0x10000008, 9, st { awake with eccBad := [0x10000008] }, by decide, ?_, ?_, ?_, by decide, ?_, settled_st _ rfl, by decide,
    reaches_of _ _ _ (by decide +kernel)⟩ <;>
    · revert n; decide +kernel

theorem witness_LockBitsStaySet : ∀ b ∈ [0, 7], ∃ (m v : Nat) (s : State), isMaster m = true ∧ b < 8 ∧ v < 2 ^ 32 ∧ s.Settled ∧
    s.dev.reaches m (lockAddr b) ∧ m < 16 ∧ bitsOf (s.dev.rd (lockAddr b)) 0 1 = 1 := by
  intro b hb
  refine ⟨0, 0, st (awake.wr (lockAddr b) 1), by decide, ?_, by decide, settled_st _ rfl, reaches_of _ _ _ ?_, by decide, ?_⟩ <;>
    · revert b; decide +kernel

theorem witness_WideWriteIsHeld : ∃ (m a v i j : Nat) (r : RegRow) (s : State), isMaster m = true ∧ a < 0x10000000 ∧ v < 2 ^ 32 ∧
    a % 4 = 0 ∧ isMapped a = true ∧ regAt a = some (r, i, j) ∧ 2 ≤ r.wlen ∧ r.wpos + 1 < r.wlen ∧
    (r.mark.firmware i && s.dev.hostLike m) = false ∧ targetRefuses r.name i j a s.dev = none ∧ s.Settled ∧ s.dev.reaches m a :=
  ⟨14, A.TIME_SET_W0, 5, 0, 0, rowAt A.TIME_SET_W0, st awake, by decide, by decide, by decide, by decide, by decide, by decide +kernel,
    by decide +kernel, by decide +kernel, by decide +kernel, by decide +kernel, settled_st _ rfl, reaches_of _ _ _ (by decide +kernel)⟩

theorem witness_WideReadIsOneInstant : ∃ (m : Nat) (s : State) (ws : List Word) (k : Nat), isMaster m = true ∧ s.Settled ∧
    s.dev.reaches m A.TIME_NOW_W0 ∧ ws.length = 3 ∧ k < 3 ∧ tabGet? s.dev.readShadow m = some ⟨A.TIME_NOW_W0, ws⟩ :=
  ⟨16, st { awake with readShadow := [(16, ⟨A.TIME_NOW_W0, [1, 2, 3]⟩)] }, [1, 2, 3], 2, by decide, settled_st _ rfl,
    reaches_of _ _ _ (by decide +kernel), rfl, by decide, by decide⟩

/-- One case of each result of a ring (R415): the sender, the channel, the offset, and what stands in the channel. -/
def ringCases : List (Nat × Nat × Nat × Nat) := [(16, 4, 0, 0), (17, 0, 0, 0), (16, 0, 32, 0), (16, 0, 64, 16), (16, 0, 64, 15)]

theorem witness_RingChecksInOrder : ∀ x ∈ ringCases, ∃ (tag : Nat) (s : State), (Instr.mbxRingCommit x.1 x.2.1 x.2.2.1 tag).wf = true ∧
    s.Settled ∧ s.dev.step' = 0 ∧ s.dev.reaches x.1 (A.MBX_RING_W0 x.2.1) ∧ (s.dev.chan' x.2.1).length = x.2.2.2 := by
  intro x hx
  refine ⟨7, st { awake with mbx := [(x.2.1, List.replicate x.2.2.2 ⟨64, 0⟩)] }, ?_, settled_st _ rfl, ?_, reaches_of _ _ _ ?_, ?_⟩ <;>
    · revert x; decide +kernel

/-- The results of those cases, in the order of R415. -/
theorem test_ringResults : (ringCases.map fun x =>
    (tabGet? (after (.mbxRingCommit x.1 x.2.1 x.2.2.1 7) { awake with mbx := [(x.2.1, List.replicate x.2.2.2 ⟨64, 0⟩)] }).ringRes x.1).map (·.1))
      = [some 1, some 2, some 3, some 4, some 0] := by decide +kernel

theorem witness_PopTakesTheHead : ∀ m ∈ [0, 3], ∃ (c : Nat) (s : State), isMaster m = true ∧ c < 64 ∧ s.Settled ∧
    s.dev.reaches m (A.MBX_POP_W0 c) ∧ s.dev.on (L.MBX_BIND_EN c) = true ∧ (s.dev.chan' c).length = 1 := by
  intro m hm
  refine ⟨0, st { awake with mbx := [(0, [⟨64, 9⟩])] }, ?_, by decide, settled_st _ rfl, reaches_of _ _ _ ?_, by decide +kernel, by decide⟩ <;>
    · revert m; decide +kernel

theorem witness_FailedPowerUp : (∃ (n : Nat) (s : State), n < 96 ∧ neverOff n = false ∧ s.Settled ∧ s.dev.asleep = 0 ∧ s.dev.domState n = 1 ∧
      s.dev.stalled = [] ∧ s.dev.dmaStall = none ∧
      (∀ k, k = 4 ∨ k = 7 → s.dev.voted k 20 = (List.range 72).any fun j => s.dev.domState (24 + j) != 0)) ∧
    (∃ (m n : Nat) (s : State), m < 16 ∧ n < 96 ∧ neverOff n = false ∧ s.Settled ∧ s.dev.asleep = 0 ∧ s.dev.domState n = 0 ∧
      s.dev.voted n m = false ∧ s.dev.dfail.contains n = true ∧ s.dev.reaches m (A.PWR_VSET n)) ∧
    (∃ (m n : Nat) (s : State), m < 16 ∧ n < 96 ∧ neverOff n = false ∧ s.Settled ∧ s.dev.asleep = 0 ∧ s.dev.domState n = 0 ∧
      s.dev.voted n m = true ∧ s.dev.reaches m (A.PWR_VCLR n)) := by
  refine ⟨⟨95, st (depVotes (setDom 95 1 awake)), by decide, by decide, settled_st _ (by decide +kernel), by decide +kernel, by decide +kernel,
      by decide +kernel, by decide +kernel, ?_⟩,
    ⟨15, 4, st { awake with dfail := [4] }, by decide, by decide, by decide, settled_st _ rfl, by decide +kernel, by decide +kernel,
      by decide +kernel, by decide, reaches_of _ _ _ (by decide +kernel)⟩,
    ⟨2, 40, st (awake.set (L.PWR_DSTAT_VOTES 40) 4), by decide, by decide, by decide, settled_st _ rfl, by decide +kernel, by decide +kernel,
      by decide +kernel, reaches_of _ _ _ (by decide +kernel)⟩⟩
  rintro k (rfl | rfl) <;> decide +kernel

theorem witness_VotesStayWithTheirOwners : (∃ (m n bits b : Nat) (s : State), isMaster m = true ∧ n < 96 ∧ neverOff n = false ∧ n ≠ 4 ∧ n ≠ 7 ∧
      bits < 2 ^ 23 ∧ b < 23 ∧ s.Settled ∧ s.dev.reaches m (A.PWR_VSET n) ∧ (ownVotes m false).contains b = false ∧
      (ownVotes m true).contains b = false) ∧
    ∃ (n : Nat) (s : State), 9 ≤ n ∧ n < 24 ∧ s.Settled ∧ s.dev.asleep = 0 ∧ s.dev.domState n = 3 :=
  ⟨⟨16, 9, 2 ^ 23 - 1, 0, st awake, by decide, by decide, by decide, by decide, by decide, by decide, by decide, settled_st _ rfl,
      reaches_of _ _ _ (by decide +kernel), by decide, by decide⟩,
    ⟨23, st (setDom 23 3 awake), by decide, by decide, settled_st _ rfl, by decide +kernel, by decide +kernel⟩⟩

/-- Every vote bit written by a host and by Bead 15: each changes only its own (R488). -/
theorem test_votes : ((after (.pwrVsetWrite 16 40 (2 ^ 23 - 1)) awake).votes 40, (after (.pwrVsetWrite 15 40 (2 ^ 23 - 1)) awake).votes 40)
    = (2 ^ 16, 2 ^ 15 + 2 ^ 18) := by decide +kernel

theorem witness_ClockLockSequence : (∃ s : State, s.Settled ∧ s.dev.mstate = 1) ∧ (∃ s : State, s.Settled ∧ s.dev.mstate = 7) ∧
    (∃ s : State, s.Settled ∧ s.dev.mstate = 0 ∧ s.dev.domState 5 ≠ 2) ∧ ∃ s : State, s.Settled ∧ s.dev.coldHeld = false ∧ s.dev.domState 5 = 2 :=
  ⟨⟨st (awake.set L.CLK_STAT_MSTATE 1), settled_st _ rfl, by decide +kernel⟩, ⟨st (awake.set L.CLK_STAT_MSTATE 7), settled_st _ rfl, by decide +kernel⟩,
    ⟨st (awake.set L.PWR_SSTAT_SSTATE 2), settled_st _ rfl, by decide +kernel, by decide +kernel⟩, ⟨st (awake), settled_st _ rfl, by decide +kernel, by decide +kernel⟩⟩

theorem witness_AuxOffsetMovesToTarget : ∃ s : State, s.Settled ∧
    (s.dev.getS L.CLK_AUX_OFFSET_TARGET - s.dev.getS L.CLK_AUX_APPLIED_APPLIED).natAbs > 50000 :=
  ⟨st (awake.set L.CLK_AUX_OFFSET_TARGET (2 ^ 32 - 60000)), settled_st _ rfl, by decide +kernel⟩

/-- 0.06 ppm below the offset in force: one step of 0.05 ppm (R104). -/
theorem test_auxStep : (after .auxOffsetStep (awake.set L.CLK_AUX_OFFSET_TARGET (2 ^ 32 - 60000))).getS L.CLK_AUX_APPLIED_APPLIED = -50000 := by
  decide +kernel

theorem witness_OverrangeIsCounted : ∃ (n : Nat) (s : State), n < 72 ∧ s.Settled := ⟨71, st awake, by decide, settled_st _ rfl⟩

/-- The overrange counter stays at its top (RXADC_OVR_CNT). -/
theorem test_overrangeSaturates : (after (.sampleOverrange 71) (awake.set (L.RXADC_OVR_CNT_COUNT 71) (2 ^ 32 - 1))).get (L.RXADC_OVR_CNT_COUNT 71)
    = 2 ^ 32 - 1 := by decide +kernel

/-- Converters of path 63 in BIAS during an outage, with a mute ramp up. -/
def biasing : Device :=
  let d := (awake.set (L.RXADC_STAT_STATE 63) 1).set (L.TXDAC_STAT_STATE 63) 1
  { d with
    clk := { d.clk with outage := true }
    tx := [(63, { d.txc 63 with ramp := some ⟨true, 0, 0, 16⟩ })] }

theorem witness_ConverterBiasAndRamp : (∃ (p : Nat) (s : State), p < 64 ∧ s.Settled ∧ s.dev.rxState p ≠ 1 ∧ s.dev.txState p ≠ 1 ∧
      (s.dev.txc p).ramp = none) ∧
    (∃ (p : Nat) (s : State) (r : MuteRamp), p < 64 ∧ s.Settled ∧ s.dev.rxState p = 1 ∧ s.dev.clk.outage = true ∧
      (s.dev.txc p).ramp = some r ∧ r.ended s.dev.laneNow = false ∧ s.dev.laneNow ≠ r.start) ∧
    ∃ (p : Nat) (s : State) (r : MuteRamp), p < 64 ∧ s.Settled ∧ (s.dev.txc p).ramp = some r ∧ r.ended s.dev.laneNow = true :=
  ⟨⟨63, st awake, by decide, settled_st _ rfl, by decide +kernel, by decide +kernel, by decide +kernel⟩,
    ⟨63, st { biasing with ticks := 2 }, ⟨true, 0, 0, 16⟩, by decide, settled_st _ rfl, by decide +kernel, by decide +kernel,
      by decide +kernel, by decide +kernel, by decide +kernel⟩,
    ⟨63, st { biasing with ticks := 40 }, ⟨true, 0, 0, 16⟩, by decide, settled_st _ rfl, by decide +kernel, by decide +kernel⟩⟩

theorem witness_ConverterBiasWhileClocked : ∃ (p : Nat) (s : State), p < 64 ∧ s.Settled ∧ s.dev.txState p = 1 ∧ s.dev.txStopped = false :=
  ⟨5, st { (lit.set (L.TXDAC_STAT_STATE 5) 1).set L.CLK_STAT_MSTATE 4 with clk := { awake.clk with outage := false } }, by decide,
    settled_st _ rfl, by decide +kernel, by decide +kernel⟩

/-- WCH15 on converter 0, running with a quiet input, its thresholds about the floor of the power; and the converter off. -/
def listening (conv : Nat) : Device :=
  ((((awake.set (L.CH_STAT_STATE 632) 1).set (L.CH_FTHR_HI 632) 100).set (L.CH_FTHR_LO 632) (2 ^ 16 - 9000)).set
    (L.RXADC_STAT_STATE 0) conv).setChn 632 { awake.chn 632 with cfg := 0x80410001 }

theorem witness_InvalidPowerWindow :
    (∃ (p j : Nat) (s : State), (Instr.coarsePowerWindow p j).wf = true ∧ s.Settled ∧ s.dev.coarseValid p j = false) ∧
    (∃ (k : Nat) (s : State), isChain k = true ∧ isDuc k = false ∧ s.Settled ∧ s.dev.fineValid k = false) ∧
    ∃ (k : Nat) (s : State), isChain k = true ∧ isDuc k = false ∧ s.Settled ∧ s.dev.fineValid k = true ∧
      s.dev.get (L.CH_STAT_STATE k) = 1 ∧ (s.dev.chn k).hiOn = false ∧ (s.dev.chn k).loOn = false ∧
      powerClamp (meanDb ((s.dev.fineSamples k).map (·.1))) < s.dev.getS (L.CH_FTHR_HI k) ∧
      s.dev.getS (L.CH_FTHR_LO k) < powerClamp (meanDb ((s.dev.fineSamples k).map (·.1))) :=
  ⟨⟨63, 15, st lit, by decide, settled_st _ rfl, by decide +kernel⟩,
    ⟨632, st (listening 0), by decide, by decide, settled_st _ rfl, by decide +kernel⟩,
    ⟨632, st (listening 3), by decide, by decide, settled_st _ rfl, by decide +kernel, by decide +kernel, by decide +kernel, by decide +kernel,
      by decide +kernel, by decide +kernel⟩⟩

theorem witness_RampOfLengthZeroSteps : ∃ (m dir e target : Nat) (s : State), m < 16 ∧ dir < 2 ∧ e < 64 ∧ target < 2 ∧ s.Settled ∧
    s.dev.reaches m (A.BM_ERAMP dir e) ∧ (∀ p, p < 64 → s.dev.pathState p = 0 ∧ (s.dev.pathc p).outWait = false) :=
  ⟨1, 1, 63, 0, st lit, by decide, by decide, by decide, by decide, settled_st _ rfl, reaches_of _ _ _ (by decide +kernel), by decide +kernel⟩

theorem witness_BankChangeRequests : ∃ (m mode fade target start : Nat) (o : XfObj) (s : State), m < 16 ∧ (∀ p, o ≠ .dpd p) ∧
    (Instr.xfRequest m o mode fade target start).wf = true ∧ s.Settled ∧ s.dev.reaches m (xfReqAddr o) ∧ 8 < fade :=
  ⟨1, 1, 9, 1, 65535, .wch 15, st lit, by decide, (by intro p h; cases h), by decide, settled_st _ rfl, reaches_of _ _ _ (by decide +kernel),
    by decide⟩

theorem witness_TunerFifo : ∀ n ∈ [0, 15, 16], ∃ (m k w u : Nat) (s : State), m < 16 ∧ k < 8 ∧ w < 4 ∧ w ≠ 3 ∧ u < 8 ∧ s.Settled ∧
    s.dev.reaches m (A.TUN_PUSH k) ∧ (tabGet s.dev.tuners [] k).length = n := by
  intro n hn
  refine ⟨1, 7, 2, 7, st { lit with tuners := [(7, List.replicate n ⟨1, 0, 0, none⟩)] }, by decide, by decide, by decide, by decide, by decide,
    settled_st _ rfl, reaches_of _ _ _ ?_, ?_⟩ <;>
    · revert n; decide +kernel

theorem witness_HeldPilotAndRearm : (∃ (m reg value : Nat) (s : State), m < 16 ∧ reg < 3 ∧ value < 2 ^ 32 ∧ s.Settled ∧
      s.dev.get L.CAL_RSTAT_STATE ≠ 0 ∧ s.dev.reaches m A.CAL_PILOT) ∧
    ∃ (m p : Nat) (s : State), m < 16 ∧ p < 64 ∧ s.Settled ∧ s.dev.dmpState p ≠ 3 ∧ s.dev.reaches m A.DMP_REARM :=
  ⟨⟨1, 2, 2 ^ 32 - 1, st (lit.set L.CAL_RSTAT_STATE 2), by decide, by decide, by decide, settled_st _ rfl, by decide +kernel,
      reaches_of _ _ _ (by decide +kernel)⟩,
    ⟨1, 63, st lit, by decide, by decide, settled_st _ rfl, by decide +kernel, reaches_of _ _ _ (by decide +kernel)⟩⟩

theorem witness_CapturesAndPulses : (∀ n ∈ [0, 7, 8], ∃ (i : Nat) (s : State), i < 2 ∧ s.Settled ∧ s.dev.on (L.TCAP_CFG_EN i) = true ∧
      s.dev.tickRuns = true ∧ 2 ≤ s.dev.get (L.TCAP_CFG_EDGE i) ∧ (s.dev.caps i).length = n) ∧
    ∃ (k : Nat) (s : State), k < 8 ∧ s.Settled ∧ (s.dev.pulse k).next = none := by
  refine ⟨?_, ⟨7, st awake, by decide, settled_st _ rfl, by decide⟩⟩
  intro n hn
  refine ⟨1, st (setCaps 1 (List.replicate n []) ((awake.set (L.TCAP_CFG_EN 1) 1).set (L.TCAP_CFG_EDGE 1) 2)), by decide, settled_st _ rfl, ?_, ?_,
    ?_, ?_⟩ <;>
    · revert n; decide +kernel

theorem witness_StampsAndScrubbing : ∃ (s : State) (i o : Nat), s.Settled ∧ i < 9 ∧ (Instr.stampBroadcast i).wf = true ∧ s.dev.tickRuns = true ∧
    (Instr.scrubCheck (.sram o) 1).wf = true :=
  ⟨st awake, 8, 0x1FFFFF8, settled_st _ rfl, by decide, by decide, rfl, by decide⟩

/-- Every channel bound with sender PCIE and receiver Bead 0 or 1. -/
def bound : Device := (List.range 64).foldl (fun d k => d.wr (A.MBX_BIND k) (2 ^ 31 + 16 * 2 ^ 8 + k % 2)) awake

/-- A doorbell at offset 0 of the first channel, its block a SYS_INFO with SEQ 7 that the channel's record already has. -/
def repeated : State :=
  { st { bound with mbx := [(0, [⟨0, 9⟩])], cmdRecs := [(0, ⟨7, 0, stOK, 0, 16⟩)] } with
    mem := memPutAll [] [(0x10000003, 1), (0x10000004, 7)] }

theorem witness_CommandRecordAnswersARepeat : ∃ (s : State) (c : Cmd) (r : CmdRec), s.Settled ∧ s.dev.cmdWaits = [] ∧ s.dev.laters = [] ∧
    (∀ n x, headCmd n s.mem s.dev = some x → n = 0 ∧ x = c) ∧ headCmd 0 s.mem s.dev = some c ∧ c.op = 0x0100 ∧ c.sender ≠ 19 ∧
    (∀ k, k < 64 → s.dev.get (L.MBX_BIND_SENDER k) ≠ 0) ∧ tabGet? s.dev.cmdRecs c.chan = some r ∧ r.seq = c.seq ∧ r.off = c.off := by
  have hc : headCmd 0 repeated.mem repeated.dev = some ⟨0, 0, 16, 0, 9, 0, 7, 0x0100, 0⟩ := by decide +kernel
  refine ⟨repeated, ⟨0, 0, 16, 0, 9, 0, 7, 0x0100, 0⟩, ⟨7, 0, stOK, 0, 16⟩, ⟨by decide +kernel, by decide +kernel⟩, by decide +kernel,
    by decide +kernel, ?_, hc, rfl, by decide, by decide +kernel, by decide +kernel, rfl, rfl⟩
  intro n x h
  have hn : n = 0 := by
    unfold headCmd at h
    cases hk : repeated.dev.nextChan n with
    | none => simp [hk] at h
    | some c =>
      unfold Device.nextChan at hk
      split at hk
      · cases hk
      · have hp := List.find?_some hk
        simp only [Bool.and_eq_true, beq_iff_eq] at hp
        have hc0 : c = 0 := by
          by_cases hne : c = 0
          · exact hne
          exfalso
          have : repeated.dev.chan' c = [] := by
            show tabGet [(0, [(⟨0, 9⟩ : Doorbell)])] [] c = []
            simp [tabGet, tabGet?, Ne.symm hne]
          simp [this] at hp
        subst hc0
        exact hp.1.1.2.symm.trans (by decide +kernel)
  subst hn
  rw [hc] at h
  exact ⟨rfl, (Option.some.inj h).symm⟩

theorem witness_QueueLevelSaturates : (∃ (m q delta : Nat) (s : State), m < 16 ∧ q < 8 ∧ delta < 2 ^ 21 ∧ s.Settled ∧ s.dev.dma = [] ∧
      s.dev.reaches m (A.DMA_QADJ q)) ∧
    (∃ (j : Nat) (s : State), (Instr.pwmPeriodStart j).wf = true ∧ s.Settled ∧ s.dev.monPowered = true) ∧
    ∃ (j : Nat) (s : State), (Instr.pwmPeriodStart j).wf = true ∧ s.Settled ∧ s.dev.monPowered = false :=
  ⟨⟨1, 7, 2 ^ 20, st awake, by decide, by decide, by decide, settled_st _ rfl, rfl, reaches_of _ _ _ (by decide +kernel)⟩,
    ⟨3, st awake, by decide, settled_st _ rfl, by decide +kernel⟩, ⟨3, State.reset, by decide, settled_st _ rfl, by decide +kernel⟩⟩

/-- LEVEL 0xFFFFE and adjustments of −1, +5 and −2^20 (R462). -/
theorem test_queueLevel : ([0x1FFFFF, 5, 0x100000].map fun x =>
    (after (.dmaQadjWrite 3 2 x) (awake.set (L.DMA_QLVL_LEVEL 2) 0xFFFFE)).get (L.DMA_QLVL_LEVEL 2)) = [0xFFFFD, 0xFFFFF, 0] := by decide +kernel

theorem witness_WarmResetForgets : ∀ cause ∈ [4, 5, 6], ∃ s : State, (Instr.warmReset cause).wf = true ∧ s.Settled ∧ s.dev.mbx ≠ [] := by
  intro c hc
  refine ⟨st { awake with mbx := [(0, [⟨64, 9⟩])] }, ?_, settled_st _ rfl, by decide⟩
  revert c; decide

theorem witness_LinkLossEmptiesThePort : ∃ (q sig : Nat) (s t : State), (Instr.linkDown q sig).wf = true ∧ s.Settled ∧ s.dev.link q = 3 ∧
    t.Settled ∧ t.dev.link q < 2 :=
  ⟨1, 255, st (awake.set (L.FH_PSTAT_LSTATE 1) 3), st awake, by decide, settled_st _ rfl, by decide +kernel, settled_st _ rfl, by decide +kernel⟩

theorem witness_ColdResetLeaves : ∀ g : Bool, ∃ s : State, s.Settled ∧ s.dev.on L.SYS_LOCK_LOCK = true ∧ s.dev.boot.g1 = g :=
  fun g => ⟨st { awake.set L.SYS_LOCK_LOCK 1 with boot := { awake.boot with g1 := g } }, settled_st _ rfl, by revert g; decide +kernel, rfl⟩

theorem witness_SleepEnter : ∃ (e : Nat) (s : State), (Instr.sleepEnterDone e).wf = true ∧ s.dev.step' = 6 ∧ s.dev.sleep.target = 3 :=
  ⟨5, st { awake.set L.PWR_SSTAT_STEP 6 with sleep := { awake.sleep with target := 3 } }, by decide, by decide +kernel, by decide⟩

/-! ## Examples from the spec -/

/-- The block of chapter 14 with M = 9: E = 5, and what two of its values become and return as (R345). -/
theorem test_compression : (blockExp 9 [5000, -3003], shrink 5000 4, shrink 5000 5, shrink (-3003) 5, decompress 156 5, decompress (-94) 5)
    = (5, 313, 156, -94, 4992, -3008) := by decide +kernel

/-- Asleep since Ember count 0, LOCKED with UNC 40 ns, the crystal 12 ppm slow (chapter 15). -/
def slept : Device :=
  let d := (((awake.set L.EMB_PERIOD_W0_FRAC 0xF1C00000).set L.EMB_PERIOD_W1_NS 0x7735).set L.TIME_UNCRATE_EMB_UNC 2000)
  { d with tctl := { d.tctl with saved := some ⟨0, 0, 2, 40, d.tctl.inc, none, 2000, 0⟩ } }

/-- 589,824,000 cycles later: 18,000.216 s have passed, UNC is 36,000,481 ns and VSTATE is COASTED (R382). -/
theorem test_sleepBridge : (let d := after (.timeBridgeLoad 589824000) slept
    (d.tai, d.get L.TIME_UNC_UNC, d.get L.TIME_STAT_VSTATE)) = (18000216000000, 36000481, 4) := by decide +kernel

/-- N = 1 and K = 768 leave CLK_AUXDIV as it was and raise DIV_ERR; 2 and 767 take effect (R103). -/
theorem test_auxdiv : ([(0, 1), (768, 2), (767, 2)].map fun x =>
    let d := after (.clkAuxdivWrite 0 4 x.1 x.2) awake
    (d.get (L.CLK_AUXDIV_N 4), d.get (L.CLK_AUXDIV_K 4), d.on L.CLK_EVENT_DIV_ERR)) = [(96, 0, true), (96, 0, true), (2, 767, false)] := by
  decide +kernel

/-- An increment 220 ppm above nominal is refused with INC_ERR, one 198 ppm above is not (R362). -/
theorem test_timeInc : ([17479730000, 17480120000].map fun x =>
    (after (.timeIncWrite 14 x) awake).on L.TIME_EVENT_INC_ERR) = [false, true] := by decide +kernel

/-- A Bead pops the head; another master's read and one of an empty channel remove nothing (R417). -/
theorem test_pop : ([(0, [(⟨128, 9⟩ : Doorbell), ⟨64, 1⟩]), (1, [⟨128, 9⟩]), (0, [])].map fun x =>
    let d := after (.mbxPopRead x.1 0 4) { awake with mbx := [(0, x.2)] }
    (d.reply.map (·.data), (d.chan' 0).length)) = [(some 128, 1), (some 128, 1), (some 0, 0)] := by decide +kernel

/-- A host write to SYS_FW_PRIV changes no field, is counted, and its address is kept (R62). -/
theorem test_hostWrite : (let d := after (.registerWrite 16 A.SYS_FW_PRIV 4 0) awake
    (d.get L.SYS_FW_PRIV_TOP, d.get L.SYS_HOSTVIOL_COUNT, d.get L.SYS_HOSTVIOL_LAST_MASTER, d.rd A.SYS_HOSTVIOL_ADDR)) = (0x100, 1, 16, 0x20) := by
  decide +kernel

/-- A read between two blocks answers 0 with no bus error (R47). -/
theorem test_uncovered : (after (.registerRead 16 0xD0000 4) awake).reply = some ⟨16, 0xD0000, 0, false⟩ := by decide +kernel

/-- An entry that names a reserved identity with EN = 1 is refused; Bead 0 may write others, Bead 1 none (R412). -/
theorem test_bind : ([(0, 23), (0, 5), (1, 5)].map fun x =>
    let d := after (.mbxBindWrite x.1 9 1 16 x.2) awake
    (d.get (L.MBX_BIND_RECV 9), d.on (L.MBX_EVENT_BIND_ERR x.1))) = [(0, true), (5, false), (0, true)] := by decide +kernel

/-- A 4-byte write lies in memory least significant byte first (R11). -/
theorem test_littleEndian : (memAfter (.memoryWindowWrite 0 0x10000010 4 0x04030201) awake)
    = [(0x10000010, 1), (0x10000011, 2), (0x10000012, 3), (0x10000013, 4)] := by decide +kernel

/-- A write of 0 to a byte that nothing has written lists nothing: the form of memory is canonical (log 2). -/
theorem test_canonicalMemory : memAfter (.memoryWindowWrite 0 0x10000010 4 0x00000200) awake = [(0x10000011, 2)] := by decide +kernel

/-- A clear of an event bit by writing 1 leaves the others (R22). -/
theorem test_writeOneToClear : (let d := after (.registerWrite 0 (A.RXADC_EVENT 0) 4 1) (lit.wr (A.RXADC_EVENT 0) 3)
    bitsOf (d.rd (A.RXADC_EVENT 0)) 0 2) = 2 := by decide +kernel


/-! ## Operands -/

/-- Every Architecture command with operands that exist is well-formed (O: the family statement). -/
theorem test_wellFormedArchitecture : ([
    .registerWrite 0 0x10 4 1, .wideReadLowWord 0 0, .wideWriteHeld 0 0 0, .memoryWindowWrite 0 0x10000000 4 1,
    .lockBitSet 0 0, .hostviolClr 0, .laneBlockBoundary [], .gridSymbolBoundary 0 0 0,
    .xfRequest 0 (.beam 0) 0 0 0 0, .xfCancel 0 (.beam 0), .obsCaptureGrant 0, .registerRead 0 0 4] : List Instr).all Instr.wf = true := by decide

/-- Operands that name nothing, or do not fit, are refused. -/
theorem test_illFormedArchitecture : (([
    .registerWrite 99999999999999999999 0x10 4 1, .registerWrite 0 99999999999999999999 4 1,
    .registerWrite 0 0x10 99999999999999999999 1, .registerWrite 0 0x10 4097 1, .registerWrite 0 0x10 0 1,
    .registerWrite 0 0x10 4 99999999999999999999, .wideReadLowWord 99999999999999999999 0,
    .wideReadLowWord 0 99999999999999999999, .wideWriteHeld 99999999999999999999 0 0,
    .wideWriteHeld 0 99999999999999999999 0, .wideWriteHeld 0 0 99999999999999999999,
    .memoryWindowWrite 99999999999999999999 0x10000000 4 1, .memoryWindowWrite 0 99999999999999999999 4 1,
    .memoryWindowWrite 0 3 4 1, .memoryWindowWrite 0 0 4 1, .memoryWindowWrite 0 0x10000000 99999999999999999999 1,
    .memoryWindowWrite 0 0x10000000 4097 1, .memoryWindowWrite 0 0x10000000 0 1,
    .memoryWindowWrite 0 0x10000000 4 99999999999999999999, .lockBitSet 99999999999999999999 0,
    .lockBitSet 0 99999999999999999999, .hostviolClr 99999999999999999999,
    .laneBlockBoundary [⟨72, []⟩], .laneBlockBoundary [⟨0, [8192]⟩], .laneBlockBoundary [⟨0, [-8193]⟩],
    .gridSymbolBoundary 99999999999999999999 0 0, .gridSymbolBoundary 0 99999999999999999999 0,
    .gridSymbolBoundary 0 0 99999999999999999999, .xfRequest 99999999999999999999 (.beam 0) 0 0 0 0,
    .xfRequest 0 (.beam 8) 0 0 0 0, .xfRequest 0 (.dpd 64) 0 0 0 0, .xfRequest 0 (.wch 16) 0 0 0 0,
    .xfRequest 0 (.rxa 72) 0 0 0 0, .xfRequest 0 (.txa 64) 0 0 0 0, .xfRequest 0 (.lane 64) 0 0 0 0,
    .xfRequest 0 (.grid 8) 0 0 0 0, .xfRequest 0 (.beam 0) 99999999999999999999 0 0 0,
    .xfRequest 0 (.beam 0) 0 99999999999999999999 0 0, .xfRequest 0 (.beam 0) 0 0 99999999999999999999 0,
    .xfRequest 0 (.beam 0) 0 0 0 99999999999999999999, .xfCancel 99999999999999999999 (.beam 0),
    .xfCancel 0 (.beam 8), .xfCancel 0 (.dpd 64), .xfCancel 0 (.wch 16), .xfCancel 0 (.rxa 72),
    .xfCancel 0 (.txa 64), .xfCancel 0 (.lane 64), .xfCancel 0 (.grid 8), .obsCaptureGrant 99999999999999999999,
    .registerRead 99999999999999999999 0 4, .registerRead 0 99999999999999999999 4,
    .registerRead 0 0 99999999999999999999, .registerRead 0 0 4097, .registerRead 0 0 0] : List Instr).all fun i => !i.wf) = true := by decide

/-- Every Rail command with operands that exist is well-formed (O: the family statement). -/
theorem test_wellFormedRail : ([
    .railG1Valid, .porstNAssert, .railUndervoltage, .emberRailLoss, .railResetRelease, .thermalTrip,
    .thermalTripClear, .thermalReset, .thermalResetRelease, .pcieLinkUp] : List Instr).all Instr.wf = true := by decide

/-- Every Clock command with operands that exist is well-formed (O: the family statement). -/
theorem test_wellFormedClock : ([
    .mdllBandChosen 0, .bandEdge 0, .clkRelockWrite 0, .clkRealignWrite 0, .convLpWrite 0 0, .jumpMeasured 0,
    .clkAuxdivWrite 0 0 0 0, .auxOffsetWrite 0 0, .clkOutWrite 0 0 0, .clkCountClr 0, .refFreqMeasurement 0,
    .mdllLockSet, .mdllUnlock, .mdllLockFail, .dblLockSet, .dblUnlock, .alignmentStrobe, .refMissingEdge,
    .refQualifiedReturn, .coastExpired, .slewComplete, .fhrefclkQualified, .fhrefclkMissing, .auxOffsetStep,
    .auxLockSet, .auxUnlock] : List Instr).all Instr.wf = true := by decide

/-- Operands that name nothing, or do not fit, are refused. -/
theorem test_illFormedClock : (([
    .mdllBandChosen 99999999999999999999, .bandEdge 99999999999999999999, .clkRelockWrite 99999999999999999999,
    .clkRealignWrite 99999999999999999999, .convLpWrite 99999999999999999999 0,
    .convLpWrite 0 99999999999999999999, .jumpMeasured (-99999999999), .jumpMeasured 99999999999,
    .clkAuxdivWrite 99999999999999999999 0 0 0, .clkAuxdivWrite 0 99999999999999999999 0 0,
    .clkAuxdivWrite 0 0 99999999999999999999 0, .clkAuxdivWrite 0 0 0 99999999999999999999,
    .auxOffsetWrite 99999999999999999999 0, .auxOffsetWrite 0 99999999999999999999,
    .clkOutWrite 99999999999999999999 0 0, .clkOutWrite 0 99999999999999999999 0,
    .clkOutWrite 0 0 99999999999999999999, .clkCountClr 99999999999999999999, .refFreqMeasurement (-99999999999),
    .refFreqMeasurement 99999999999] : List Instr).all fun i => !i.wf) = true := by decide

/-- Every Receive command with operands that exist is well-formed (O: the family statement). -/
theorem test_wellFormedReceive : ([
    .rxadcEnSet 0 0, .rxadcEnClear 0 0, .rxadcBiasDone 0, .rxadcZoneWrite 0 0 0, .zoneSettlingEnd 0,
    .rxadcRotEnWrite 0 0 0, .rxadcDsaWrite 0 0 0 0 0, .dsaApply 0, .sampleOverrange 0, .spareRetargetDone 0,
    .sliceHandover 0 0 0 0 0 0, .dwellStart 0, .sliceCheckFail 0 0, .sliceStuck 0 0, .handoverCheckFail 0,
    .sliceTakeover 0 0, .obsSelWrite 0 0 0, .obsSettlingEnd 0] : List Instr).all Instr.wf = true := by decide

/-- Operands that name nothing, or do not fit, are refused. -/
theorem test_illFormedReceive : (([
    .rxadcEnSet 99999999999999999999 0, .rxadcEnSet 0 99999999999999999999, .rxadcEnClear 99999999999999999999 0,
    .rxadcEnClear 0 99999999999999999999, .rxadcBiasDone 99999999999999999999,
    .rxadcZoneWrite 99999999999999999999 0 0, .rxadcZoneWrite 0 99999999999999999999 0,
    .rxadcZoneWrite 0 0 99999999999999999999, .zoneSettlingEnd 99999999999999999999,
    .rxadcRotEnWrite 99999999999999999999 0 0, .rxadcRotEnWrite 0 99999999999999999999 0,
    .rxadcRotEnWrite 0 0 99999999999999999999, .rxadcDsaWrite 99999999999999999999 0 0 0 0,
    .rxadcDsaWrite 0 99999999999999999999 0 0 0, .rxadcDsaWrite 0 0 99999999999999999999 0 0,
    .rxadcDsaWrite 0 0 0 99999999999999999999 0, .rxadcDsaWrite 0 0 0 0 99999999999999999999,
    .dsaApply 99999999999999999999, .sampleOverrange 99999999999999999999, .spareRetargetDone 99999999999999999999,
    .sliceHandover 99999999999999999999 0 0 0 0 0, .sliceHandover 0 0 0 0 0 99999999999999999999,
    .dwellStart 99999999999999999999, .sliceCheckFail 99999999999999999999 0,
    .sliceCheckFail 0 99999999999999999999, .sliceStuck 99999999999999999999 0, .sliceStuck 0 99999999999999999999,
    .handoverCheckFail 99999999999999999999, .sliceTakeover 99999999999999999999 0,
    .sliceTakeover 0 99999999999999999999, .obsSelWrite 99999999999999999999 0 0,
    .obsSelWrite 0 99999999999999999999 0, .obsSelWrite 0 0 99999999999999999999,
    .obsSettlingEnd 99999999999999999999] : List Instr).all fun i => !i.wf) = true := by decide

/-- Every Transmit command with operands that exist is well-formed (O: the family statement). -/
theorem test_wellFormedTransmit : ([
    .txdacEnSet 0 0, .txdacEnClear 0 0, .txdacBiasDone 0, .txdacCalDone 0, .txdacNcoCommit 0 0 0 0,
    .txdacMuteWrite 0 0 0, .muteRampDone 0, .segmentFault 0 0 1, .segmentSweepStep 0 0 true, .segmentExclude 0,
    .guardWindow 0 true, .segmentSwapDone 0, .gwWaitTimeout 0, .txCodeClip 0 32300] : List Instr).all Instr.wf = true := by decide

/-- Operands that name nothing, or do not fit, are refused. -/
theorem test_illFormedTransmit : (([
    .txdacEnSet 99999999999999999999 0, .txdacEnSet 0 99999999999999999999, .txdacEnClear 99999999999999999999 0,
    .txdacEnClear 0 99999999999999999999, .txdacBiasDone 99999999999999999999, .txdacCalDone 99999999999999999999,
    .txdacNcoCommit 99999999999999999999 0 0 0, .txdacNcoCommit 0 99999999999999999999 0 0,
    .txdacNcoCommit 0 0 99999999999999999999 0, .txdacNcoCommit 0 0 0 99999999999999999999,
    .txdacMuteWrite 99999999999999999999 0 0, .txdacMuteWrite 0 99999999999999999999 0,
    .txdacMuteWrite 0 0 99999999999999999999, .muteRampDone 99999999999999999999,
    .segmentFault 99999999999999999999 0 1, .segmentFault 0 99999999999999999999 1,
    .segmentFault 0 0 99999999999999999999, .segmentFault 0 0 0, .segmentSweepStep 99999999999999999999 0 true,
    .segmentSweepStep 0 99999999999999999999 true, .segmentExclude 99999999999999999999,
    .guardWindow 99999999999999999999 true, .segmentSwapDone 99999999999999999999,
    .gwWaitTimeout 99999999999999999999, .txCodeClip 0 32768] : List Instr).all fun i => !i.wf) = true := by decide

/-- Every Channel command with operands that exist is well-formed (O: the family statement). -/
theorem test_wellFormedChannel : ([
    .chRxctrWrite 0 0 0, .chChgGo 0 0 0 0, .invalidRunEnd 0, .ducSettlingEnd 0 0, .coarsePowerWindow 0 0,
    .finePowerWindow 0] : List Instr).all Instr.wf = true := by decide

/-- Operands that name nothing, or do not fit, are refused. -/
theorem test_illFormedChannel : (([
    .chRxctrWrite 99999999999999999999 0 0, .chRxctrWrite 0 99999999999999999999 0,
    .chRxctrWrite 0 0 99999999999999999999, .chChgGo 99999999999999999999 0 0 0,
    .chChgGo 0 99999999999999999999 0 0, .chChgGo 0 0 99999999999999999999 0, .chChgGo 0 0 0 99999999999999999999,
    .invalidRunEnd 99999999999999999999, .ducSettlingEnd 99999999999999999999 0,
    .ducSettlingEnd 0 99999999999999999999, .coarsePowerWindow 99999999999999999999 0,
    .coarsePowerWindow 0 16, .finePowerWindow 99999999999999999999] : List Instr).all fun i => !i.wf) = true := by decide

/-- Every Ofdm command with operands that exist is well-formed (O: the family statement). -/
theorem test_wellFormedOfdm : ([
    .halfSubframeBoundary 0, .ofChgGo 0 0 0 0, .ofdmAdmissionResult] : List Instr).all Instr.wf = true := by decide

/-- Operands that name nothing, or do not fit, are refused. -/
theorem test_illFormedOfdm : (([
    .halfSubframeBoundary 99999999999999999999, .ofChgGo 99999999999999999999 0 0 0,
    .ofChgGo 0 99999999999999999999 0 0, .ofChgGo 0 0 99999999999999999999 0, .ofChgGo 0 0 0 99999999999999999999] : List Instr).all fun i => !i.wf) = true := by decide

/-- Every Beam command with operands that exist is well-formed (O: the family statement). -/
theorem test_wellFormedBeam : ([
    .bmChgGo 0 0 0 0, .symbolCommitPoint 0 0 0, .dlSymbolCompute 0 0 0, .rodLocatedFault 0 0 0 [],
    .beamReplayDone 0 0 0, .checkUnlocated 0 0 0 [⟨0, 5, 0, 1, 0⟩], .spareRodMismatch 0 64 0 0 ⟨0, 0, 0, 1, 0⟩ [], .bmErampGo 0 0 0 0 0] : List Instr).all Instr.wf = true := by decide

/-- Operands that name nothing, or do not fit, are refused. -/
theorem test_illFormedBeam : (([
    .bmChgGo 99999999999999999999 0 0 0, .bmChgGo 0 99999999999999999999 0 0, .bmChgGo 0 0 99999999999999999999 0,
    .bmChgGo 0 0 0 99999999999999999999, .symbolCommitPoint 99999999999999999999 0 0,
    .symbolCommitPoint 0 99999999999999999999 0, .symbolCommitPoint 0 0 99999999999999999999,
    .dlSymbolCompute 99999999999999999999 0 0, .dlSymbolCompute 0 99999999999999999999 0,
    .dlSymbolCompute 0 0 99999999999999999999, .rodLocatedFault 99999999999999999999 0 0 [],
    .rodLocatedFault 0 99999999999999999999 0 [], .rodLocatedFault 0 0 99999999999999999999 [],
    .rodLocatedFault 0 0 0 [⟨0, 67, 0, 1, 0⟩], .beamReplayDone 99999999999999999999 0 0,
    .beamReplayDone 0 99999999999999999999 0, .beamReplayDone 0 0 99999999999999999999,
    .checkUnlocated 99999999999999999999 0 0 [], .checkUnlocated 0 99999999999999999999 0 [],
    .checkUnlocated 0 0 99999999999999999999 [], .checkUnlocated 0 0 0 [⟨3300, 0, 0, 1, 0⟩],
    .spareRodMismatch 99999999999999999999 64 0 0 ⟨0, 0, 0, 1, 0⟩ [],
    .spareRodMismatch 0 99999999999999999999 0 0 ⟨0, 0, 0, 1, 0⟩ [], .spareRodMismatch 0 0 0 0 ⟨0, 0, 0, 1, 0⟩ [],
    .spareRodMismatch 0 64 99999999999999999999 0 ⟨0, 0, 0, 1, 0⟩ [],
    .spareRodMismatch 0 64 0 99999999999999999999 ⟨0, 0, 0, 1, 0⟩ [],
    .spareRodMismatch 0 64 0 0 ⟨0, 0, 32, 1, 0⟩ [], .spareRodMismatch 0 64 0 0 ⟨0, 0, 0, 1, 0⟩ [⟨0, 0, 0, 2 ^ 47, 0⟩], .bmErampGo 99999999999999999999 0 0 0 0,
    .bmErampGo 0 99999999999999999999 0 0 0, .bmErampGo 0 0 99999999999999999999 0 0,
    .bmErampGo 0 0 0 99999999999999999999 0, .bmErampGo 0 0 0 0 99999999999999999999] : List Instr).all fun i => !i.wf) = true := by decide

/-- Every Predistortion command with operands that exist is well-formed (O: the family statement). -/
theorem test_wellFormedPredistortion : ([
    .dpdEnWrite 0 0 0, .dpdCapreqGo 0 0 0 0, .routineCaptureTick 0, .captureEnd 0,
    .captureResultsReady 0, .captureSlotRelease 0 0 0,
    .dpdTrialGo 0 0 0 0 0 0, .dpdTrialAbort 0 0, .trialHoldoffEnd 0, .trialTimeout 0, .dpdSjobGo 0 0,
    .solverJobDone, .solverJobStart] : List Instr).all Instr.wf = true := by decide

/-- Operands that name nothing, or do not fit, are refused. -/
theorem test_illFormedPredistortion : (([
    .dpdEnWrite 99999999999999999999 0 0, .dpdEnWrite 0 99999999999999999999 0,
    .dpdEnWrite 0 0 99999999999999999999, .dpdCapreqGo 99999999999999999999 0 0 0,
    .dpdCapreqGo 0 99999999999999999999 0 0, .dpdCapreqGo 0 0 99999999999999999999 0,
    .dpdCapreqGo 0 0 0 99999999999999999999, .routineCaptureTick 99999999999999999999,
    .captureEnd 99999999999999999999, .captureResultsReady 99999999999999999999,
    .captureSlotRelease 99999999999999999999 0 0, .captureSlotRelease 0 99999999999999999999 0,
    .captureSlotRelease 0 0 99999999999999999999, .dpdTrialGo 99999999999999999999 0 0 0 0 0,
    .dpdTrialGo 0 99999999999999999999 0 0 0 0, .dpdTrialGo 0 0 99999999999999999999 0 0 0,
    .dpdTrialGo 0 0 0 99999999999999999999 0 0, .dpdTrialGo 0 0 0 0 99999999999999999999 0,
    .dpdTrialGo 0 0 0 0 0 99999999999999999999, .dpdTrialAbort 99999999999999999999 0,
    .dpdTrialAbort 0 99999999999999999999, .trialHoldoffEnd 99999999999999999999,
    .trialTimeout 99999999999999999999, .dpdSjobGo 99999999999999999999 0, .dpdSjobGo 0 99999999999999999999] : List Instr).all fun i => !i.wf) = true := by decide

/-- Every Path command with operands that exist is well-formed (O: the family statement). -/
theorem test_wellFormedPath : ([
    .pathEnSet 0 0, .pathEnClear 0 0, .pathOutGo 0 0 0 0, .pathRetGo 0 0 0 0, .pathFeGo 0 0 0 0,
    .airCfgGo 0 0 0 0 0, .burstCheck 0 0, .burstMuteWithdraw 0, .feProgramEdge 0 0 true, .burstEnd 0,
    .returnTimeout 0, .lnaBypassEnd 0, .coexInputAccepted 0 0 0, .coexStuck 0 0, .coexDelayedEdge 0,
    .coexReqRise 0 0, .tunPushGo 0 0 0 0, .tunerWordStart 0, .tunerWordDone 0, .mismatchInterval 0,
    .mismatchMeasured 0, .pathSrchGo 0 0 0 0 0, .searchSettleEnd 0] : List Instr).all Instr.wf = true := by decide

/-- Operands that name nothing, or do not fit, are refused. -/
theorem test_illFormedPath : (([
    .pathEnSet 99999999999999999999 0, .pathEnSet 0 99999999999999999999, .pathEnClear 99999999999999999999 0,
    .pathEnClear 0 99999999999999999999, .pathOutGo 99999999999999999999 0 0 0,
    .pathOutGo 0 99999999999999999999 0 0, .pathOutGo 0 0 99999999999999999999 0,
    .pathOutGo 0 0 0 99999999999999999999, .pathRetGo 99999999999999999999 0 0 0,
    .pathRetGo 0 99999999999999999999 0 0, .pathRetGo 0 0 99999999999999999999 0,
    .pathRetGo 0 0 0 99999999999999999999, .pathFeGo 99999999999999999999 0 0 0,
    .pathFeGo 0 99999999999999999999 0 0, .pathFeGo 0 0 99999999999999999999 0,
    .pathFeGo 0 0 0 99999999999999999999, .airCfgGo 99999999999999999999 0 0 0 0,
    .airCfgGo 0 99999999999999999999 0 0 0, .airCfgGo 0 0 99999999999999999999 0 0,
    .airCfgGo 0 0 0 99999999999999999999 0, .airCfgGo 0 0 0 0 99999999999999999999,
    .burstCheck 99999999999999999999 0, .burstCheck 0 99999999999999999999,
    .burstMuteWithdraw 99999999999999999999, .feProgramEdge 99999999999999999999 0 true,
    .feProgramEdge 0 99999999999999999999 true, .burstEnd 99999999999999999999,
    .returnTimeout 99999999999999999999, .lnaBypassEnd 99999999999999999999,
    .coexInputAccepted 99999999999999999999 0 0, .coexInputAccepted 0 99999999999999999999 0,
    .coexInputAccepted 0 0 99999999999999999999, .coexStuck 99999999999999999999 0,
    .coexStuck 0 99999999999999999999, .coexDelayedEdge 99999999999999999999, .coexReqRise 99999999999999999999 0,
    .coexReqRise 0 99999999999999999999, .tunPushGo 99999999999999999999 0 0 0,
    .tunPushGo 0 99999999999999999999 0 0, .tunPushGo 0 0 99999999999999999999 0,
    .tunPushGo 0 0 0 99999999999999999999, .tunerWordStart 99999999999999999999,
    .tunerWordDone 99999999999999999999, .mismatchInterval 99999999999999999999,
    .mismatchMeasured 99999999999999999999, .pathSrchGo 99999999999999999999 0 0 0 0,
    .pathSrchGo 0 99999999999999999999 0 0 0, .pathSrchGo 0 0 99999999999999999999 0 0,
    .pathSrchGo 0 0 0 99999999999999999999 0, .pathSrchGo 0 0 0 0 99999999999999999999,
    .searchSettleEnd 99999999999999999999] : List Instr).all fun i => !i.wf) = true := by decide

/-- Every Calibration command with operands that exist is well-formed (O: the family statement). -/
theorem test_wellFormedCalibration : ([
    .calRunGo 0 0 0 0 0, .calRunAbort 0, .calWindowStart, .calPreconditionDone, .calMeasurementDone,
    .calRunEnd ⟨0, 0, 0, 0, [0, 0, 0, 0, 0, 0, 0, 0, 0], 0, 0, [], [], []⟩, .calApplyGo 0 0 0 0, .pilotWrite 0 0 0,
    .calRunStart, .calNoWindow, .bgCalInterval] : List Instr).all Instr.wf = true := by decide

/-- Operands that name nothing, or do not fit, are refused. -/
theorem test_illFormedCalibration : (([
    .calRunGo 99999999999999999999 0 0 0 0, .calRunGo 0 99999999999999999999 0 0 0,
    .calRunGo 0 0 99999999999999999999 0 0, .calRunGo 0 0 0 99999999999999999999 0,
    .calRunGo 0 0 0 0 99999999999999999999, .calRunAbort 99999999999999999999,
    .calRunEnd ⟨65536, 0, 0, 0, [0, 0, 0, 0, 0, 0, 0, 0, 0], 0, 0, [], [], []⟩,
    .calRunEnd ⟨0, 0, 0, 0, [], 0, 0, [], [], []⟩,
    .calRunEnd ⟨0, 0, 0, 0, [0, 0, 0, 0, 0, 0, 0, 0, 0], 0, 0, [⟨8, 0, 0, 0, 0⟩], [], []⟩,
    .calApplyGo 99999999999999999999 0 0 0, .calApplyGo 0 99999999999999999999 0 0,
    .calApplyGo 0 0 99999999999999999999 0, .calApplyGo 0 0 0 99999999999999999999,
    .pilotWrite 99999999999999999999 0 0, .pilotWrite 0 99999999999999999999 0,
    .pilotWrite 0 0 99999999999999999999] : List Instr).all fun i => !i.wf) = true := by decide

/-- Every Damper command with operands that exist is well-formed (O: the family statement). -/
theorem test_wellFormedDamper : ([
    .damperPkBreak 0 (List.replicate 64 (1, -1)), .damperGrantBreak 0 0, .damperCauseClear 0 (List.replicate 64 (0, 0)), .damperCooldownEnd 0,
    .dmpRearmGo 0 0 0, .tripAcceptedHigh 0, .tripAcceptedLow 0, .damperLimitWrite 0 0x90100 0, .txInhibitLow,
    .txInhibitHigh] : List Instr).all Instr.wf = true := by decide

/-- Operands that name nothing, or do not fit, are refused. -/
theorem test_illFormedDamper : (([
    .damperPkBreak 99999999999999999999 (List.replicate 64 (0, 0)), .damperPkBreak 0 [],
    .damperPkBreak 0 (List.replicate 64 (40000, 0)),
    .damperGrantBreak 99999999999999999999 0, .damperGrantBreak 0 99999999999999999999,
    .damperCauseClear 99999999999999999999 (List.replicate 64 (0, 0)), .damperCauseClear 0 (List.replicate 64 (0, -32769)),
    .damperCooldownEnd 99999999999999999999, .dmpRearmGo 99999999999999999999 0 0,
    .dmpRearmGo 0 99999999999999999999 0, .dmpRearmGo 0 0 99999999999999999999,
    .tripAcceptedHigh 99999999999999999999, .tripAcceptedLow 99999999999999999999,
    .damperLimitWrite 99999999999999999999 0x90100 0, .damperLimitWrite 0 99999999999999999999 0,
    .damperLimitWrite 0 0 0, .damperLimitWrite 0 0x90100 99999999999999999999] : List Instr).all fun i => !i.wf) = true := by decide

/-- Every Port command with operands that exist is well-formed (O: the family statement). -/
theorem test_wellFormedPort : ([
    .fhModeWrite 0 0 0 0 0, .linkSignalDetect 0, .linkAligned 0, .linkUp 0, .linkDown 0 0, .linkRemoteFault 0,
    .fecWindow 0 0 0, .frameReceived 0 ⟨[], true, true, 0⟩, .frameTransmit 0, .remoteFaultEnd 0] : List Instr).all Instr.wf = true := by decide

/-- Operands that name nothing, or do not fit, are refused. -/
theorem test_illFormedPort : (([
    .fhModeWrite 99999999999999999999 0 0 0 0, .fhModeWrite 0 99999999999999999999 0 0 0,
    .fhModeWrite 0 0 99999999999999999999 0 0, .fhModeWrite 0 0 0 99999999999999999999 0,
    .fhModeWrite 0 0 0 0 99999999999999999999, .linkSignalDetect 99999999999999999999,
    .linkAligned 99999999999999999999, .linkUp 99999999999999999999, .linkDown 99999999999999999999 0,
    .linkDown 0 99999999999999999999, .linkRemoteFault 99999999999999999999, .fecWindow 99999999999999999999 0 0,
    .fecWindow 0 99999999999999999999 0, .fecWindow 0 0 99999999999999999999,
    .frameReceived 99999999999999999999 ⟨[], true, true, 0⟩, .frameReceived 0 ⟨[], true, true, 2 ^ 120⟩,
    .frameTransmit 99999999999999999999, .remoteFaultEnd 99999999999999999999] : List Instr).all fun i => !i.wf) = true := by decide

/-- Every Framing command with operands that exist is well-formed (O: the family statement). -/
theorem test_wellFormedFraming : ([
    .fdUlDepart 0 0 0, .tdUlDepart ⟨true, 0, 0, 0, 0⟩, .mgtReorderTimeout 0,
    .mgtUlSend 0 0 0, .fdDlMessage, .tdDlMessage, .schedMessage, .weightMessage, .retractMessage, .mgtDlMessage,
    .echoReqMessage, .echoRspReady] : List Instr).all Instr.wf = true := by decide

/-- Operands that name nothing, or do not fit, are refused. -/
theorem test_illFormedFraming : (([
    .fdUlDepart 99999999999999999999 0 0, .fdUlDepart 0 99999999999999999999 0,
    .fdUlDepart 0 0 99999999999999999999, .tdUlDepart ⟨true, 16, 0, 0, 0⟩, .tdUlDepart ⟨false, 64, 0, 0, 0⟩,
    .tdUlDepart ⟨true, 0, 4, 0, 0⟩, .tdUlDepart ⟨true, 0, 0, 1024, 0⟩, .tdUlDepart ⟨true, 0, 0, 0, 2 ^ 24⟩, .mgtReorderTimeout 99999999999999999999,
    .mgtUlSend 99999999999999999999 0 0, .mgtUlSend 0 99999999999999999999 0, .mgtUlSend 0 0 99999999999999999999] : List Instr).all fun i => !i.wf) = true := by decide

/-- Every NetworkTime command with operands that exist is well-formed (O: the family statement). -/
theorem test_wellFormedNetworkTime : ([
    .frameBoundary 0, .timeSetWrite 0 0 0, .timeAdjWrite 0 0, .timeIncWrite 0 0, .timeFoffWrite 0 0, .timeVgo 0 0,
    .timeKick 0, .timePtxGo 0 0 0 0, .ptpRxPop 0, .tcapEdge 0 true, .tcapEntryRead 0 0, .timeEtsRead 0,
    .tpStartArm 0 0 0 0, .pulseDue 0, .pulseWidthEnd 0, .embCalGo 0 0, .embCalDone 0, .sleepSaveDone 0,
    .timeBridgeLoad 0, .xinStop 0, .timeStepApply, .holdTimeout] : List Instr).all Instr.wf = true := by decide

/-- Operands that name nothing, or do not fit, are refused. -/
theorem test_illFormedNetworkTime : (([
    .frameBoundary (-99999999999), .frameBoundary 99999999999, .timeSetWrite 99999999999999999999 0 0,
    .timeSetWrite 0 99999999999999999999 0, .timeSetWrite 0 0 99999999999999999999,
    .timeAdjWrite 99999999999999999999 0, .timeAdjWrite 0 99999999999999999999,
    .timeIncWrite 99999999999999999999 0, .timeIncWrite 0 99999999999999999999,
    .timeFoffWrite 99999999999999999999 0, .timeFoffWrite 0 99999999999999999999, .timeVgo 99999999999999999999 0,
    .timeVgo 0 99999999999999999999, .timeKick 99999999999999999999, .timePtxGo 99999999999999999999 0 0 0,
    .timePtxGo 0 99999999999999999999 0 0, .timePtxGo 0 0 99999999999999999999 0,
    .timePtxGo 0 0 0 99999999999999999999, .ptpRxPop 99999999999999999999, .tcapEdge 99999999999999999999 true,
    .tcapEntryRead 99999999999999999999 0, .tcapEntryRead 0 99999999999999999999,
    .timeEtsRead 99999999999999999999, .tpStartArm 99999999999999999999 0 0 0,
    .tpStartArm 0 99999999999999999999 0 0, .tpStartArm 0 0 99999999999999999999 0,
    .tpStartArm 0 0 0 99999999999999999999, .pulseDue 99999999999999999999, .pulseWidthEnd 99999999999999999999,
    .embCalGo 99999999999999999999 0, .embCalGo 0 99999999999999999999, .sleepSaveDone 99999999999999999999,
    .timeBridgeLoad 99999999999999999999, .xinStop 99999999999999999999] : List Instr).all fun i => !i.wf) = true := by decide

/-- Every Tally command with operands that exist is well-formed (O: the family statement). -/
theorem test_wellFormedTally : ([
    .stampBroadcast 0, .tallyRecordArrive 0, .tallyEnWrite 0 0, .tallySwrecCommit 0 0 0 0, .fnLatchClear 0,
    .tlyStatBeadRead 0, .keptRingClear 0, .scrubCheck (.sram 0) 0, .tallyRecordEmit] : List Instr).all Instr.wf = true := by decide

/-- Operands that name nothing, or do not fit, are refused. -/
theorem test_illFormedTally : (([
    .stampBroadcast 99999999999999999999, .tallyRecordArrive 99999999999999999999,
    .tallyEnWrite 99999999999999999999 0, .tallyEnWrite 0 99999999999999999999,
    .tallySwrecCommit 99999999999999999999 0 0 0, .tallySwrecCommit 0 99999999999999999999 0 0,
    .tallySwrecCommit 0 0 99999999999999999999 0, .tallySwrecCommit 0 0 0 99999999999999999999,
    .fnLatchClear 99999999999999999999, .tlyStatBeadRead 99999999999999999999, .keptRingClear 99999999999999999999,
    .scrubCheck (.sram 4) 0, .scrubCheck (.weight 0x3600000) 0, .scrubCheck (.emberKept 256 0) 0,
    .scrubCheck (.isle 9 0 0) 0, .scrubCheck (.fdSection 4 0 0 0 0) 0, .scrubCheck (.sram 0) 99999999999999999999] : List Instr).all fun i => !i.wf) = true := by decide

/-- Every Mailbox command with operands that exist is well-formed (O: the family statement). -/
theorem test_wellFormedMailbox : ([
    .watchdogExpiry 0 0, .mbxWdogArm 0 0 0, .mbxWdogKick 0 0, .mbxBindWrite 0 0 0 0 0, .mbxRingCommit 0 0 0 0,
    .mbxPopRead 0 0 4, .smbAddr 0, .smbWrite 0, .smbRing 0 0 0, .smbPop true, .jtagHalt 0, .jtagResume 0,
    .smbAddressMatch, .smbStretchTimeout, .smbRead, .smbStatus, .smbAlertResponse] : List Instr).all Instr.wf = true := by decide

/-- Operands that name nothing, or do not fit, are refused. -/
theorem test_illFormedMailbox : (([
    .watchdogExpiry 99999999999999999999 0, .watchdogExpiry 0 99999999999999999999,
    .mbxWdogArm 99999999999999999999 0 0, .mbxWdogArm 0 99999999999999999999 0,
    .mbxWdogArm 0 0 99999999999999999999, .mbxWdogKick 99999999999999999999 0, .mbxWdogKick 0 99999999999999999999,
    .mbxBindWrite 99999999999999999999 0 0 0 0, .mbxBindWrite 0 99999999999999999999 0 0 0,
    .mbxBindWrite 0 0 99999999999999999999 0 0, .mbxBindWrite 0 0 0 99999999999999999999 0,
    .mbxBindWrite 0 0 0 0 99999999999999999999, .mbxRingCommit 99999999999999999999 0 0 0,
    .mbxRingCommit 0 99999999999999999999 0 0, .mbxRingCommit 0 0 99999999999999999999 0,
    .mbxRingCommit 0 0 0 99999999999999999999, .mbxPopRead 99999999999999999999 0 4,
    .mbxPopRead 0 99999999999999999999 4, .mbxPopRead 0 0 99999999999999999999, .mbxPopRead 0 0 3,
    .mbxPopRead 0 0 0, .smbAddr 99999999999999999999, .smbWrite 99999999999999999999,
    .smbRing 99999999999999999999 0 0, .smbRing 0 99999999999999999999 0, .smbRing 0 0 99999999999999999999,
    .jtagHalt 99999999999999999999, .jtagResume 99999999999999999999] : List Instr).all fun i => !i.wf) = true := by decide

/-- Every Ikirik command with operands that exist is well-formed (O: the family statement). -/
theorem test_wellFormedIkirik : ([
    .sysInfo, .sysStatus, .sysReset, .pathEnable, .pathReturn, .pathOut, .pathFe, .pathPolicy, .pathTune, .pathAir,
    .pathCoex, .pathTuner, .pathQuery, .carrierSet, .carrierStop, .carrierQuery, .beamLoad, .beamSwitch, .beamRamp,
    .beamQuery, .dpdEnable, .dpdBank, .dpdSwitch, .dpdTrial, .dpdAdapt, .dpdCfg, .dpdQuery, .calRun, .calApply,
    .calCfg, .calNet, .calQuery, .timeGet, .timePtp, .timeSet, .timeFrame, .timePulse, .timeCapture, .timeEmbcal,
    .monTable, .monRun, .monRead, .monPwm, .pwrLevel, .pwrSleep, .pwrVote, .pwrQuery, .logCfg, .logRead, .logKeep,
    .logAck, .logNote, .otpRead, .fwStatus, .fwLoad, .fwFlash, .fwActivate] : List Instr).all Instr.wf = true := by decide

/-- Every Dma command with operands that exist is well-formed (O: the family statement). -/
theorem test_wellFormedDma : ([
    .dmaGo 0 0, .dmaStop 0 0, .dmaDescriptorFetched 0, .dmaBurstDone 0 0, .dmaQlvlWrite 0 0 0, .dmaQadjWrite 0 0 0,
    .dmaQcfgCommit 0 0 0, .dmaCcfgWrite 0 0 0, .dmaCdescWrite 0 0 0, .dmaBurstStart] : List Instr).all Instr.wf = true := by decide

/-- Operands that name nothing, or do not fit, are refused. -/
theorem test_illFormedDma : (([
    .dmaGo 99999999999999999999 0, .dmaGo 0 99999999999999999999, .dmaStop 99999999999999999999 0,
    .dmaStop 0 99999999999999999999, .dmaDescriptorFetched 99999999999999999999,
    .dmaBurstDone 99999999999999999999 0, .dmaBurstDone 0 99999999999999999999,
    .dmaQlvlWrite 99999999999999999999 0 0, .dmaQlvlWrite 0 99999999999999999999 0,
    .dmaQlvlWrite 0 0 99999999999999999999, .dmaQadjWrite 99999999999999999999 0 0,
    .dmaQadjWrite 0 99999999999999999999 0, .dmaQadjWrite 0 0 99999999999999999999,
    .dmaQcfgCommit 99999999999999999999 0 0, .dmaQcfgCommit 0 99999999999999999999 0,
    .dmaQcfgCommit 0 0 99999999999999999999, .dmaCcfgWrite 99999999999999999999 0 0,
    .dmaCcfgWrite 0 99999999999999999999 0, .dmaCcfgWrite 0 0 99999999999999999999,
    .dmaCdescWrite 99999999999999999999 0 0, .dmaCdescWrite 0 99999999999999999999 0,
    .dmaCdescWrite 0 0 99999999999999999999] : List Instr).all fun i => !i.wf) = true := by decide

/-- Every Monitor command with operands that exist is well-formed (O: the family statement). -/
theorem test_wellFormedMonitor : ([
    .monRunSet 0, .monRunClear 0, .monLpWrite 0 0, .monTrigWrite 0 0, .monSetupEnd 0, .monIntegrationEnd 0 0,
    .monResultStored 0, .monDelayEnd 0, .monTriggerTimeout 0, .mainsEdge 0, .pwmPeriodStart 0, .monTimerTick,
    .monPwmTrigger, .mainsTimeout] : List Instr).all Instr.wf = true := by decide

/-- Operands that name nothing, or do not fit, are refused. -/
theorem test_illFormedMonitor : (([
    .monRunSet 99999999999999999999, .monRunClear 99999999999999999999, .monLpWrite 99999999999999999999 0,
    .monLpWrite 0 99999999999999999999, .monTrigWrite 99999999999999999999 0, .monTrigWrite 0 99999999999999999999,
    .monSetupEnd 99999999999999999999, .monIntegrationEnd 99999999999999999999 0,
    .monResultStored 99999999999999999999, .monDelayEnd 99999999999999999999,
    .monTriggerTimeout 99999999999999999999, .pwmPeriodStart 99999999999999999999] : List Instr).all fun i => !i.wf) = true := by decide

/-- Every Power command with operands that exist is well-formed (O: the family statement). -/
theorem test_wellFormedPower : ([
    .pwrVsetWrite 0 0 0, .pwrVclrWrite 0 0 0, .domainPowerGood 0, .domainPowerupFail 0, .domainHystExpiry 0,
    .domainDownDone 0, .accessStallTimeout 0, .pwrLctlGo 0 0, .pwrSctlGo 0 0, .sleepEnterDone 0, .wakeEvent 0 0 1,
    .avsReport, .avsTimeout, .sleepDmaPaused, .sleepBeadsIdle, .sleepFlushDone, .sleepStepTimeout, .wakeComplete] : List Instr).all Instr.wf = true := by decide

/-- Operands that name nothing, or do not fit, are refused. -/
theorem test_illFormedPower : (([
    .pwrVsetWrite 99999999999999999999 0 0, .pwrVsetWrite 0 99999999999999999999 0,
    .pwrVsetWrite 0 0 99999999999999999999, .pwrVclrWrite 99999999999999999999 0 0,
    .pwrVclrWrite 0 99999999999999999999 0, .pwrVclrWrite 0 0 99999999999999999999,
    .domainPowerGood 99999999999999999999, .domainPowerupFail 99999999999999999999,
    .domainHystExpiry 99999999999999999999, .domainDownDone 99999999999999999999,
    .accessStallTimeout 99999999999999999999, .pwrLctlGo 99999999999999999999 0, .pwrLctlGo 0 99999999999999999999,
    .pwrSctlGo 99999999999999999999 0, .pwrSctlGo 0 99999999999999999999, .sleepEnterDone 99999999999999999999,
    .wakeEvent 99999999999999999999 0 1, .wakeEvent 0 99999999999999999999 1, .wakeEvent 0 0 99999999999999999999,
    .wakeEvent 0 0 3, .wakeEvent 0 0 0] : List Instr).all fun i => !i.wf) = true := by decide

/-- R471: a ball at 2.22 V reads 0xBD70A4 of full scale 3.0 V, and 3.2 V overranges. -/
theorem test_mon_code : monCode 5 0 2220000000000 = (0xBD70A4, false) ∧ monCode 5 0 3200000000000 = (0xFFFFFF, true) := by decide

/-- R497: blocks of a frame at 768 MHz, at half of which Bead 1 prepares the new mode. -/
theorem test_mode_half : (State.reset.dev.wr A.CLK_STAT 0).blocksPerFrame / 2 = 7500 := by decide

/-- Every Boot command with operands that exist is well-formed (O: the family statement). -/
theorem test_wellFormedBoot : ([
    .warmReset 4, .bootReadyWrite 0, .bootFwWrite 0, .bootDbgGo 0 0, .pcieConfigurationRequest 0, .porstNRelease,
    .perstNRelease, .otpBurn, .otpRevoke, .otpSettingsLoaded, .bootRomStart, .bundleLoadDone, .configImageApply,
    .perstNAssert] : List Instr).all Instr.wf = true := by decide

/-- Operands that name nothing, or do not fit, are refused. -/
theorem test_illFormedBoot : (([
    .warmReset 99999999999999999999, .warmReset 3, .warmReset 0, .bootReadyWrite 99999999999999999999,
    .bootFwWrite 99999999999999999999, .bootDbgGo 99999999999999999999 0, .bootDbgGo 0 99999999999999999999,
    .pcieConfigurationRequest 99999999999999999999] : List Instr).all fun i => !i.wf) = true := by decide

end Sys2Proof.Tests
end

section
/-! SUPPORT. Writes of a wrong width into a run-ahead bank (R19, R211), and what follows for the statement about wrong widths. -/
namespace Sys2Proof.Proofs
open Sys2Proof Sys2Proof.Machine Sys2Proof.Laws

/-- The bit of BM_DEVENT that a write to the run-ahead bank at an address raises (R211). -/
def raWriteBit (a : Nat) : Loc := L.BM_DEVENT_RA_WRITE ((weightPlace a).1 / 4)

/-- BM_DEVENT lies outside the Tally block. -/
theorem raWriteBit_outside_tally (a : Nat) : (raWriteBit a).addr < 0x20000 ∨ 0x30000 ≤ (raWriteBit a).addr := by
  simp only [raWriteBit, L.BM_DEVENT_RA_WRITE, A.BM_DEVENT]
  omega

/-- A refused write to a run-ahead bank leaves RA_WRITE set. -/
theorem raWrite_sets_bit (a : Nat) (d : Device) : (raWrite a d).get (raWriteBit a) = 1 := by
  have hlog : TallyOnly (d.set (raWriteBit a) 1) (raWrite a d) := event_tally d _ _ _ _ _ _ _ (by decide)
  rw [hlog.get _ (raWriteBit_outside_tally a)]
  exact get_set_same d 1 _ (by simp [raWriteBit, L.BM_DEVENT_RA_WRITE])

/-- A write of a wrong width into a run-ahead bank is recorded as such and raises RA_WRITE as well. -/
theorem busWrite_runAhead_wrongWidth (m a n v : Nat) (mem : List Host.Cell) (d : Device) (hans : d.answers m = true)
    (hwait : ∀ x ∈ d.stalled, x.master ≠ m) (hn : widthOk a n = false) (ha : runAheadBank a = true) :
    busWrite m a n v mem d = (raWrite a (widthError m a d)).replied m a 0 := by
  have hfree : (d.stalled.any fun y => y.master == m) = false := by simpa using hwait
  have htry : busTry ⟨m, a, n, true, v, domainOf a⟩ mem d = (0, 0, raWrite a (widthError m a d)) := by
    simp [busTry, hn, ha]
  simp [busWrite, access, hans, hfree, htry, answer, Device.replied]

/-- The model's reset state with the supply valid and the ROM started, so that FABRIC answers (R505, R519). -/
def fabricUp : State :=
  let d := State.reset.dev
  { State.reset with dev := { d with boot := { d.boot with porstLow := false, g1 := true, fabricReady := true } } }

theorem fabricUp_settled : fabricUp.Settled := ⟨rfl, rfl⟩

/-- A register write command is its bus access. -/
theorem exec_registerWrite (m a n v : Nat) (s : State) :
    exec (.registerWrite m a n v) s = act (.registerWrite m a n v) s (busWrite m a n v) := rfl

/-- An answer is no part of a register's field. -/
theorem replied_get (d : Device) (m a v : Nat) (l : Loc) : (d.replied m a v).get l = d.get l := rfl

/-- The bytes not yet written are no part of a register's field. -/
theorem get_memOut (d : Device) (l : Loc) (bs : List Host.Cell) : { d with memOut := bs }.get l = d.get l := rfl

/-- After a write of a wrong width into a run-ahead bank, RA_WRITE reads 1. -/
theorem registerWrite_runAhead_wrongWidth (m a n v : Nat) (s t : State) (hwf : (Instr.registerWrite m a n v).wf = true)
    (hs : s.Settled) (hans : s.dev.answers m = true) (hwait : ∀ x ∈ s.dev.stalled, x.master ≠ m) (hn : widthOk a n = false)
    (ha : runAheadBank a = true) (h : exec (.registerWrite m a n v) s = .next t) : t.dev.get (raWriteBit a) = 1 := by
  rw [exec_registerWrite, act_wf _ _ _ hwf] at h
  injection h with h
  rw [← h, run_dev, get_memOut, dev_memOut _ hs.2, busWrite_runAhead_wrongWidth m a n v _ _ hans hwait hn ha]
  exact (replied_get _ _ _ _ _).trans (raWrite_sets_bit a _)

/-- Refutes O9: one byte written by Bead 0 to 0x13200000, in the run-ahead bank of direction 0, is an access of a wrong width,
and it raises BM_DEVENT.RA_WRITE besides the Tally record (R211), so a register outside the Tally block changes. -/
theorem not_wrongWidthHasNoEffect : ¬ Obligations.WrongWidthHasNoEffect := by
  unfold Obligations.WrongWidthHasNoEffect
  rintro ⟨-, -, h⟩
  have hans : fabricUp.dev.answers 0 = true := by decide
  have hwait : ∀ x ∈ fabricUp.dev.stalled, x.master ≠ 0 := fun x hx => absurd hx List.not_mem_nil
  obtain ⟨-, hwrite, -, hregs, -⟩ :=
    h 0 0x13200000 1 0 fabricUp rfl rfl (by decide) (by decide) (by decide) fabricUp_settled hans hwait
  have hraised := registerWrite_runAhead_wrongWidth 0 0x13200000 1 0 fabricUp _ (by decide) fabricUp_settled hans hwait
    (by decide) (by decide) hwrite
  have hkept : (widthError 0 0x13200000 fabricUp.dev).get (raWriteBit 0x13200000)
      = fabricUp.dev.get (raWriteBit 0x13200000) := by
    rw [Device.get, hregs _ (raWriteBit_outside_tally _), Device.get]
  have hclear : fabricUp.dev.get (raWriteBit 0x13200000) = 0 := by decide +kernel
  exact absurd (hraised.symm.trans (hkept.trans hclear)) (by decide)

end Sys2Proof.Proofs
end

section
/-! SUPPORT. Where registers lie: the rows of the map, and the alignment of a register's address (R19). -/
namespace Sys2Proof.Proofs
open Sys2Proof Sys2Proof.Machine Sys2Proof.Laws

/-- The rows of every block. -/
def allRows : List RegRow :=
  regMapSys ++ regMapTime ++ regMapClk ++ regMapDmp ++ regMapPath ++ regMapChan ++ regMapBeam ++ regMapCal

/-- A block's rows are among the rows of all blocks. -/
theorem mem_allRows_of_regMapOf {a : Nat} {r : RegRow} (h : r ∈ regMapOf a) : r ∈ allRows := by
  unfold regMapOf at h
  simp only [allRows, List.mem_append]
  split_ifs at h <;> simp [h]

/-- A row found for an address is in the list, and the address is one of its words. -/
theorem findIn_some {a i j : Nat} {r : RegRow} {rs : List RegRow} (h : findIn a rs = some (r, i, j)) :
    r ∈ rs ∧ r.hit a = some (i, j) := by
  induction rs with
  | nil => simp [findIn] at h
  | cons q rs ih =>
    unfold findIn at h
    split at h
    case h_1 hq =>
      obtain ⟨rfl, rfl, rfl⟩ : q = r ∧ _ = i ∧ _ = j := by simpa using h
      exact ⟨List.mem_cons_self, hq⟩
    case h_2 => exact ⟨List.mem_cons_of_mem _ (ih h).1, (ih h).2⟩

/-- The register at an address is a row of the map, and the address is one of its words. -/
theorem regAt_some {a i j : Nat} {r : RegRow} (h : regAt a = some (r, i, j)) : r ∈ allRows ∧ r.hit a = some (i, j) :=
  (findIn_some h).imp_left mem_allRows_of_regMapOf

/-- What holds of every row of the map holds of the register at an address. -/
theorem regAt_all {a i j : Nat} {r : RegRow} (p : RegRow → Bool) (hp : allRows.all p = true)
    (h : regAt a = some (r, i, j)) : p r = true :=
  List.all_eq_true.1 hp r (regAt_some h).1

/-- A row starts at a word and repeats by whole words. -/
def inWords (r : RegRow) : Bool := r.base % 4 == 0 && (r.dims ++ r.subs).all fun d => d.stride % 4 == 0

theorem allRows_inWords : allRows.all inWords = true := by decide +kernel

/-- Choosing one of a row's repetitions by whole words leaves an offset of the same alignment. -/
theorem walk_mod_four {ds : List Dim} {off n i rest : Nat} (hds : ∀ d ∈ ds, d.stride % 4 = 0)
    (h : Dim.walk ds off n = some (i, rest)) : rest % 4 = off % 4 := by
  induction ds generalizing off n with
  | nil =>
    obtain ⟨-, rfl⟩ : n = i ∧ off = rest := by simpa [Dim.walk] using h
    rfl
  | cons d ds ih =>
    unfold Dim.walk at h
    split at h
    · rw [ih (fun e he => hds e (List.mem_cons_of_mem _ he)) h]
      exact Nat.mod_mod_of_dvd _ (Nat.dvd_of_mod_eq_zero (hds d List.mem_cons_self))
    · cases h

/-- The words of a row that repeats by whole words lie at multiples of 4. -/
theorem hit_mod_four {r : RegRow} {a i j : Nat} (hr : inWords r = true) (h : r.hit a = some (i, j)) : a % 4 = 0 := by
  obtain ⟨hbase, hdim, hsub⟩ : r.base % 4 = 0 ∧ (∀ d ∈ r.dims, d.stride % 4 = 0) ∧ ∀ d ∈ r.subs, d.stride % 4 = 0 := by
    simpa [inWords] using hr
  unfold RegRow.hit at h
  split at h
  case isTrue => cases h
  split at h
  case h_1 => cases h
  case h_2 hdims =>
    have hinst := walk_mod_four hdim hdims
    split at h
    case h_1 hsubs =>
      have hword := walk_mod_four hsub hsubs
      omega
    case h_2 => cases h

/-- Every register lies at a multiple of 4 (R19). -/
theorem regAt_mod_four {a i j : Nat} {r : RegRow} (h : regAt a = some (r, i, j)) : a % 4 = 0 :=
  hit_mod_four (regAt_all _ allRows_inWords h) (regAt_some h).2

end Sys2Proof.Proofs
end

section
/-! SUPPORT. Fields cleared by reading: clearing one field never sets a bit of another, what a read of their registers answers
and leaves, and who clears them (R22, R24). -/
namespace Sys2Proof.Proofs
open Sys2Proof Sys2Proof.Machine Sys2Proof.Laws

/-- A bit of a field is the bit of the word it stands at. -/
theorem testBit_bitsOf (n lo w k : Nat) : (bitsOf n lo w).testBit k = (decide (k < w) && n.testBit (k + lo)) := by
  simp [bitsOf, Nat.testBit_mod_two_pow, Nat.testBit_div_two_pow]

/-- Clearing a field sets no bit of the word. -/
theorem testBit_putBits_zero (n lo w k : Nat) (h : n.testBit k = false) : (putBits n lo w 0).testBit k = false := by
  have hlow : n % 2 ^ lo < 2 ^ (lo + w) :=
    (Nat.mod_lt _ (Nat.two_pow_pos lo)).trans_le (Nat.pow_le_pow_right (by decide) (Nat.le_add_right lo w))
  have hor : putBits n lo w 0 = 2 ^ (lo + w) * (n / 2 ^ (lo + w)) ||| n % 2 ^ lo := by
    rw [← Nat.two_pow_add_eq_or_of_lt hlow]
    simp [putBits, Nat.mul_comm]
  rw [hor, Nat.testBit_or, Nat.testBit_two_pow_mul, Nat.testBit_mod_two_pow, Nat.testBit_div_two_pow, h, Bool.and_false,
    Bool.or_false, Bool.and_eq_false_imp, decide_eq_true_eq]
  intro hk
  rwa [Nat.sub_add_cancel hk]

/-- A field that is 0 stays 0 when any field of the device is cleared. -/
theorem get_set_zero (d : Device) (k l : Loc) (h : d.get k = 0) : (d.set l 0).get k = 0 := by
  by_cases hkl : k.addr = l.addr
  · have hold : ∀ b, (bitsOf (d.rd l.addr) k.lo k.w).testBit b = false := fun b => by
      rw [← hkl, ← Device.get, h, Nat.zero_testBit]
    rw [Device.get, Device.set, hkl, rd_wr_same]
    refine Nat.eq_of_testBit_eq fun b => ?_
    have hb := hold b
    rw [testBit_bitsOf, Bool.and_eq_false_imp] at hb
    rw [Nat.zero_testBit, testBit_bitsOf, Bool.and_eq_false_imp, Nat.testBit_mod_two_pow, Bool.and_eq_false_imp]
    exact fun hw _ => testBit_putBits_zero _ _ _ _ (hb hw)
  · exact (get_set_ne d 0 l k hkl).trans h

/-- Clearing a list of a register's fields. -/
def clearFields (a : Nat) (fs : List FieldRow) (d : Device) : Device :=
  fs.foldl (fun (d : Device) f => d.set ⟨a, f.lo, f.hi + 1 - f.lo⟩ 0) d

@[simp] theorem clearFields_memOut (a : Nat) (fs : List FieldRow) (d : Device) : (clearFields a fs d).memOut = d.memOut := by
  induction fs generalizing d with
  | nil => rfl
  | cons f fs ih => exact ih _

/-- Clearing a list of fields keeps 0 what is 0. -/
theorem clearFields_get_zero (a : Nat) (fs : List FieldRow) (d : Device) (k : Loc) (h : d.get k = 0) :
    (clearFields a fs d).get k = 0 := by
  induction fs generalizing d with
  | nil => exact h
  | cons f fs ih => exact ih _ (get_set_zero d k _ h)

/-- Each field of the list reads 0 after the list is cleared. -/
theorem clearFields_get_mem (a : Nat) (fs : List FieldRow) (d : Device) (f : FieldRow) (hf : f ∈ fs)
    (hw : f.lo + (f.hi + 1 - f.lo) ≤ 32) : (clearFields a fs d).get ⟨a, f.lo, f.hi + 1 - f.lo⟩ = 0 := by
  induction fs generalizing d with
  | nil => cases hf
  | cons g fs ih =>
    cases hf with
    | head => exact clearFields_get_zero a fs _ _ ((get_set_same d 0 _ hw).trans (Nat.zero_mod _))
    | tail _ hf => exact ih _ hf

/-- A read by a master that is no Bead clears nothing in a firmware-only register (R24). -/
theorem readClear_other_master (r : RegRow) (i m a : Nat) (d : Device) (hfw : r.mark.firmware i = true) (hm : 16 ≤ m) :
    readClear r i m a d = d := by
  simp [readClear, hfw, hm]

/-- The fields of a register that a read clears (R22). -/
def rcFields (r : RegRow) : List FieldRow := r.fields.filter fun f => f.acc == .rc

theorem mem_rcFields {r : RegRow} {f : FieldRow} : f ∈ rcFields r ↔ f ∈ r.fields ∧ f.acc = .rc := by
  simp [rcFields, List.mem_filter]

/-- A Bead's read clears the register's RC fields. -/
theorem readClear_bead (r : RegRow) (i m a : Nat) (d : Device) (hm : m < 16) :
    readClear r i m a d = clearFields a (rcFields r) d := by
  unfold readClear
  by_cases hrc : (r.fields.filter fun f => f.acc == .rc).isEmpty = true
  · simp [List.isEmpty_iff.1 hrc, rcFields, clearFields]
  · simp [hrc, Nat.not_le.2 hm, rcFields, clearFields]

/-- Registers of which a read answers more than the stored word: parts follow other state, or the read takes the head of a FIFO. -/
def computedNames : List RegName :=
  [.SYS_WHOAMI, .MBX_RRES, .MBX_RRES_CODE, .MBX_HOSTPEND_LO, .MBX_HOSTPEND_HI, .MBX_POP_W0, .MBX_POP_W1, .TLY_FAULT, .TLY_KEEP,
   .TIME_NOW_W0, .TIME_NOW_W1, .TIME_NOW_W2, .TIME_NOW_W3, .TIME_STAT, .TCAP_ENTRY_W0, .TCAP_ENTRY_W1, .TCAP_ENTRY_W2,
   .TIME_ETS_W0, .TIME_ETS_W1, .TIME_ETS_W2, .TIME_ETS_W3, .PWR_DSTAT, .BOOT_OTP_WIN, .DMA_CSTAT, .DMP_PSTAT, .GST_BUFSTAT]

/-- Every other register reads as its stored word. -/
theorem live_eq_rd (d : Device) (m : Nat) (n : RegName) (i j a : Nat) (hn : n ∉ computedNames) : d.live m n i j a = d.rd a := by
  unfold Device.live
  split
  case h_27 => rfl
  all_goals simp [computedNames] at hn

/-- Beside RC fields, a read of another register changes the device only where a Bead reads TLY_STAT (R400). -/
theorem readEffect_cases (m : Nat) (n : RegName) (i : Nat) (d : Device) (hn : n ∉ computedNames) :
    readEffect m n i d = d ∨ m < 16 ∧ readEffect m n i d = statRead d := by
  unfold readEffect
  split
  case h_4 => by_cases hm : m < 16 <;> simp [hm]
  case h_5 => exact .inl rfl
  all_goals simp [computedNames] at hn

/-- A row with an RC field is one plain stored word, and holds that field. -/
def rcPlain (r : RegRow) : Bool :=
  r.fields.all fun f => f.acc != .rc || (decide (r.wlen < 2) && !computedNames.contains r.name && decide (f.lo + (f.hi + 1 - f.lo) ≤ 32))

theorem allRows_rcPlain : allRows.all rcPlain = true := by decide +kernel

/-- What the map says of a register with an RC field. -/
theorem regAt_rc {a i j : Nat} {r : RegRow} {f : FieldRow} (h : regAt a = some (r, i, j)) (hf : f ∈ r.fields) (hrc : f.acc = .rc) :
    r.wlen < 2 ∧ r.name ∉ computedNames ∧ f.lo + (f.hi + 1 - f.lo) ≤ 32 := by
  have hrow := List.all_eq_true.1 (regAt_all _ allRows_rcPlain h) f hf
  simpa [hrc, and_assoc] using hrow

/-- A 32-bit read of a plain register: its live word, then what the read clears and removes. -/
theorem regLoad_plain (m : Nat) {a i j : Nat} {r : RegRow} (d : Device) (h : regAt a = some (r, i, j)) (hw : r.wlen < 2) :
    regLoad m a d = (d.live m r.name i j a, readEffect m r.name i (readClear r i m a d)) := by
  simp [regLoad, afterRead, h, hw]

/-- A read of a register with an RC field by a master that is no Bead answers the live word and changes nothing (R24). -/
theorem regLoad_rc_other_master {m a i j : Nat} {r : RegRow} (d : Device) (h : regAt a = some (r, i, j)) (hw : r.wlen < 2)
    (hn : r.name ∉ computedNames) (hfw : r.mark.firmware i = true) (hm : 16 ≤ m) :
    regLoad m a d = (d.live m r.name i j a, d) := by
  rw [regLoad_plain m d h hw, readClear_other_master r i m a d hfw hm]
  rcases readEffect_cases m r.name i d hn with he | ⟨hb, -⟩
  · rw [he]
  · omega

/-- What a Bead's read of a plain register leaves: its RC fields cleared, and of TLY_STAT the request lowered too. -/
theorem regLoad_bead_cases {m a i j : Nat} {r : RegRow} (d : Device) (h : regAt a = some (r, i, j)) (hw : r.wlen < 2)
    (hn : r.name ∉ computedNames) (hm : m < 16) :
    (regLoad m a d).2 = clearFields a (rcFields r) d ∨ (regLoad m a d).2 = statRead (clearFields a (rcFields r) d) := by
  rw [regLoad_plain m d h hw, readClear_bead r i m a d hm]
  exact (readEffect_cases m r.name i _ hn).imp_right And.right

/-- A Bead's read of a plain register leaves each of its RC fields 0. -/
theorem regLoad_bead_clears {m a i j : Nat} {r : RegRow} {f : FieldRow} (d : Device) (h : regAt a = some (r, i, j))
    (hf : f ∈ r.fields) (hrc : f.acc = .rc) (hm : m < 16) : (regLoad m a d).2.get ⟨a, f.lo, f.hi + 1 - f.lo⟩ = 0 := by
  obtain ⟨hw, hn, hin⟩ := regAt_rc h hf hrc
  have hclear := clearFields_get_mem a (rcFields r) d f (mem_rcFields.2 ⟨hf, hrc⟩) hin
  rcases regLoad_bead_cases d h hw hn hm with he | he <;> rw [he]
  · exact hclear
  · exact get_set_zero _ _ _ hclear

/-- A Bead's read of a plain register stores no byte of memory. -/
theorem regLoad_bead_memOut {m a i j : Nat} {r : RegRow} (d : Device) (h : regAt a = some (r, i, j)) (hw : r.wlen < 2)
    (hn : r.name ∉ computedNames) (hm : m < 16) : (regLoad m a d).2.memOut = d.memOut := by
  rcases regLoad_bead_cases d h hw hn hm with he | he <;> rw [he]
  · exact clearFields_memOut _ _ _
  · exact clearFields_memOut _ _ _

/-- A register read command is its bus access. -/
theorem exec_registerRead (m a n : Nat) (s : State) :
    exec (.registerRead m a n) s = act (.registerRead m a n) s (busRead m a n) := rfl

/-- A 32-bit read of a register that reaches its target and stores no byte: the register's load, and the answer. -/
theorem registerRead_onDevice {m a : Nat} {s : State} (hm : isMaster m = true) (ha : a < 0x10000000) (h4 : a % 4 = 0)
    (hmap : isMapped a = true) (hs : s.Settled) (hreach : s.dev.reaches m a) (hmem : (regLoad m a s.dev).2.memOut = []) :
    ActsOnDevice (.registerRead m a 4) s ((regLoad m a s.dev).2.replied m a (regLoad m a s.dev).1) := by
  have hbus := busRead_register m a s.mem s.dev hreach ha h4 hmap
  have hwf : (Instr.registerRead m a 4).wf = true := by
    have hfit : a < 4294967296 := by omega
    simp [Instr.wf, hm, fits, isWidth, hfit]
  rw [ActsOnDevice, exec_registerRead, act_onDevice _ _ _ hwf hs.2 (by rw [hbus]; exact hmem), hbus]

/-- Settles O10: a register with an RC field is one plain word that reads as stored (`regAt_rc`), so its load is its word, and
the clearing of its RC fields where the reader is a Bead. -/
theorem countersClearForBeadsOnly : Obligations.CountersClearForBeadsOnly := by
  unfold Obligations.CountersClearForBeadsOnly
  intro m a i j r f s hm ha hmap hreg hfw hf hrc hs hreach
  obtain ⟨hw, hn, -⟩ := regAt_rc hreg hf hrc
  have hread := registerRead_onDevice hm ha (regAt_mod_four hreg) hmap hs hreach
  refine ⟨fun hother => ?_, fun hbead => ?_, ?_⟩
  · rw [regLoad_rc_other_master s.dev hreg hw hn hfw hother] at hread
    exact hread hs.2
  · refine ⟨_, hread ((regLoad_bead_memOut s.dev hreg hw hn hbead).trans hs.2), ?_, ?_, fun _ => rfl⟩
    · rw [regLoad_plain m s.dev hreg hw]; rfl
    · exact regLoad_bead_clears s.dev hreg hf hrc hbead
  · rw [live_eq_rd s.dev m r.name i j a hn]; rfl

end Sys2Proof.Proofs
end

section
/-! SUPPORT. What ringing a mailbox channel leaves alone (R415, R418, R419), and how a ring ends. -/
namespace Sys2Proof.Proofs
open Sys2Proof Sys2Proof.Machine Sys2Proof.Laws

/-- A register whose word decides a ring or the wake that may follow: the binding table (R412) and the sleep state (R498). -/
def RingInput (a : Nat) : Prop := (0x10000 ≤ a ∧ a < 0x10100) ∨ a = A.PWR_SSTAT

/-- The channels, the results of rings, the bytes to write and the words that decide a ring are as they were. -/
structure MailboxKept (d e : Device) : Prop where
  mbx : e.mbx = d.mbx
  ringRes : e.ringRes = d.ringRes
  memOut : e.memOut = d.memOut
  rd : ∀ a, RingInput a → e.rd a = d.rd a

namespace MailboxKept

theorem refl (d : Device) : MailboxKept d d := ⟨rfl, rfl, rfl, fun _ _ => rfl⟩

theorem trans {d e f : Device} (h : MailboxKept d e) (k : MailboxKept e f) : MailboxKept d f :=
  ⟨k.mbx.trans h.mbx, k.ringRes.trans h.ringRes, k.memOut.trans h.memOut, fun a ha => (k.rd a ha).trans (h.rd a ha)⟩

/-- A field of a register that decides a ring reads as before. -/
theorem get {d e : Device} (h : MailboxKept d e) (l : Loc) (hl : RingInput l.addr) : e.get l = d.get l := by
  unfold Device.get; rw [h.rd _ hl]

/-- Storing a result commutes with what leaves the mailbox alone. -/
theorem result {d e : Device} (h : MailboxKept d e) (m c res : Nat) : MailboxKept (mbxResult m c res d) (mbxResult m c res e) :=
  ⟨h.mbx, by simp only [mbxResult, h.ringRes], h.memOut, h.rd⟩

theorem of_wr (d : Device) (a v : Nat) (ha : ¬ RingInput a) : MailboxKept d (d.wr a v) :=
  ⟨rfl, rfl, rfl, fun c hc => rd_wr_ne d a v c fun he => ha (he ▸ hc)⟩

theorem of_set (d : Device) (l : Loc) (v : Nat) (hl : ¬ RingInput l.addr) : MailboxKept d (d.set l v) := of_wr d _ _ hl

/-- Tally records leave the mailbox alone. -/
theorem of_tallyOnly {d e : Device} (h : TallyOnly d e) : MailboxKept d e :=
  ⟨h.keep _ fun _ _ _ _ _ => rfl, h.keep _ fun _ _ _ _ _ => rfl, h.memOut,
    fun a ha => h.regs a (by simp only [RingInput, A.PWR_SSTAT] at ha; omega)⟩

theorem of_each (n : Nat) (f : Nat → Device → Device) (hf : ∀ k d, MailboxKept d (f k d)) (d : Device) :
    MailboxKept d (d.each n f) := by
  unfold Device.each
  induction List.range n generalizing d with
  | nil => exact refl d
  | cons k ks ih => exact (hf k d).trans (ih _)

end MailboxKept

/-! ## Votes, messages and events -/

/-- The domains' status words decide no ring. -/
theorem not_ringInput_dstat (n : Nat) : ¬ RingInput (A.PWR_DSTAT n) := by
  simp only [RingInput, A.PWR_DSTAT, A.PWR_SSTAT]; omega

theorem setDom_kept (n st : Nat) (d : Device) : MailboxKept d (setDom n st d) := .of_set _ _ _ (not_ringInput_dstat n)

theorem voteOne_kept (n b : Nat) (d : Device) : MailboxKept d (voteOne n b d) := by
  unfold voteOne
  split
  · exact .refl d
  · refine (MailboxKept.of_set d (L.PWR_DSTAT_VOTES n) (d.votes n + 2 ^ b) (not_ringInput_dstat n)).trans ?_
    dsimp only
    split
    · refine MailboxKept.trans ?_ (setDom_kept _ _ _)
      exact ⟨rfl, rfl, rfl, fun _ _ => rfl⟩
    · exact setDom_kept _ _ _
    · exact .refl _

theorem unvoteOne_kept (n b : Nat) (d : Device) : MailboxKept d (unvoteOne n b d) := by
  unfold unvoteOne
  split
  · exact .refl d
  · refine (MailboxKept.of_set d (L.PWR_DSTAT_VOTES n) (d.votes n - 2 ^ b) (not_ringInput_dstat n)).trans ?_
    dsimp only
    split
    · exact setDom_kept _ _ _
    · exact .refl _

/-- The mailbox's votes leave the mailbox alone (R418). -/
theorem mbxVotes_kept (d : Device) : MailboxKept d (mbxVotes d) :=
  .of_each 16 _ (fun n d => by
    unfold mbxVote
    split
    · exact voteOne_kept _ _ d
    · exact unvoteOne_kept _ _ d) d

/-- A delivery leaves the mailbox alone (R419). -/
theorem mbxDeliver_kept (c : Nat) (d : Device) : MailboxKept d (mbxDeliver c d) := by
  unfold mbxDeliver
  dsimp only
  split
  · exact .of_tallyOnly (deliverTo_tally _ d)
  · split
    · split
      · exact .of_tallyOnly (msix_tally _ d)
      · exact .refl d
    · split
      · exact ⟨rfl, rfl, rfl, fun _ _ => rfl⟩
      · exact .refl d

/-- The status words of the channels decide no ring. -/
theorem not_ringInput_chstat (c : Nat) (hc : c < 64) : ¬ RingInput (A.MBX_CHSTAT c) := by
  simp only [RingInput, A.MBX_CHSTAT, A.PWR_SSTAT]; omega

/-- Of the mailbox, replacing a channel's FIFO changes that FIFO only. -/
theorem setFifo_kept (c : Nat) (q : List Doorbell) (d : Device) (hc : c < 64) :
    MailboxKept { d with mbx := tabPut d.mbx c q } (setFifo c q d) :=
  ((MailboxKept.of_set _ _ _ (not_ringInput_chstat c hc)).trans (.of_set _ _ _ (not_ringInput_chstat c hc))).trans (mbxVotes_kept _)

/-- After its bit is set, a master's event only writes its record (R387). -/
theorem mbxEvent_tally (l : Nat → Loc) (m : Nat) (items : List (Nat × Nat)) (d : Device) :
    TallyOnly (d.set (l m) 1) (mbxEvent l m items d) :=
  logLimited_tally _ _ _ _ _ _ _ _ _ (by decide)

/-! ## The checks of a ring (R415) -/

/-- The result of a ring: the first check that fails, or 0. -/
def ringCode (m c offset : Nat) (d : Device) : Nat :=
  if d.on (L.MBX_BIND_EN c) = false then 1
  else if d.get (L.MBX_BIND_SENDER c) ≠ m then 2
  else if offset % 64 ≠ 0 ∨ 0x02000000 ≤ offset then 3
  else if 16 ≤ (d.chan' c).length then 4 else 0

/-- The event bit of a refused ring's result. -/
def ringEvent (res : Nat) : Nat → Loc :=
  match res with
  | 1 => L.MBX_EVENT_UNBOUND
  | 2 => L.MBX_EVENT_NOT_SENDER
  | 3 => L.MBX_EVENT_BAD_OFS
  | _ => L.MBX_EVENT_FULL

/-- A ring's event bit is a bit of the master's MBX_EVENT. -/
theorem ringEvent_bit (res m : Nat) :
    (ringEvent res m).addr = A.MBX_EVENT m ∧ (ringEvent res m).lo < 32 ∧ (ringEvent res m).w = 1 := by
  unfold ringEvent
  split <;> simp [L.MBX_EVENT_UNBOUND, L.MBX_EVENT_NOT_SENDER, L.MBX_EVENT_BAD_OFS, L.MBX_EVENT_FULL]

/-- A ring's event leaves the mailbox alone. -/
theorem ringEvent_kept (res m : Nat) (items : List (Nat × Nat)) (d : Device) (hm : m ≤ 22) :
    MailboxKept d (mbxEvent (ringEvent res) m items d) := by
  refine (MailboxKept.of_set d _ 1 ?_).trans (.of_tallyOnly (mbxEvent_tally _ _ _ d))
  rw [(ringEvent_bit res m).1]
  simp only [RingInput, A.MBX_EVENT, A.PWR_SSTAT]; omega

/-- A ring's event leaves its bit set. -/
theorem ringEvent_on (res m : Nat) (items : List (Nat × Nat)) (d : Device) (hm : m ≤ 22) :
    (mbxEvent (ringEvent res) m items d).on (ringEvent res m) = true := by
  obtain ⟨haddr, hlo, hw⟩ := ringEvent_bit res m
  have hout : (ringEvent res m).addr < 0x20000 := by rw [haddr, A.MBX_EVENT]; omega
  rw [Device.on, (mbxEvent_tally (ringEvent res) m items d).get _ (.inl hout), get_set_same d 1 _ (by omega), hw]
  rfl

/-- The result depends only on what a kept mailbox keeps. -/
theorem ringCode_kept {d e : Device} (h : MailboxKept d e) (m c offset : Nat) (hc : c < 64) :
    ringCode m c offset e = ringCode m c offset d := by
  have hin : RingInput (A.MBX_BIND c) := by simp only [RingInput, A.MBX_BIND]; omega
  have hen : e.on (L.MBX_BIND_EN c) = d.on (L.MBX_BIND_EN c) := by rw [Device.on, h.get _ hin, Device.on]
  have hchan : e.chan' c = d.chan' c := by rw [Device.chan', h.mbx, Device.chan']
  rw [ringCode, hen, h.get (L.MBX_BIND_SENDER c) hin, hchan, ringCode]

/-- A ring that passes the checks joins its channel and is delivered. -/
theorem mbxRing_accepted (m c offset tag : Nat) (d : Device) (h : ringCode m c offset d = 0) :
    mbxRing m c offset tag d = mbxDeliver c (mbxResult m c 0 (setFifo c (d.chan' c ++ [⟨offset, tag⟩]) d)) := by
  unfold ringCode at h
  split_ifs at h with hen hsender hofs hfull
  simp [mbxRing, hen, hsender, hofs, hfull]

/-- A ring that fails a check ends with the event and the record of that check. -/
theorem mbxRing_refused (m c offset tag : Nat) (d : Device) (hc : c < 64) (h : ringCode m c offset d ≠ 0) :
    ∃ e, MailboxKept d e ∧
      mbxRing m c offset tag d = mbxRefuse m c (ringCode m c offset d) offset (ringEvent (ringCode m c offset d)) e := by
  unfold ringCode at h ⊢
  split_ifs at h ⊢ with hen hsender hofs hfull
  · exact ⟨d, .refl d, by simp [mbxRing, hen, ringEvent]⟩
  · exact ⟨d, .refl d, by simp [mbxRing, hen, hsender, ringEvent]⟩
  · exact ⟨d, .refl d, by simp [mbxRing, hen, hsender, hofs, ringEvent]⟩
  · exact ⟨d.inc (L.MBX_CHSTAT_REFUSED c), .of_set _ _ _ (not_ringInput_chstat c hc), by
      simp [mbxRing, hen, hsender, hofs, hfull, ringEvent]⟩
  · exact absurd rfl h

/-- What a ring does to the mailbox: its result is stored, and an accepted doorbell joins the end of the channel. -/
def ringPosted (m c offset tag : Nat) (d : Device) : Device :=
  mbxResult m c (ringCode m c offset d)
    (if ringCode m c offset d = 0 then { d with mbx := tabPut d.mbx c (d.chan' c ++ [⟨offset, tag⟩]) } else d)

/-- Of the mailbox, a ring changes the result and the channel only. -/
theorem mbxRing_kept (m c offset tag : Nat) (d : Device) (hm : m ≤ 22) (hc : c < 64) :
    MailboxKept (ringPosted m c offset tag d) (mbxRing m c offset tag d) := by
  unfold ringPosted
  by_cases h : ringCode m c offset d = 0
  · rw [mbxRing_accepted m c offset tag d h, if_pos h, h]
    exact ((setFifo_kept c _ d hc).result m c 0).trans (mbxDeliver_kept c _)
  · obtain ⟨e, he, hring⟩ := mbxRing_refused m c offset tag d hc h
    rw [hring, if_neg h]
    exact (he.result m c _).trans (ringEvent_kept _ m _ _ hm)

/-- A ring leaves the words that decide a ring or a wake. -/
theorem mbxRing_rd (m c offset tag a : Nat) (d : Device) (hm : m ≤ 22) (hc : c < 64) (ha : RingInput a) :
    (mbxRing m c offset tag d).rd a = d.rd a := by
  rw [(mbxRing_kept m c offset tag d hm hc).rd a ha, ringPosted]
  split <;> rfl

/-- A ring stores its result for its master. -/
theorem mbxRing_ringRes (m c offset tag : Nat) (d : Device) (hm : m ≤ 22) (hc : c < 64) :
    tabGet? (mbxRing m c offset tag d).ringRes m = some (ringCode m c offset d, c) := by
  rw [(mbxRing_kept m c offset tag d hm hc).ringRes]
  exact tabGet?_tabPut_same _ _ _

/-- A ring writes no memory. -/
theorem mbxRing_memOut (m c offset tag : Nat) (d : Device) (hm : m ≤ 22) (hc : c < 64) :
    (mbxRing m c offset tag d).memOut = d.memOut := by
  rw [(mbxRing_kept m c offset tag d hm hc).memOut, ringPosted]
  split <;> rfl

/-- The rung channel holds what it held, and the doorbell of an accepted ring after it. -/
theorem mbxRing_chan (m c offset tag : Nat) (d : Device) (hm : m ≤ 22) (hc : c < 64) :
    (mbxRing m c offset tag d).chan' c = d.chan' c ++ (if ringCode m c offset d = 0 then [⟨offset, tag⟩] else []) := by
  rw [Device.chan', (mbxRing_kept m c offset tag d hm hc).mbx, ringPosted, mbxResult]
  split
  · exact tabGet_tabPut_same _ _ _ _
  · exact (List.append_nil _).symm

/-- Every other channel is as it was. -/
theorem mbxRing_chan_ne (m c offset tag k : Nat) (d : Device) (hm : m ≤ 22) (hc : c < 64) (hk : k ≠ c) :
    (mbxRing m c offset tag d).chan' k = d.chan' k := by
  rw [Device.chan', (mbxRing_kept m c offset tag d hm hc).mbx, ringPosted, mbxResult]
  split
  · simp only [Device.chan', tabGet, tabGet?_tabPut_ne _ c k _ hk]
  · rfl

end Sys2Proof.Proofs
end

section
/-! SUPPORT. The two writes that ring a channel: the offset is held in the write shadow, and the tag's write commits both (R59,
R415). -/
namespace Sys2Proof.Proofs
open Sys2Proof Sys2Proof.Machine Sys2Proof.Laws

/-- The map's row of the offset word. -/
def ringLowRow : RegRow := ⟨.MBX_RING_W0, 0x11000, [⟨0x10, 64, 1⟩], 0, [], .none, 0, 2, [⟨31, 0, .wo, 0⟩]⟩

/-- The map's row of the tag word. -/
def ringHighRow : RegRow := ⟨.MBX_RING_W1, 0x11004, [⟨0x10, 64, 1⟩], 0, [], .none, 1, 2, [⟨7, 0, .wo, 0⟩]⟩

theorem regAt_ringLow : ∀ c < 64, regAt (A.MBX_RING_W0 c) = some (ringLowRow, c, 0) := by decide +kernel

theorem regAt_ringHigh : ∀ c < 64, regAt (A.MBX_RING_W0 c + 4) = some (ringHighRow, c, 0) := by decide +kernel

/-- Where the words of a ring lie: in FABRIC's blocks, at whole words, and in no register that decides a ring. -/
theorem ringWord_place (c k : Nat) (hc : c < 64) (hk : k = 0 ∨ k = 4) :
    A.MBX_RING_W0 c + k < 0x30000 ∧ (A.MBX_RING_W0 c + k) % 4 = 0 ∧ ¬ RingInput (A.MBX_RING_W0 c + k) := by
  simp only [RingInput, A.MBX_RING_W0, A.PWR_SSTAT]
  omega

/-- The words of a ring lie in FABRIC's domain. -/
theorem domainOf_ringWord (c k : Nat) (hc : c < 64) (hk : k = 0 ∨ k = 4) : domainOf (A.MBX_RING_W0 c + k) = 2 :=
  if_pos (ringWord_place c k hc hk).1

theorem ringWord_mapped : ∀ c < 64, isMapped (A.MBX_RING_W0 c) = true ∧ isMapped (A.MBX_RING_W0 c + 4) = true := by
  decide +kernel

/-- A word of FABRIC's blocks that decides no ring, written, leaves the mailbox alone. -/
theorem putWord_kept (r : RegRow) (i m a v : Nat) (d : Device) (hfabric : a < 0x30000) (ha : ¬ RingInput a) :
    MailboxKept d (putWord r i m a v d) := by
  have hisle : isleOf a < 16 := by rw [isleOf, if_pos hfabric]; decide
  unfold putWord
  dsimp only
  split
  · exact (MailboxKept.of_wr d a _ ha).trans (.of_tallyOnly (log_tally _ _ _ _ _ _ _ hisle))
  · exact .of_wr d a _ ha

/-- The device with the word that master `m` has written at `a` in its write shadow. -/
def heldAt (m a v : Nat) (d : Device) : Device := { d with writeShadow := tabPut d.writeShadow m (tabPut (d.shadow m) a (word v)) }

/-- A word just held is in the shadow. -/
theorem heldAt_shadow (m a v : Nat) (d : Device) : tabGet? ((heldAt m a v d).shadow m) a = some (word v) := by
  simp [heldAt, Device.shadow]

/-- The write of the offset is held. -/
theorem regStore_ringLow (m c v : Nat) (mem : List Host.Cell) (d : Device) (hc : c < 64) :
    (regStore m (A.MBX_RING_W0 c) v mem d).2 = heldAt m (A.MBX_RING_W0 c) v d := by
  rw [regStore, regAt_ringLow c hc]
  rfl

/-- With no sleep entry in progress and the device awake, a doorbell is no wake event (R500). -/
theorem mbxWake_awake (d : Device) (hstep : d.step' = 0) (hawake : d.asleep = 0) : mbxWake d = d := by
  simp [mbxWake, wakeEvent, hstep, hawake]

/-- The effect of the tag's write on an awake device is the ring. -/
theorem ringEffect_awake (m c offset tag a old oldLo : Nat) (mem : List Host.Cell) (d : Device) (hm : m ≤ 22) (hc : c < 64)
    (htag : tag < 2 ^ 8) (hstep : d.step' = 0) (hawake : d.asleep = 0) :
    regEffect .MBX_RING_W1 ⟨m, c, 0, a, old, oldLo, tag, [offset]⟩ mem d = mbxRing m c offset tag d := by
  have hsleep := mbxRing_rd m c offset tag A.PWR_SSTAT d hm hc (.inr rfl)
  have hwake : mbxWake (mbxRing m c offset tag d) = mbxRing m c offset tag d := by
    refine mbxWake_awake _ (Eq.trans ?_ hstep) (Eq.trans ?_ hawake)
    · exact congrArg (bitsOf · 27 3) hsleep
    · exact congrArg (bitsOf · 30 2) hsleep
  have hbits : bitsOf tag 0 8 = tag := by rw [bitsOf, Nat.pow_zero, Nat.div_one, Nat.mod_eq_of_lt htag]
  show coreEffect .MBX_RING_W1 ⟨m, c, 0, a, old, oldLo, tag, [offset]⟩ mem d = _
  simp only [coreEffect, List.headD_cons, hbits, hwake, ite_self]

/-- The device in which a commit of master `m` has put both words of a ring: what reads as 0 is written, and no word is held. -/
def ringCommitted (m c offset tag : Nat) (d : Device) : Device :=
  putWord ringHighRow c m (A.MBX_RING_W0 c + 4) tag (putWord ringLowRow c m (A.MBX_RING_W0 c) offset
    { d with writeShadow :=
        tabPut d.writeShadow m ((d.shadow m).filter fun x => x.1 < A.MBX_RING_W0 c || A.MBX_RING_W0 c + 4 ≤ x.1) })

theorem ringCommitted_kept (m c offset tag : Nat) (d : Device) (hc : c < 64) : MailboxKept d (ringCommitted m c offset tag d) := by
  obtain ⟨hlowFabric, -, hlow⟩ := ringWord_place c 0 hc (.inl rfl)
  obtain ⟨hhighFabric, -, hhigh⟩ := ringWord_place c 4 hc (.inr rfl)
  refine MailboxKept.trans ?_ ((putWord_kept _ _ _ _ _ _ hlowFabric hlow).trans (putWord_kept _ _ _ _ _ _ hhighFabric hhigh))
  exact ⟨rfl, rfl, rfl, fun _ _ => rfl⟩

/-- The write of the tag commits it with the offset held. -/
theorem regStore_ringHigh (m c offset tag : Nat) (mem : List Host.Cell) (d : Device) (hc : c < 64) (hoffset : offset < 2 ^ 32)
    (hheld : tabGet? (d.shadow m) (A.MBX_RING_W0 c) = some (word offset)) :
    (regStore m (A.MBX_RING_W0 c + 4) tag mem d).2 =
      regEffect .MBX_RING_W1 ⟨m, c, 0, A.MBX_RING_W0 c + 4, d.rd (A.MBX_RING_W0 c + 4), d.rd (A.MBX_RING_W0 c), tag, [offset]⟩ mem
        (ringCommitted m c offset tag d) := by
  have hlow : regAt (A.MBX_RING_W0 c + 4 - 4 * 1 + 4 * 0) = some (ringLowRow, c, 0) := regAt_ringLow c hc
  have hheld' : (tabGet? (d.shadow m) (A.MBX_RING_W0 c + 4 - 4 * 1 + 4 * 0)).map (·.toNat) = some offset := by
    rw [show A.MBX_RING_W0 c + 4 - 4 * 1 + 4 * 0 = A.MBX_RING_W0 c from rfl, hheld, Option.map_some, word_toNat offset hoffset]
  rw [regStore, regAt_ringHigh c hc]
  show (wideCommit ringHighRow c 0 m (A.MBX_RING_W0 c + 4) tag _ mem _) = _
  unfold wideCommit
  simp only [ringHighRow, List.range_one, List.map_cons, List.map_nil, List.foldl_cons, List.foldl_nil, hlow, hheld', Option.getD_some]
  rfl

/-- The answer to a word of a ring that reaches its target; the other word then reaches it too. -/
theorem busWrite_ringWord (m c k v : Nat) (mem : List Host.Cell) (d : Device) (hc : c < 64) (hk : k = 0 ∨ k = 4)
    (h : d.reaches m (A.MBX_RING_W0 c + k)) :
    busWrite m (A.MBX_RING_W0 c + k) 4 v mem d = (regStore m (A.MBX_RING_W0 c + k) v mem d).2.replied m (A.MBX_RING_W0 c + k) 0 := by
  obtain ⟨hfabric, hword, -⟩ := ringWord_place c k hc hk
  refine busWrite_register m _ v mem d h (by omega) hword ?_
  obtain rfl | rfl := hk
  · exact (ringWord_mapped c hc).1
  · exact (ringWord_mapped c hc).2

/-- The write of the offset is held and answered. -/
theorem busWrite_ringLow (m c v : Nat) (mem : List Host.Cell) (d : Device) (hc : c < 64) (h : d.reaches m (A.MBX_RING_W0 c)) :
    busWrite m (A.MBX_RING_W0 c) 4 v mem d = (heldAt m (A.MBX_RING_W0 c) v d).replied m (A.MBX_RING_W0 c) 0 := by
  rw [← regStore_ringLow m c v mem d hc]
  exact busWrite_ringWord m c 0 v mem d hc (.inl rfl) h

/-- Once the offset is held, the tag's write reaches its target. -/
theorem reaches_ringHigh (m c v : Nat) (d : Device) (hc : c < 64) (h : d.reaches m (A.MBX_RING_W0 c)) :
    ((heldAt m (A.MBX_RING_W0 c) v d).replied m (A.MBX_RING_W0 c) 0).reaches m (A.MBX_RING_W0 c + 4) := by
  have hdomain : domainOf (A.MBX_RING_W0 c + 4) = domainOf (A.MBX_RING_W0 c) :=
    (domainOf_ringWord c 4 hc (.inr rfl)).trans (domainOf_ringWord c 0 hc (.inl rfl)).symm
  obtain ⟨hanswers, hfree, hawake, hheld, hon⟩ := h
  rw [← hdomain] at hheld hon
  exact ⟨hanswers, hfree, hawake, hheld, hon⟩

/-- The write of the tag, with the offset held and the device awake, rings the channel and is answered. -/
theorem busWrite_ringHigh (m c offset tag : Nat) (mem : List Host.Cell) (d : Device) (hm : m ≤ 22) (hc : c < 64)
    (hoffset : offset < 2 ^ 32) (htag : tag < 2 ^ 8) (hstep : d.step' = 0) (h : d.reaches m (A.MBX_RING_W0 c + 4))
    (hheld : tabGet? (d.shadow m) (A.MBX_RING_W0 c) = some (word offset)) :
    busWrite m (A.MBX_RING_W0 c + 4) 4 tag mem d =
      (mbxRing m c offset tag (ringCommitted m c offset tag d)).replied m (A.MBX_RING_W0 c + 4) 0 := by
  have ⟨_, _, hsleepState, _, _⟩ := h
  have hkept := ringCommitted_kept m c offset tag d hc
  have hsleep : RingInput A.PWR_SSTAT := .inr rfl
  have hstep' : (ringCommitted m c offset tag d).step' = 0 := (hkept.get L.PWR_SSTAT_STEP hsleep).trans hstep
  have hawake : (ringCommitted m c offset tag d).asleep = 0 := (hkept.get L.PWR_SSTAT_SSTATE hsleep).trans hsleepState
  rw [busWrite_ringWord m c 4 tag mem d hc (.inr rfl) h, regStore_ringHigh m c offset tag mem d hc hoffset hheld,
    ringEffect_awake m c offset tag _ _ _ mem _ hm hc htag hstep' hawake]

/-- Both words of a ring, written on an awake device, ring the channel once, with the mailbox as it was before them. -/
theorem wordsStore_ring (m c offset tag : Nat) (mem : List Host.Cell) (d : Device) (hm : m ≤ 22) (hc : c < 64)
    (hoffset : offset < 2 ^ 32) (htag : tag < 2 ^ 8) (hstep : d.step' = 0) (h : d.reaches m (A.MBX_RING_W0 c)) :
    ∃ e, MailboxKept d e ∧ wordsStore m (A.MBX_RING_W0 c) [offset, tag] mem d =
      (mbxRing m c offset tag e).replied m (A.MBX_RING_W0 c + 4) 0 := by
  have hheld : MailboxKept d ((heldAt m (A.MBX_RING_W0 c) offset d).replied m (A.MBX_RING_W0 c) 0) :=
    ⟨rfl, rfl, rfl, fun _ _ => rfl⟩
  refine ⟨_, hheld.trans (ringCommitted_kept m c offset tag _ hc), ?_⟩
  simp only [wordsStore, busWrite_ringLow m c offset mem d hc h]
  exact busWrite_ringHigh m c offset tag mem _ hm hc hoffset htag hstep (reaches_ringHigh m c offset d hc h)
    (heldAt_shadow m _ offset d)

/-- A ring command is the writes of its two words. -/
theorem exec_mbxRingCommit (m c offset tag : Nat) (s : State) :
    exec (.mbxRingCommit m c offset tag) s
      = act (.mbxRingCommit m c offset tag) s (wordsStore m (A.MBX_RING_W0 c) [offset, tag]) := rfl

/-- A ring command that reaches its target rings the channel once, with the mailbox as it was before, and writes no memory. -/
theorem exec_mbxRingCommit_rings (m c offset tag : Nat) (s : State) (hwf : (Instr.mbxRingCommit m c offset tag).wf = true)
    (hs : s.Settled) (hstep : s.dev.step' = 0) (h : s.dev.reaches m (A.MBX_RING_W0 c)) :
    m ≤ 22 ∧ c < 64 ∧ ∃ e, MailboxKept s.dev e ∧
      ActsOnDevice (.mbxRingCommit m c offset tag) s ((mbxRing m c offset tag e).replied m (A.MBX_RING_W0 c + 4) 0) := by
  obtain ⟨⟨⟨hm, hc⟩, hoffset⟩, htag⟩ : ((m ≤ 22 ∧ c < 64) ∧ offset < 2 ^ 32) ∧ tag < 2 ^ 8 := by
    simpa [Instr.wf, isMaster, fits] using hwf
  obtain ⟨e, he, hring⟩ := wordsStore_ring m c offset tag s.mem s.dev hm hc hoffset htag hstep h
  have hmem : (wordsStore m (A.MBX_RING_W0 c) [offset, tag] s.mem s.dev).memOut = [] := by
    rw [hring]
    exact (mbxRing_memOut m c offset tag e hm hc).trans (he.memOut.trans hs.2)
  refine ⟨hm, hc, e, he, ?_⟩
  rw [ActsOnDevice, exec_mbxRingCommit, act_onDevice _ _ _ hwf hs.2 hmem, hring]

/-- Settles O19: the writes of a ring leave what decides it as it was (`wordsStore_ring`), so the ring has the result of the
checks in the state before (`ringCode_kept`), and its channel, its event and its record follow from that result. -/
theorem ringChecksInOrder : Obligations.RingChecksInOrder := by
  unfold Obligations.RingChecksInOrder
  intro m c offset tag s hwf hs hstep hreach
  obtain ⟨hm, hc, e, he, hexec⟩ := exec_mbxRingCommit_rings m c offset tag s hwf hs hstep hreach
  have hcode : ringCode m c offset e = ringCode m c offset s.dev := ringCode_kept he m c offset hc
  have hchan : ∀ k, e.chan' k = s.dev.chan' k := fun k => by rw [Device.chan', he.mbx, Device.chan']
  refine ⟨_, hexec, ?_, ?_, fun k hk => ?_, fun hrefused => ?_, fun _ => rfl⟩
  · exact (mbxRing_ringRes m c offset tag e hm hc).trans (by rw [hcode]; rfl)
  · exact (mbxRing_chan m c offset tag e hm hc).trans (by rw [hcode, hchan]; rfl)
  · exact (mbxRing_chan_ne m c offset tag k e hm hc hk).trans (hchan k)
  · obtain ⟨x, -, hx⟩ := mbxRing_refused m c offset tag e hc (hcode ▸ hrefused)
    rw [hcode] at hx
    rw [hx]
    exact ⟨ringEvent_on _ m _ _ hm, _, rfl⟩

end Sys2Proof.Proofs
end

section
/-! SUPPORT. A power domain's status word: its state and its votes, and what of them a written state or a written vote changes
(R488, R489). -/
namespace Sys2Proof.Proofs
open Sys2Proof Sys2Proof.Machine Sys2Proof.Laws

/-- A votable domain's state is the one its status word shows. -/
theorem domState_votable {n : Nat} (d : Device) (hn : neverOff n = false) : d.domState n = d.get (L.PWR_DSTAT_STATE n) := by
  simp [Device.domState, hn]

/-- A PATH or OBS domain is votable. -/
theorem neverOff_leaf (j : Nat) : neverOff (24 + j) = false := by
  simp [neverOff]; omega

/-- Different domains have different status words. -/
theorem dstat_ne {n k : Nat} (h : n ≠ k) : A.PWR_DSTAT n ≠ A.PWR_DSTAT k := by
  simp only [A.PWR_DSTAT]; omega

/-- Where the status word is the same, so is the state. -/
theorem domState_of_dstat {n : Nat} {d e : Device} (hn : neverOff n = false) (h : e.rd (A.PWR_DSTAT n) = d.rd (A.PWR_DSTAT n)) :
    e.domState n = d.domState n := by
  rw [domState_votable _ hn, domState_votable _ hn]
  exact congrArg (bitsOf · 29 3) h

/-- Where the status word is the same, so are the votes. -/
theorem votes_of_dstat {n : Nat} {d e : Device} (h : e.rd (A.PWR_DSTAT n) = d.rd (A.PWR_DSTAT n)) : e.votes n = d.votes n :=
  congrArg (bitsOf · 0 23) h

/-- Setting a domain's state leaves every domain's votes. -/
@[simp] theorem votes_setDom (n st k : Nat) (d : Device) : (setDom n st d).votes k = d.votes k :=
  get_set_disjoint d st (L.PWR_DSTAT_STATE n) (L.PWR_DSTAT_VOTES k) (by simp [L.PWR_DSTAT_VOTES])
    (.inl (by simp [L.PWR_DSTAT_VOTES, L.PWR_DSTAT_STATE]))

/-- A votable domain's state just set is read back. -/
theorem domState_setDom_same {n st : Nat} (d : Device) (hn : neverOff n = false) (hst : st < 8) : (setDom n st d).domState n = st := by
  rw [domState_votable _ hn, setDom, get_set_same _ _ _ (by simp [L.PWR_DSTAT_STATE])]
  exact Nat.mod_eq_of_lt hst

/-- Setting a domain's state leaves that of every other votable domain. -/
theorem domState_setDom_ne {n k : Nat} (st : Nat) (d : Device) (hk : neverOff k = false) (h : k ≠ n) :
    (setDom n st d).domState k = d.domState k := by
  rw [domState_votable _ hk, domState_votable _ hk]
  exact get_set_ne d st (L.PWR_DSTAT_STATE n) (L.PWR_DSTAT_STATE k) (dstat_ne h)

/-- Writing a domain's votes leaves its state. -/
theorem domState_set_votes {n : Nat} (v : Nat) (d : Device) (hn : neverOff n = false) :
    (d.set (L.PWR_DSTAT_VOTES n) v).domState n = d.domState n := by
  rw [domState_votable _ hn, domState_votable _ hn]
  exact get_set_disjoint d v (L.PWR_DSTAT_VOTES n) (L.PWR_DSTAT_STATE n) (by simp [L.PWR_DSTAT_STATE])
    (.inr (by simp [L.PWR_DSTAT_STATE, L.PWR_DSTAT_VOTES]))

/-- A domain's votes just written read back as 23 bits. -/
@[simp] theorem votes_set_same (n v : Nat) (d : Device) : (d.set (L.PWR_DSTAT_VOTES n) v).votes n = v % 2 ^ 23 :=
  get_set_same d v (L.PWR_DSTAT_VOTES n) (by simp [L.PWR_DSTAT_VOTES])

/-- A vote stands where its bit of the vote field is 1. -/
theorem voted_eq_testBit (d : Device) (n b : Nat) : d.voted n b = (d.votes n).testBit b := by
  simp [Device.voted, bitsOf, Nat.testBit_eq_decide_div_mod_eq, beq_eq_decide]

/-- A vote that did not stand, added to the votes, stands. -/
theorem voted_of_add {n b : Nat} (d : Device) (hb : b < 23) (h : d.voted n b = false) :
    (d.set (L.PWR_DSTAT_VOTES n) (d.votes n + 2 ^ b)).voted n b = true := by
  rw [voted_eq_testBit] at h
  rw [voted_eq_testBit, votes_set_same, Nat.testBit_mod_two_pow, Nat.add_comm, Nat.testBit_two_pow_add_eq, h]
  simpa using hb

/-- A vote that stood, taken off the votes, does not stand. -/
theorem not_voted_of_sub {n b : Nat} (d : Device) (h : d.voted n b = true) :
    (d.set (L.PWR_DSTAT_VOTES n) (d.votes n - 2 ^ b)).voted n b = false := by
  rw [voted_eq_testBit] at h
  have hsum : 2 ^ b + (d.votes n - 2 ^ b) = d.votes n := Nat.add_sub_cancel' (Nat.ge_two_pow_of_testBit h)
  rw [← hsum, Nat.testBit_two_pow_add_eq, Bool.not_eq_true'] at h
  rw [voted_eq_testBit, votes_set_same, Nat.testBit_mod_two_pow, h, Bool.and_false]

/-! ## One vote of a domain that is OFF (R490) -/

/-- A vote newly set in a votable domain that is OFF: power-up begins and the failure is over. -/
theorem voteOne_off {n b : Nat} (d : Device) (hn : neverOff n = false) (hoff : d.domState n = 0) (hb : d.voted n b = false) :
    voteOne n b d = setDom n 1 { d.set (L.PWR_DSTAT_VOTES n) (d.votes n + 2 ^ b) with dfail := d.dfail.filter (· != n) } := by
  have hstate : (d.set (L.PWR_DSTAT_VOTES n) (d.votes n + 2 ^ b)).domState n = 0 := (domState_set_votes _ d hn).trans hoff
  simp [voteOne, hn, hb, hstate]

/-- A vote newly set in a votable domain that is OFF stands, takes the domain to UP and ends the failure. -/
theorem voteOne_off_spec {n b : Nat} (d : Device) (hn : neverOff n = false) (hoff : d.domState n = 0) (hlt : b < 23)
    (hb : d.voted n b = false) :
    (voteOne n b d).domState n = 1 ∧ (voteOne n b d).voted n b = true ∧ (voteOne n b d).dfail.contains n = false ∧
      (voteOne n b d).memOut = d.memOut := by
  rw [voteOne_off d hn hoff hb]
  refine ⟨domState_setDom_same _ hn (by decide), ?_, by simp [setDom], rfl⟩
  rw [voted_eq_testBit, votes_setDom, ← voted_of_add d hlt hb, voted_eq_testBit]
  rfl

/-- A vote withdrawn in a votable domain that is OFF only leaves its vote field. -/
theorem unvoteOne_off {n b : Nat} (d : Device) (hn : neverOff n = false) (hoff : d.domState n = 0) (hb : d.voted n b = true) :
    unvoteOne n b d = d.set (L.PWR_DSTAT_VOTES n) (d.votes n - 2 ^ b) := by
  have hstate : (d.set (L.PWR_DSTAT_VOTES n) (d.votes n - 2 ^ b)).domState n = 0 := (domState_set_votes _ d hn).trans hoff
  simp [unvoteOne, hn, hb, hstate]

/-- A vote withdrawn in a votable domain that is OFF stands no more, and the domain stays OFF. -/
theorem unvoteOne_off_spec {n b : Nat} (d : Device) (hn : neverOff n = false) (hoff : d.domState n = 0) (hb : d.voted n b = true) :
    (unvoteOne n b d).domState n = 0 ∧ (unvoteOne n b d).voted n b = false ∧ (unvoteOne n b d).memOut = d.memOut := by
  rw [unvoteOne_off d hn hoff hb]
  exact ⟨(domState_set_votes _ d hn).trans hoff, not_voted_of_sub d hb, rfl⟩

end Sys2Proof.Proofs
end

section
/-! SUPPORT. What leaves a power domain, its failure and the waiting accesses alone: votes of other domains, records, and the bank
changes that WEIGHT messages ask for (R213, R355, R487). -/
namespace Sys2Proof.Proofs
open Sys2Proof Sys2Proof.Machine Sys2Proof.Laws

/-- The status word of domain `n`, whether it has failed to power up, the PWR events, the bytes to write and the waiting accesses
are as they were. -/
structure DomainKept (n : Nat) (d e : Device) : Prop where
  dstat : e.rd (A.PWR_DSTAT n) = d.rd (A.PWR_DSTAT n)
  event : e.rd A.PWR_EVENT = d.rd A.PWR_EVENT
  dfail : e.dfail.contains n = d.dfail.contains n
  memOut : e.memOut = d.memOut
  stalled : e.stalled = d.stalled
  dmaStall : e.dmaStall = d.dmaStall

namespace DomainKept

theorem refl (n : Nat) (d : Device) : DomainKept n d d := ⟨rfl, rfl, rfl, rfl, rfl, rfl⟩

theorem trans {n : Nat} {d e f : Device} (h : DomainKept n d e) (k : DomainKept n e f) : DomainKept n d f :=
  ⟨k.dstat.trans h.dstat, k.event.trans h.event, k.dfail.trans h.dfail, k.memOut.trans h.memOut, k.stalled.trans h.stalled,
    k.dmaStall.trans h.dmaStall⟩

theorem votes {n : Nat} {d e : Device} (h : DomainKept n d e) : e.votes n = d.votes n := votes_of_dstat h.dstat

theorem voted {n : Nat} {d e : Device} (h : DomainKept n d e) (b : Nat) : e.voted n b = d.voted n b := by
  rw [voted_eq_testBit, h.votes, voted_eq_testBit]

theorem domState {n : Nat} {d e : Device} (h : DomainKept n d e) (hn : neverOff n = false) : e.domState n = d.domState n :=
  domState_of_dstat hn h.dstat

theorem on_event {n : Nat} {d e : Device} (h : DomainKept n d e) (l : Loc) (hl : l.addr = A.PWR_EVENT) : e.on l = d.on l := by
  rw [Device.on, Device.get, hl, h.event, ← hl]; rfl

theorem of_set {n : Nat} (d : Device) (l : Loc) (v : Nat) (hdstat : l.addr ≠ A.PWR_DSTAT n) (hevent : l.addr ≠ A.PWR_EVENT) :
    DomainKept n d (d.set l v) :=
  ⟨rd_set_ne d v l _ hdstat.symm, rd_set_ne d v l _ hevent.symm, rfl, rfl, rfl, rfl⟩

/-- Tally records leave every domain alone. -/
theorem of_tallyOnly {d e : Device} (n : Nat) (h : TallyOnly d e) : DomainKept n d e :=
  ⟨h.regs _ (.inr (by simp only [A.PWR_DSTAT]; omega)), h.regs _ (.inr (by simp [A.PWR_EVENT])),
    h.keep (·.dfail.contains n) fun _ _ _ _ _ => rfl, h.memOut, h.keep _ fun _ _ _ _ _ => rfl, h.keep _ fun _ _ _ _ _ => rfl⟩

theorem of_foldl {n : Nat} {β : Type} (f : Device → β → Device) (hf : ∀ d x, DomainKept n d (f d x)) (l : List β) (d : Device) :
    DomainKept n d (l.foldl f d) := by
  induction l generalizing d with
  | nil => exact refl n d
  | cons x l ih => exact (hf d x).trans (ih _)

end DomainKept

/-! ## Votes of other domains -/

/-- A status word is not the PWR event word. -/
theorem dstat_ne_event (n : Nat) : A.PWR_DSTAT n ≠ A.PWR_EVENT := by
  simp only [A.PWR_DSTAT, A.PWR_EVENT]; omega

/-- A field of another domain's status word is no part of this domain. -/
theorem DomainKept.of_set_dstat {n k : Nat} (d : Device) (l : Loc) (v : Nat) (hl : l.addr = A.PWR_DSTAT k) (h : k ≠ n) :
    DomainKept n d (d.set l v) :=
  .of_set d l v (hl ▸ dstat_ne h) (hl ▸ dstat_ne_event k)

theorem DomainKept.of_setDom {n k : Nat} (st : Nat) (d : Device) (h : k ≠ n) : DomainKept n d (setDom k st d) :=
  .of_set_dstat d _ st rfl h

/-- The end of another domain's failure is no end of this one's. -/
theorem DomainKept.of_dfail_filter {n k : Nat} (d : Device) (h : k ≠ n) :
    DomainKept n d { d with dfail := d.dfail.filter (· != k) } := by
  refine ⟨rfl, rfl, ?_, rfl, rfl, rfl⟩
  rw [Bool.eq_iff_iff]
  simp [h.symm]

/-- A vote set in one domain leaves every other domain alone. -/
theorem DomainKept.of_voteOne {n k : Nat} (b : Nat) (d : Device) (h : k ≠ n) : DomainKept n d (voteOne k b d) := by
  unfold voteOne
  split
  · exact .refl n d
  · refine (DomainKept.of_set_dstat d (L.PWR_DSTAT_VOTES k) (d.votes k + 2 ^ b) rfl h).trans ?_
    dsimp only
    split
    · exact (DomainKept.of_dfail_filter _ h).trans (.of_setDom 1 _ h)
    · exact .of_setDom 2 _ h
    · exact .refl n _

/-- A vote withdrawn in one domain leaves every other domain alone. -/
theorem DomainKept.of_unvoteOne {n k : Nat} (b : Nat) (d : Device) (h : k ≠ n) : DomainKept n d (unvoteOne k b d) := by
  unfold unvoteOne
  split
  · exact .refl n d
  · refine (DomainKept.of_set_dstat d (L.PWR_DSTAT_VOTES k) (d.votes k - 2 ^ b) rfl h).trans ?_
    dsimp only
    split
    · exact .of_setDom 3 _ h
    · exact .refl n _

/-! ## The DEP votes (R487) -/

/-- Some PATH or OBS domain is not off. -/
def leafOn (d : Device) : Bool := (List.range 72).any fun j => d.domState (24 + j) != 0

/-- The DEP votes of LANE and SYNTH follow the PATH and OBS domains. -/
theorem depVotes_eq (d : Device) :
    depVotes d = if leafOn d then voteOne 4 20 (voteOne 7 20 d) else unvoteOne 4 20 (unvoteOne 7 20 d) := rfl

/-- The DEP votes of SYNTH and LANE stand as R487 has them. -/
def DepVotesStand (d : Device) : Prop := ∀ k, k = 4 ∨ k = 7 → d.voted k 20 = leafOn d

/-- Where the DEP votes stand as R487 has them, bringing them up to date changes nothing. -/
theorem depVotes_of_stand {d : Device} (h : DepVotesStand d) : depVotes d = d := by
  have h4 := h 4 (.inl rfl)
  have h7 := h 7 (.inr rfl)
  rw [depVotes_eq]
  cases hleaf : leafOn d <;> simp [voteOne, unvoteOne, h4, h7, hleaf]

/-- The DEP votes belong to SYNTH and LANE alone. -/
theorem DomainKept.of_depVotes {n : Nat} (d : Device) (h4 : n ≠ 4) (h7 : n ≠ 7) : DomainKept n d (depVotes d) := by
  rw [depVotes_eq]
  split
  · exact (DomainKept.of_voteOne 20 d h7.symm).trans (.of_voteOne 20 _ h4.symm)
  · exact (DomainKept.of_unvoteOne 20 d h7.symm).trans (.of_unvoteOne 20 _ h4.symm)

/-- What depends on a domain's vote leaves that domain alone. -/
theorem DomainKept.of_vote (n b : Nat) (d : Device) : DomainKept n (voteOne n b d) (vote n b d) := by
  unfold vote
  dsimp only
  split
  case isTrue hleaf =>
    have hn : 24 ≤ n := by simpa [isLeaf] using hleaf
    exact .of_depVotes _ (by omega) (by omega)
  case isFalse => exact .refl n _

/-- A new state of a domain that is no PATH or OBS domain leaves the DEP votes standing. -/
theorem DepVotesStand.of_setDom {d : Device} (h : DepVotesStand d) {n : Nat} (st : Nat) (hn : n < 24) :
    DepVotesStand (setDom n st d) := by
  have hleaf : leafOn (setDom n st d) = leafOn d :=
    congrArg (List.any _) (funext fun j => by
      rw [domState_setDom_ne st d (neverOff_leaf j) (by omega)])
  intro k hk
  rw [hleaf, ← h k hk, voted_eq_testBit, votes_setDom, voted_eq_testBit]

/-- What leaves every status word leaves the DEP votes standing. -/
theorem DepVotesStand.of_dstat {d e : Device} (h : DepVotesStand d) (he : ∀ n, e.rd (A.PWR_DSTAT n) = d.rd (A.PWR_DSTAT n)) :
    DepVotesStand e := by
  have hleaf : leafOn e = leafOn d :=
    congrArg (List.any _) (funext fun j => by rw [domState_of_dstat (neverOff_leaf j) (he _)])
  intro k hk
  rw [hleaf, ← h k hk, voted_eq_testBit, votes_of_dstat (he k), voted_eq_testBit]

/-! ## Bank changes of the beam weights -/

/-- A register of the beamformer belongs to no domain's status. -/
theorem DomainKept.of_set_beam {n : Nat} (hn : n < 96) (d : Device) (l : Loc) (v : Nat) (hl : 0x400000 ≤ l.addr) :
    DomainKept n d (d.set l v) :=
  .of_set d l v (by simp only [A.PWR_DSTAT]; omega) (by simp only [A.PWR_EVENT]; omega)

/-- The fields of a carrier's XF_STAT lie in the beamformer. -/
theorem xfField_beam_addr (i lo w : Nat) : 0x400000 ≤ (xfField (.beam i) lo w).addr := by
  simp only [xfField, xfStat, A.BM_XF_STAT]; omega

theorem DomainKept.of_setXf {n : Nat} (hn : n < 96) (i : Nat) (c : XfCtl) (d : Device) : DomainKept n d (setXf (.beam i) c d) := by
  have hset := fun d lo w v => DomainKept.of_set_beam hn d _ v (xfField_beam_addr i lo w)
  refine DomainKept.trans ?_ (((hset _ 30 2 _).trans (hset _ 29 1 _)).trans (hset _ 20 4 _))
  exact ⟨rfl, rfl, rfl, rfl, rfl, rfl⟩

theorem DomainKept.of_xfRefuse {n : Nat} (hn : n < 96) (i target fade start : Nat) (d : Device) :
    DomainKept n d (xfRefuse (.beam i) target fade start d) :=
  (DomainKept.of_set_beam hn d _ 1 (xfField_beam_addr i 26 1)).trans
    (.of_tallyOnly n (log_tally _ _ _ _ _ _ _ (show isleGRID < 16 by decide)))

theorem DomainKept.of_recomputeFrom {n : Nat} (hn : n < 96) (i start : Nat) (d : Device) :
    DomainKept n d (recomputeFrom i start d) := by
  refine DomainKept.trans ?_ (DomainKept.of_set_beam hn _ (L.BM_CCNT_RECOMP i) _ ?_)
  · exact ⟨rfl, rfl, rfl, rfl, rfl, rfl⟩
  · simp only [L.BM_CCNT_RECOMP, A.BM_CCNT]; omega

theorem DomainKept.of_when {n : Nat} {b : Bool} {f : Device → Device} (d : Device) (hf : DomainKept n d (f d)) :
    DomainKept n d (d.when b f) := by
  unfold Device.when
  split
  · exact hf
  · exact .refl n d

/-- A request of a bank change of beam weights, accepted or refused, leaves every domain alone. -/
theorem DomainKept.of_xfRequest {n : Nat} (hn : n < 96) (i target fade atMode at' : Nat) (d : Device) :
    DomainKept n d (xfRequest (.beam i) target fade atMode at' d) := by
  have hset := fun d lo w v => DomainKept.of_set_beam hn d _ v (xfField_beam_addr i lo w)
  unfold xfRequest
  dsimp only
  generalize d.xfStart (.beam i) atMode at' = boundary
  obtain ⟨start, late⟩ := boundary
  have haccepted : ∀ (b : Bool) (c : XfCtl), DomainKept n d (setXf (.beam i) c
      ((d.when late fun d => d.set (xfField (.beam i) 28 1) 1).when b fun d => d.inc (xfField (.beam i) 0 16))) := fun b c =>
    ((DomainKept.of_when d (hset d 28 1 1)).trans (.of_when _ (hset _ 0 16 _))).trans (.of_setXf hn i c _)
  split
  case isTrue => exact .of_setXf hn i _ d
  split
  case isTrue => exact .of_xfRefuse hn i _ _ _ d
  split
  case isTrue => exact .of_xfRefuse hn i _ _ _ d
  cases start with
  | none => split_ifs <;> exact haccepted _ _
  | some s =>
    have hrecomputed := fun b c => (haccepted b c).trans (.of_recomputeFrom hn i s _)
    dsimp only
    split_ifs
    · exact hrecomputed _ _
    · exact hrecomputed _ _
    · exact haccepted _ _
    · exact haccepted _ _

/-- The bank changes that wait for the entries of their messages leave every domain alone (R355). -/
theorem DomainKept.of_weightApplies {n : Nat} (hn : n < 96) (d : Device) : DomainKept n d (weightApplies d) := by
  unfold weightApplies
  split
  · exact .refl n d
  · refine DomainKept.trans ?_ (.of_foldl _ (fun d (x : WeightApply) => .of_xfRequest hn x.carrier x.bank x.fade 1 x.at' d) _ _)
    exact ⟨rfl, rfl, rfl, rfl, rfl, rfl⟩

/-- With no access waiting, what follows a change of a domain's state leaves every domain alone. -/
theorem DomainKept.of_waitsSettle {n : Nat} (hn : n < 96) (mem : List Host.Cell) (d : Device) (hstalled : d.stalled = [])
    (hdma : d.dmaStall = none) : DomainKept n d (waitsSettle mem d) := by
  have hsettle : stallSettle mem d = weightApplies d := by simp [stallSettle, hstalled, stallRun]
  have hkept := DomainKept.of_weightApplies hn d
  have hnone : (weightApplies d).dmaStall = none := hkept.dmaStall.trans hdma
  rw [waitsSettle, hsettle]
  simp only [hnone]
  exact hkept

end Sys2Proof.Proofs
end

section
/-! SUPPORT. A Bead's write of its own vote (R488), and a domain that fails to power up (R490). -/
namespace Sys2Proof.Proofs
open Sys2Proof Sys2Proof.Machine Sys2Proof.Laws

/-! ## A power-up that fails -/

/-- Domain `n` OFF and noted as failed. -/
def failedOff (n : Nat) (d : Device) : Device := setDom n 0 { d with dfail := n :: d.dfail.filter (· != n) }

/-- What domain `n` sees of its failure: OFF, the failure noted, and the event. -/
def failedUp (n : Nat) (d : Device) : Device := (failedOff n d).set L.PWR_EVENT_DFAIL 1

/-- A failed power-up leaves the domain OFF, its votes as they were, DFAIL raised and the failure noted. -/
theorem failedUp_spec {n : Nat} (d : Device) (hn : neverOff n = false) :
    (failedUp n d).domState n = 0 ∧ (failedUp n d).votes n = d.votes n ∧ (failedUp n d).on L.PWR_EVENT_DFAIL = true ∧
      (failedUp n d).dfail.contains n = true := by
  have hword : ∀ (e : Device) (l : Loc), l.addr = A.PWR_DSTAT n → (e.set L.PWR_EVENT_DFAIL 1).get l = e.get l :=
    fun e l hl => get_set_ne e 1 _ l (hl ▸ dstat_ne_event n)
  refine ⟨?_, ?_, ?_, by simp [failedUp, failedOff, setDom]⟩
  · rw [domState_votable _ hn, failedUp, hword _ _ rfl, ← domState_votable _ hn]
    exact domState_setDom_same _ hn (by decide)
  · exact (hword _ (L.PWR_DSTAT_VOTES n) rfl).trans (votes_setDom n 0 n _)
  · rw [Device.on, failedUp, get_set_same _ _ _ (by decide)]; rfl

/-- Of domain `n`, a failed power-up changes no more than that. -/
theorem domainFail_kept {n : Nat} (d : Device) (hn : neverOff n = false) (hup : d.domState n = 1) (hdep : DepVotesStand d) :
    DomainKept n (failedUp n d) (domainFail n d) := by
  have hfail : domainFail n d = depVotes (pwrEvent L.PWR_EVENT_DFAIL n 1 [] (failedOff n d)) := by
    simp [domainFail, hn, hup, failedOff]
  have hlog : TallyOnly (failedUp n d) (pwrEvent L.PWR_EVENT_DFAIL n 1 [] (failedOff n d)) :=
    event_tally _ _ _ _ _ _ _ _ (by decide)
  rw [hfail]
  by_cases hown : n = 4 ∨ n = 7
  · have hstand : DepVotesStand (failedOff n d) :=
      DepVotesStand.of_setDom (d := { d with dfail := n :: d.dfail.filter (· != n) }) hdep 0 (by omega)
    rw [depVotes_of_stand (hstand.of_dstat fun k => ?_)]
    · exact .of_tallyOnly n hlog
    · rw [hlog.regs _ (.inr (by simp only [A.PWR_DSTAT]; omega)), failedUp, rd_set_ne _ _ _ _ (dstat_ne_event k)]
  · exact (DomainKept.of_tallyOnly n hlog).trans (.of_depVotes _ (fun h => hown (.inl h)) (fun h => hown (.inr h)))

/-! ## The register write of a vote -/

/-- The map's row of PWR_VSET. -/
def vsetRow : RegRow := ⟨.PWR_VSET, 0x41008, [⟨0x10, 96, 1⟩], 0, [], .host, 0, 0, [⟨22, 0, .wo, 0⟩]⟩

/-- The map's row of PWR_VCLR. -/
def vclrRow : RegRow := ⟨.PWR_VCLR, 0x4100c, [⟨0x10, 96, 1⟩], 0, [], .host, 0, 0, [⟨22, 0, .wo, 0⟩]⟩

theorem regAt_vset : ∀ n < 96, regAt (A.PWR_VSET n) = some (vsetRow, n, 0) := by decide +kernel

theorem regAt_vclr : ∀ n < 96, regAt (A.PWR_VCLR n) = some (vclrRow, n, 0) := by decide +kernel

theorem voteWords_mapped : ∀ n < 96, isMapped (A.PWR_VSET n) = true ∧ isMapped (A.PWR_VCLR n) = true := by decide +kernel

/-- A write of a vote register that reaches its target: what reads as 0 is written, and the votes are set. -/
theorem busWrite_vset (m n v : Nat) (mem : List Host.Cell) (d : Device) (hn : n < 96) (h : d.reaches m (A.PWR_VSET n)) :
    busWrite m (A.PWR_VSET n) 4 v mem d = (voteSet m n v (putWord vsetRow n m (A.PWR_VSET n) v d)).replied m (A.PWR_VSET n) 0 := by
  have hplace : A.PWR_VSET n < 0x10000000 ∧ A.PWR_VSET n % 4 = 0 := by simp only [A.PWR_VSET]; omega
  rw [busWrite_register m _ v mem d h hplace.1 hplace.2 (voteWords_mapped n hn).1, regStore, regAt_vset n hn]
  rfl

/-- A write of a withdrawal that reaches its target: what reads as 0 is written, and the votes are withdrawn. -/
theorem busWrite_vclr (m n v : Nat) (mem : List Host.Cell) (d : Device) (hn : n < 96) (h : d.reaches m (A.PWR_VCLR n)) :
    busWrite m (A.PWR_VCLR n) 4 v mem d = (voteClear m n v (putWord vclrRow n m (A.PWR_VCLR n) v d)).replied m (A.PWR_VCLR n) 0 := by
  have hplace : A.PWR_VCLR n < 0x10000000 ∧ A.PWR_VCLR n % 4 = 0 := by simp only [A.PWR_VCLR]; omega
  rw [busWrite_register m _ v mem d h hplace.1 hplace.2 (voteWords_mapped n hn).2, regStore, regAt_vclr n hn]
  rfl

/-- Every address belongs to an island. -/
theorem isleOf_lt (a : Nat) : isleOf a < 16 := by
  have hite : ∀ (c : Prop) [Decidable c] (x y : Nat), x < 16 → y < 16 → (if c then x else y) < 16 := fun c _ x y hx hy => by
    split <;> assumption
  unfold isleOf
  repeat' apply hite
  all_goals decide

/-- A word written outside the status words and the PWR events leaves every domain alone. -/
theorem DomainKept.of_putWord {n : Nat} (r : RegRow) (i m a v : Nat) (d : Device) (hdstat : a ≠ A.PWR_DSTAT n)
    (hevent : a ≠ A.PWR_EVENT) : DomainKept n d (putWord r i m a v d) := by
  have hwr : ∀ w, DomainKept n d (d.wr a w) := fun w =>
    ⟨rd_wr_ne d a w _ hdstat.symm, rd_wr_ne d a w _ hevent.symm, rfl, rfl, rfl, rfl⟩
  unfold putWord
  dsimp only
  split
  · exact (hwr _).trans (.of_tallyOnly n (log_tally _ _ _ _ _ _ _ (isleOf_lt a)))
  · exact hwr _

/-! ## A Bead's own vote (R488) -/

/-- Of the bits a Bead may set or clear, the word with its own bit asks for that one. -/
theorem ownVotes_own_bit : ∀ m < 16, ∀ clear, (ownVotes m clear).filter (fun b => bitsOf (2 ^ m) b 1 = 1) = [m] := by decide

/-- A Bead's own bit is no foreign vote. -/
theorem foreignVotes_own_bit : ∀ m < 16, ∀ clear, foreignVotes m (2 ^ m) clear = false := by decide

/-- A Bead that sets its own bit sets that vote. -/
theorem voteSet_own {m n : Nat} (d : Device) (hm : m < 16) (hn : neverOff n = false) : voteSet m n (2 ^ m) d = vote n m d := by
  have hfold := List.foldl_filter (p := fun b => bitsOf (2 ^ m) b 1 = 1) (f := fun d b => vote n b d)
    (l := ownVotes m false) (init := d)
  rw [ownVotes_own_bit m hm] at hfold
  simpa [voteSet, hn, foreignVotes_own_bit m hm] using hfold.symm

/-- A Bead that clears its own bit withdraws that vote. -/
theorem voteClear_own {m n : Nat} (d : Device) (hm : m < 16) (hn : neverOff n = false) :
    voteClear m n (2 ^ m) d = unvoteOne n m d := by
  have hfold := List.foldl_filter (p := fun b => bitsOf (2 ^ m) b 1 = 1) (f := fun d b => unvoteOne n b d)
    (l := ownVotes m true) (init := d)
  rw [ownVotes_own_bit m hm] at hfold
  simpa [voteClear, hn, foreignVotes_own_bit m hm] using hfold.symm

/-- A Bead's write of its own bit to PWR_VSET sets that vote, in a device that keeps the domain as it was. -/
theorem busWrite_vset_own {m n : Nat} (mem : List Host.Cell) (d : Device) (hm : m < 16) (hlt : n < 96) (hn : neverOff n = false)
    (h : d.reaches m (A.PWR_VSET n)) :
    ∃ e, DomainKept n d e ∧ busWrite m (A.PWR_VSET n) 4 (2 ^ m) mem d = (vote n m e).replied m (A.PWR_VSET n) 0 := by
  refine ⟨putWord vsetRow n m (A.PWR_VSET n) (2 ^ m) d, .of_putWord _ _ _ _ _ _ ?_ ?_, ?_⟩
  · simp only [A.PWR_VSET, A.PWR_DSTAT]; omega
  · simp only [A.PWR_VSET, A.PWR_EVENT]; omega
  · rw [busWrite_vset m n _ mem d hlt h, voteSet_own _ hm hn]

/-- A Bead's write of its own bit to PWR_VCLR withdraws that vote, in a device that keeps the domain as it was. -/
theorem busWrite_vclr_own {m n : Nat} (mem : List Host.Cell) (d : Device) (hm : m < 16) (hlt : n < 96) (hn : neverOff n = false)
    (h : d.reaches m (A.PWR_VCLR n)) :
    ∃ e, DomainKept n d e ∧ busWrite m (A.PWR_VCLR n) 4 (2 ^ m) mem d = (unvoteOne n m e).replied m (A.PWR_VCLR n) 0 := by
  refine ⟨putWord vclrRow n m (A.PWR_VCLR n) (2 ^ m) d, .of_putWord _ _ _ _ _ _ ?_ ?_, ?_⟩
  · simp only [A.PWR_VCLR, A.PWR_DSTAT]; omega
  · simp only [A.PWR_VCLR, A.PWR_EVENT]; omega
  · rw [busWrite_vclr m n _ mem d hlt h, voteClear_own _ hm hn]

/-! ## The commands -/

/-- A Bead's own bit fits the vote field. -/
theorem ownBit_fits {m : Nat} (hm : m < 16) : fits 23 (2 ^ m) = true := by
  simpa [fits] using Nat.pow_lt_pow_right (by decide : 1 < 2) (by omega : m < 23)

/-- A Bead's vote command whose write reaches its target and stores no byte answers with that write. -/
theorem exec_pwrVsetWrite_own {m n : Nat} {s : State} (hm : m < 16) (hlt : n < 96) (hs : s.Settled)
    (hmem : (busWrite m (A.PWR_VSET n) 4 (2 ^ m) s.mem s.dev).memOut = []) :
    ActsOnDevice (.pwrVsetWrite m n (2 ^ m)) s (busWrite m (A.PWR_VSET n) 4 (2 ^ m) s.mem s.dev) :=
  act_onDevice _ s _ (by simp [Instr.wf, isMaster, ownBit_fits hm, hlt]; omega) hs.2 hmem

/-- The command that withdraws a Bead's vote, likewise. -/
theorem exec_pwrVclrWrite_own {m n : Nat} {s : State} (hm : m < 16) (hlt : n < 96) (hs : s.Settled)
    (hmem : (busWrite m (A.PWR_VCLR n) 4 (2 ^ m) s.mem s.dev).memOut = []) :
    ActsOnDevice (.pwrVclrWrite m n (2 ^ m)) s (busWrite m (A.PWR_VCLR n) 4 (2 ^ m) s.mem s.dev) :=
  act_onDevice _ s _ (by simp [Instr.wf, isMaster, ownBit_fits hm, hlt]; omega) hs.2 hmem

/-- A failed power-up, with no access waiting, answers a device that domain `n` sees as failed. -/
theorem exec_domainPowerupFail_up {n : Nat} {s : State} (hlt : n < 96) (hn : neverOff n = false) (hs : s.Settled)
    (hup : s.dev.domState n = 1) (hstalled : s.dev.stalled = []) (hdma : s.dev.dmaStall = none) (hdep : DepVotesStand s.dev) :
    ∃ e, DomainKept n (failedUp n s.dev) e ∧ ActsOnDevice (.domainPowerupFail n) s e := by
  have hfail := domainFail_kept s.dev hn hup hdep
  have hkept := hfail.trans (.of_waitsSettle hlt s.mem _ (hfail.stalled.trans hstalled) (hfail.dmaStall.trans hdma))
  exact ⟨_, hkept, act_onDevice _ s (fun mem d => waitsSettle mem (domainFail n d)) (by simp [Instr.wf, hlt]) hs.2
    (hkept.memOut.trans hs.2)⟩

/-- Settles O21: a failed power-up, a Bead's new vote and a Bead's withdrawn vote each change of the domain what `failedUp_spec`,
`voteOne_off_spec` and `unvoteOne_off_spec` say, and all else the commands do (the DEP votes, the records, the bank changes of
WEIGHT messages) leaves the domain alone (`DomainKept`). -/
theorem failedPowerUp : Obligations.FailedPowerUp := by
  unfold Obligations.FailedPowerUp
  refine ⟨fun n s hlt hn hs _ hup hstalled hdma hdep => ?_, fun m n s hm hlt hn hs _ hoff hb hreach => ?_,
    fun m n s hm hlt hn hs _ hoff hb hreach => ?_⟩
  · obtain ⟨e, hkept, hexec⟩ := exec_domainPowerupFail_up hlt hn hs hup hstalled hdma hdep
    obtain ⟨hstate, hvotes, hevent, hfailed⟩ := failedUp_spec s.dev hn
    exact ⟨_, hexec, (hkept.domState hn).trans hstate, hkept.votes.trans hvotes, (hkept.on_event _ rfl).trans hevent,
      hkept.dfail.trans hfailed, fun _ => rfl⟩
  · obtain ⟨e, he, hbus⟩ := busWrite_vset_own s.mem s.dev hm hlt hn hreach
    obtain ⟨hstate, hvoted, hfailed, hmem⟩ :=
      voteOne_off_spec e hn ((he.domState hn).trans hoff) (by omega) ((he.voted m).trans hb)
    have hkept := DomainKept.of_vote n m e
    have hexec := exec_pwrVsetWrite_own hm hlt hs (hbus ▸ (hkept.memOut.trans (hmem.trans (he.memOut.trans hs.2))))
    rw [hbus] at hexec
    exact ⟨_, hexec, (hkept.domState hn).trans hstate, (hkept.voted m).trans hvoted, hkept.dfail.trans hfailed, fun _ => rfl⟩
  · obtain ⟨e, he, hbus⟩ := busWrite_vclr_own s.mem s.dev hm hlt hn hreach
    obtain ⟨hstate, hvoted, hmem⟩ := unvoteOne_off_spec e hn ((he.domState hn).trans hoff) ((he.voted m).trans hb)
    have hexec := exec_pwrVclrWrite_own hm hlt hs (hbus ▸ (hmem.trans (he.memOut.trans hs.2)))
    rw [hbus] at hexec
    exact ⟨_, hexec, hstate, hvoted, fun _ => rfl⟩

end Sys2Proof.Proofs
end

section
/-! SUPPORT. What a step keeps, whichever command it runs: memory's canonical form, the queue, and that nothing faults (R11, log 2, log 8,
log 32). -/
namespace Sys2Proof.Proofs
open Sys2Proof Sys2Proof.Machine Sys2Proof.Laws

/-! ## The invariant of memory -/

/-- Whatever its effect, a run of a settled state is settled. -/
theorem settled_of_run {s : State} (f : List Host.Cell → Device → Device) (hs : memWf s.mem = true) : (s.run f).Settled :=
  ⟨run_memWf s f hs, run_memOut s f⟩

/-- A command that answers a next state keeps the invariant. -/
theorem exec_keeps_settled {i : Instr} {s t : State} (hs : s.Settled) (h : exec i s = .next t) : t.Settled := by
  obtain ⟨_, f, m, hm, rfl⟩ := exec_next i s t h
  refine settled_of_run f ?_
  rcases hm with rfl | rfl
  · exact hs.1
  · rfl

/-- A command that answers a next state leaves the queue. -/
theorem exec_keeps_pending {i : Instr} {s t : State} (h : exec i s = .next t) : t.pending = s.pending := by
  obtain ⟨_, f, m, _, rfl⟩ := exec_next i s t h
  rfl

/-- A well-formed command answers a next state. -/
theorem exec_answers {i : Instr} (hwf : i.wf = true) (s : State) : ∃ t, exec i s = .next t := by
  obtain ⟨f, m, _, hf⟩ := exec_act i s
  exact ⟨_, hf.trans (act_wf i _ f hwf)⟩

/-- An ill-formed command is refused as such. -/
theorem exec_refuses {i : Instr} (hwf : i.wf = false) (s : State) : exec i s = .refused .illFormed := by
  obtain ⟨f, m, _, hf⟩ := exec_act i s
  exact hf.trans (act_illFormed i _ f hwf)

/-- A step with a well-formed command in front takes it off the queue and keeps the invariant. -/
theorem step_takes_front {s : State} {c : Instr} {cs : List Instr} (hq : s.pending = c :: cs) (hwf : c.wf = true) :
    ∃ t, step s = .next t ∧ t.pending = cs ∧ (s.Settled → t.Settled) := by
  obtain ⟨t, ht⟩ := exec_answers hwf { s with pending := cs }
  exact ⟨t, (step_cons s c cs hq).trans ht, exec_keeps_pending ht,
    fun hs => exec_keeps_settled (s := { s with pending := cs }) hs ht⟩

/-- Settles O1: the step's own equation on a queue with a head. -/
theorem stepRunsFrontCommand : Obligations.StepRunsFrontCommand := by
  unfold Obligations.StepRunsFrontCommand
  exact step_cons

/-- Settles O3: a command in front keeps the invariant, and so does the tick of an empty queue. -/
theorem stepKeepsSettled : Obligations.StepKeepsSettled := by
  unfold Obligations.StepKeepsSettled
  intro s t hs h
  cases hq : s.pending with
  | nil =>
    rw [step_nil s hq] at h
    injection h with h
    exact h ▸ settled_of_run idleTick hs.1
  | cons c cs => exact exec_keeps_settled (s := { s with pending := cs }) hs (step_cons s c cs hq ▸ h)

/-- Settles O5: a well-formed command answers the run of its effect. -/
theorem wellFormedCommandsComplete : Obligations.WellFormedCommandsComplete := by
  unfold Obligations.WellFormedCommandsComplete
  intro i s hwf
  obtain ⟨t, ht⟩ := exec_answers hwf s
  exact ⟨t, ht, exec_keeps_pending ht, fun hs => exec_keeps_settled hs ht⟩

/-- Settles O6: an empty queue ticks, a well-formed front command answers, an ill-formed one is refused by name. -/
theorem onlyIllFormedCommandsStop : Obligations.OnlyIllFormedCommandsStop := by
  unfold Obligations.OnlyIllFormedCommandsStop
  intro s
  cases hq : s.pending with
  | nil => simp [step_nil s hq]
  | cons c cs =>
    rw [step_cons s c cs hq]
    cases hwf : c.wf with
    | true =>
      obtain ⟨t, ht⟩ := exec_answers hwf { s with pending := cs }
      simp [ht, hwf]
    | false => simp [exec_refuses hwf, hwf]

/-- A queue of well-formed commands drains in as many steps as it is long, and the invariant holds at the end if it did before. -/
theorem run_drains (q : List Instr) : ∀ s : State, s.pending = q → (∀ c ∈ q, c.wf = true) →
    ∃ t : State, Host.Core.run Sys2Proof.core q.length s = .next t ∧ t.pending = [] ∧ (s.Settled → t.Settled) := by
  induction q with
  | nil => exact fun s hq _ => ⟨s, rfl, hq, id⟩
  | cons c cs ih =>
    intro s hq hwf
    obtain ⟨t, hstep, hrest, hkeeps⟩ := step_takes_front hq (hwf c List.mem_cons_self)
    obtain ⟨u, hrun, hempty, hkeeps'⟩ := ih t hrest fun x hx => hwf x (List.mem_cons_of_mem c hx)
    refine ⟨u, ?_, hempty, hkeeps' ∘ hkeeps⟩
    have hcore : Sys2Proof.core.step s = .next t := hstep
    simp only [List.length_cons, Host.Core.run, hcore]
    exact hrun

/-- Settles O7, by induction on the queue. -/
theorem queueDrains : Obligations.QueueDrains := by
  unfold Obligations.QueueDrains
  exact fun s hwf => run_drains s.pending s rfl hwf

/-- Settles O4: no register of the reset state has been written, so each reads its reset word. -/
theorem resetIsSettled : Obligations.ResetIsSettled := by
  unfold Obligations.ResetIsSettled
  exact ⟨⟨rfl, rfl⟩, rfl, rfl, fun _ => rfl⟩

end Sys2Proof.Proofs
end

section
/-! SUPPORT. The effect of each command, family by family (R19 to R523): every meaning is `act` of the effect that the statement names. -/
namespace Sys2Proof.Proofs
open Sys2Proof Sys2Proof.Machine Sys2Proof.Laws

/-- A command whose meaning is `act` of an effect has that effect. -/
theorem hasEffect_of_act {i : Instr} {f : List Host.Cell → Device → Device} (h : ∀ s, exec i s = act i s f) : HasEffect i f :=
  fun hwf s => (h s).trans (act_wf i s f hwf)

/-- Settles O39: the accesses of the fabric, the boundaries of LANE and GRID, and the bank changes. -/
theorem architectureCommandsHaveTheirEffect : Obligations.ArchitectureCommandsHaveTheirEffect := by
  unfold Obligations.ArchitectureCommandsHaveTheirEffect
  and_intros <;> intros <;> exact hasEffect_of_act fun _ => rfl

/-- Settles O40: the rails, the thermal events and the PCIe link. -/
theorem railCommandsHaveTheirEffect : Obligations.RailCommandsHaveTheirEffect := by
  unfold Obligations.RailCommandsHaveTheirEffect
  and_intros <;> exact hasEffect_of_act fun _ => rfl

/-- Settles O41: the lock sequence, the outages, the auxiliary PLL and the clock outputs. -/
theorem clockCommandsHaveTheirEffect : Obligations.ClockCommandsHaveTheirEffect := by
  unfold Obligations.ClockCommandsHaveTheirEffect
  and_intros <;> intros <;> exact hasEffect_of_act fun _ => rfl

/-- Settles O42: the receive and observation converters. -/
theorem receiveCommandsHaveTheirEffect : Obligations.ReceiveCommandsHaveTheirEffect := by
  unfold Obligations.ReceiveCommandsHaveTheirEffect
  and_intros <;> intros <;> exact hasEffect_of_act fun _ => rfl

/-- Settles O43: the transmit converters. -/
theorem transmitCommandsHaveTheirEffect : Obligations.TransmitCommandsHaveTheirEffect := by
  unfold Obligations.TransmitCommandsHaveTheirEffect
  and_intros <;> intros <;> exact hasEffect_of_act fun _ => rfl

/-- Settles O44: the channelisers. -/
theorem channelCommandsHaveTheirEffect : Obligations.ChannelCommandsHaveTheirEffect := by
  unfold Obligations.ChannelCommandsHaveTheirEffect
  and_intros <;> intros <;> exact hasEffect_of_act fun _ => rfl

/-- Settles O45: the OFDM carriers. -/
theorem ofdmCommandsHaveTheirEffect : Obligations.OfdmCommandsHaveTheirEffect := by
  unfold Obligations.OfdmCommandsHaveTheirEffect
  and_intros <;> intros <;> exact hasEffect_of_act fun _ => rfl

/-- Settles O46: the beamformer. -/
theorem beamCommandsHaveTheirEffect : Obligations.BeamCommandsHaveTheirEffect := by
  unfold Obligations.BeamCommandsHaveTheirEffect
  and_intros <;> intros <;> exact hasEffect_of_act fun _ => rfl

/-- Settles O47: captures, trials and the solver. -/
theorem predistortionCommandsHaveTheirEffect : Obligations.PredistortionCommandsHaveTheirEffect := by
  unfold Obligations.PredistortionCommandsHaveTheirEffect
  and_intros <;> intros <;> exact hasEffect_of_act fun _ => rfl

/-- Settles O48: the path machines, coexistence, tuners, mismatch and search. -/
theorem pathCommandsHaveTheirEffect : Obligations.PathCommandsHaveTheirEffect := by
  unfold Obligations.PathCommandsHaveTheirEffect
  and_intros <;> intros <;> exact hasEffect_of_act fun _ => rfl

/-- Settles O49: the calibration sequencer. -/
theorem calibrationCommandsHaveTheirEffect : Obligations.CalibrationCommandsHaveTheirEffect := by
  unfold Obligations.CalibrationCommandsHaveTheirEffect
  and_intros <;> intros <;> exact hasEffect_of_act fun _ => rfl

/-- Settles O50: the Damper. -/
theorem damperCommandsHaveTheirEffect : Obligations.DamperCommandsHaveTheirEffect := by
  unfold Obligations.DamperCommandsHaveTheirEffect
  and_intros <;> intros <;> exact hasEffect_of_act fun _ => rfl

/-- Settles O51: the fronthaul ports. -/
theorem portCommandsHaveTheirEffect : Obligations.PortCommandsHaveTheirEffect := by
  unfold Obligations.PortCommandsHaveTheirEffect
  and_intros <;> intros <;> exact hasEffect_of_act fun _ => rfl

/-- Settles O52: Gastad messages. -/
theorem framingCommandsHaveTheirEffect : Obligations.FramingCommandsHaveTheirEffect := by
  unfold Obligations.FramingCommandsHaveTheirEffect
  and_intros <;> intros <;> exact hasEffect_of_act fun _ => rfl

/-- Settles O53: network time, captures and pulses. -/
theorem networkTimeCommandsHaveTheirEffect : Obligations.NetworkTimeCommandsHaveTheirEffect := by
  unfold Obligations.NetworkTimeCommandsHaveTheirEffect
  and_intros <;> intros <;> exact hasEffect_of_act fun _ => rfl

/-- Settles O54: the log and the scrubber. -/
theorem tallyCommandsHaveTheirEffect : Obligations.TallyCommandsHaveTheirEffect := by
  unfold Obligations.TallyCommandsHaveTheirEffect
  and_intros <;> intros <;> exact hasEffect_of_act fun _ => rfl

/-- Settles O55: the watchdogs, the mailboxes, SMBus and JTAG. -/
theorem mailboxCommandsHaveTheirEffect : Obligations.MailboxCommandsHaveTheirEffect := by
  unfold Obligations.MailboxCommandsHaveTheirEffect
  and_intros <;> intros <;> exact hasEffect_of_act fun _ => rfl

/-- Settles O56: each operation code has a service of its own. -/
theorem ikirikCommandsHaveTheirEffect : Obligations.IkirikCommandsHaveTheirEffect := by
  unfold Obligations.IkirikCommandsHaveTheirEffect
  and_intros <;> exact hasEffect_of_act fun _ => rfl

/-- Settles O57: the DMA engine. -/
theorem dmaCommandsHaveTheirEffect : Obligations.DmaCommandsHaveTheirEffect := by
  unfold Obligations.DmaCommandsHaveTheirEffect
  and_intros <;> intros <;> exact hasEffect_of_act fun _ => rfl

/-- Settles O58: the monitor converters, the mains tracker and the PWM outputs. -/
theorem monitorCommandsHaveTheirEffect : Obligations.MonitorCommandsHaveTheirEffect := by
  unfold Obligations.MonitorCommandsHaveTheirEffect
  and_intros <;> intros <;> exact hasEffect_of_act fun _ => rfl

/-- The entry into a sleep state runs on memory lost where the state entered is S3 (R499). -/
theorem exec_sleepEnterDone {e : Nat} (s : State) (hwf : (Instr.sleepEnterDone e).wf = true) : exec (.sleepEnterDone e) s =
    .next (State.run (if s.dev.step' == 6 && s.dev.sleep.target == 3 then { s with mem := [] } else s) fun _ => enterSleep e) :=
  act_wf _ _ _ hwf

/-- Settles O59: domains, levels and sleep; the entry into S3 alone starts from another memory. -/
theorem powerCommandsHaveTheirEffect : Obligations.PowerCommandsHaveTheirEffect := by
  unfold Obligations.PowerCommandsHaveTheirEffect
  and_intros
  on_goal 18 => exact fun _ => exec_sleepEnterDone
  all_goals
    intros
    exact hasEffect_of_act fun _ => rfl

/-- Settles O60: resets, OTP, the ROM and authentication. -/
theorem bootCommandsHaveTheirEffect : Obligations.BootCommandsHaveTheirEffect := by
  unfold Obligations.BootCommandsHaveTheirEffect
  and_intros <;> intros <;> exact hasEffect_of_act fun _ => rfl

end Sys2Proof.Proofs
end

section
/-! SUPPORT. A refused host write: what it counts and keeps (R62), for registers and for the firmware-only memory (R63). -/
namespace Sys2Proof.Proofs
open Sys2Proof Sys2Proof.Machine Sys2Proof.Laws

/-- The registers of a refused host write, before its record. -/
def hostCounted (m a : Nat) (d : Device) : Device :=
  ((d.inc L.SYS_HOSTVIOL_COUNT).set L.SYS_HOSTVIOL_LAST_MASTER m).set L.SYS_HOSTVIOL_ADDR_ADDR a

/-- After its registers, a refused host write only writes its record. -/
theorem hostViolation_tally (m a : Nat) (d : Device) : TallyOnly (hostCounted m a d) (hostViolation m a d) :=
  log_tally _ _ _ _ _ _ _ (isleOf_lt a)

/-- A refused host write stores no byte. -/
theorem hostViolation_memOut (m a : Nat) (d : Device) : (hostViolation m a d).memOut = d.memOut := (hostViolation_tally m a d).memOut

/-- A refused host write counts up to the top of COUNT. -/
theorem hostViolation_count (m a : Nat) (d : Device) :
    (hostViolation m a d).get L.SYS_HOSTVIOL_COUNT = min 65535 (d.get L.SYS_HOSTVIOL_COUNT + 1) := by
  rw [(hostViolation_tally m a d).get _ (.inl (by decide)), hostCounted, get_set_ne _ _ _ _ (by decide),
    get_set_disjoint _ _ _ _ (by decide) (by decide), Device.inc, Device.addSat, get_set_same _ _ _ (by decide)]
  simp only [satAdd, L.SYS_HOSTVIOL_COUNT]
  omega

/-- A refused host write leaves its master in LAST_MASTER. -/
theorem hostViolation_lastMaster {m : Nat} (a : Nat) (d : Device) (hm : m < 32) :
    (hostViolation m a d).get L.SYS_HOSTVIOL_LAST_MASTER = m := by
  rw [(hostViolation_tally m a d).get _ (.inl (by decide)), hostCounted, get_set_ne _ _ _ _ (by decide), get_set_same _ _ _ (by decide)]
  exact Nat.mod_eq_of_lt hm

/-- A refused host write leaves its address in ADDR. -/
theorem hostViolation_addr (m : Nat) {a : Nat} (d : Device) (ha : a < 2 ^ 32) :
    (hostViolation m a d).get L.SYS_HOSTVIOL_ADDR_ADDR = a := by
  rw [(hostViolation_tally m a d).get _ (.inl (by decide)), hostCounted, get_set_same _ _ _ (by decide)]
  exact Nat.mod_eq_of_lt ha

/-- A refused host write leaves every other register outside the Tally block. -/
theorem hostViolation_rd (m a : Nat) (d : Device) {b : Nat} (hb : b < 0x20000 ∨ 0x30000 ≤ b) (hcount : b ≠ A.SYS_HOSTVIOL)
    (haddr : b ≠ A.SYS_HOSTVIOL_ADDR) : (hostViolation m a d).rd b = d.rd b := by
  rw [(hostViolation_tally m a d).regs b hb, hostCounted, rd_set_ne _ _ _ _ haddr, rd_set_ne _ _ _ _ hcount, Device.inc, Device.addSat,
    rd_set_ne _ _ _ _ hcount]

/-- A host write to a firmware-only register other than MBX_BIND is refused as a violation. -/
theorem regStore_host {m a i j : Nat} {r : RegRow} (v : Nat) (mem : List Host.Cell) {d : Device} (hreg : regAt a = some (r, i, j))
    (hfw : r.mark.firmware i = true) (hname : r.name ≠ .MBX_BIND) (hhost : d.hostLike m = true) :
    regStore m a v mem d = (3, hostViolation m a d) := by
  simp [regStore, hreg, hfw, hhost, hostRefused, Device.when, hname]

/-- A 32-bit register write that reaches its target and stores no byte: the register's store, and the answer. -/
theorem registerWrite_onDevice {m a v : Nat} {s : State} (hm : isMaster m = true) (ha : a < 0x10000000) (hv : v < 2 ^ 32)
    (h4 : a % 4 = 0) (hmap : isMapped a = true) (hs : s.Settled) (hreach : s.dev.reaches m a)
    (hmem : (regStore m a v s.mem s.dev).2.memOut = []) :
    ActsOnDevice (.registerWrite m a 4 v) s ((regStore m a v s.mem s.dev).2.replied m a 0) := by
  have hbus := busWrite_register m a v s.mem s.dev hreach ha h4 hmap
  have hwf : (Instr.registerWrite m a 4 v).wf = true := by
    have hfit : a < 4294967296 := by omega
    simpa [Instr.wf, hm, fits, isWidth, hfit] using hv
  rw [ActsOnDevice, exec_registerWrite, act_onDevice _ _ _ hwf hs.2 (by rw [hbus]; exact hmem), hbus]

/-- Settles O11: the write is refused as a violation, of which the lemmas above say the rest. -/
theorem hostWriteToFirmwareRegister : Obligations.HostWriteToFirmwareRegister := by
  unfold Obligations.HostWriteToFirmwareRegister
  intro m a v i j r s hm ha hv h4 hmap hreg hfw hname hs hhost hreach
  have hstore := regStore_host v s.mem hreg hfw hname hhost
  have hwrite := registerWrite_onDevice (v := v) hm ha hv h4 hmap hs hreach
    (by rw [hstore]; exact (hostViolation_memOut m a s.dev).trans hs.2)
  rw [hstore] at hwrite
  have hm' : m < 32 := by simp [isMaster] at hm; omega
  exact ⟨hwrite, hostViolation_count m a s.dev, hostViolation_lastMaster a s.dev hm', hostViolation_addr m s.dev (by omega),
    fun _ hb => hostViolation_rd m a s.dev hb⟩

end Sys2Proof.Proofs
end

section
/-! SUPPORT. Accesses of memory windows: bytes written and read, least significant first (R11), the firmware-only memory (R63) and words with an
uncorrectable error (R401, R402). -/
namespace Sys2Proof.Proofs
open Sys2Proof Sys2Proof.Machine Sys2Proof.Laws

/-! ## Bytes of a number -/

theorem length_bytesOf (n v : Nat) : (bytesOf n v).length = n := by
  induction n generalizing v with
  | zero => rfl
  | succ n ih => simp [bytesOf, ih]

/-- The bytes of a number, least significant first. -/
theorem getElem_bytesOf {n k : Nat} (v : Nat) (hk : k < (bytesOf n v).length) :
    (bytesOf n v)[k] = BitVec.ofNat 8 (v / 2 ^ (8 * k)) := by
  induction n generalizing v k with
  | zero => cases hk
  | succ n ih =>
    cases k with
    | zero => simp [bytesOf]
    | succ k =>
      simp only [bytesOf, List.getElem_cons_succ, ih, Nat.div_div_eq_div_mul, ← pow_add]
      rw [Nat.mul_succ, Nat.add_comm]

/-- A byte outside the cells written reads as before. -/
theorem memGet_cells_ne (m : List Host.Cell) {a c : Nat} (bs : List Byte) (h : c < a ∨ a + bs.length ≤ c) :
    memGet (memPutAll m (cellsFrom a bs)) c = memGet m c := by
  induction bs generalizing m a with
  | nil => rfl
  | cons b bs ih =>
    simp only [List.length_cons] at h
    rw [cellsFrom, memPutAll, ih _ (by omega), memGet_memPut_ne _ _ _ _ (by omega)]

/-- A byte of the cells written reads back. -/
theorem memGet_cells (m : List Host.Cell) (a : Nat) {bs : List Byte} {k : Nat} (hk : k < bs.length) :
    memGet (memPutAll m (cellsFrom a bs)) (a + k) = bs[k] := by
  induction bs generalizing m a k with
  | nil => cases hk
  | cons b bs ih =>
    rw [cellsFrom, memPutAll]
    cases k with
    | zero => rw [memGet_cells_ne _ _ (by omega)]; exact memGet_memPut_same _ _ _
    | succ k => rw [show a + (k + 1) = a + 1 + k by omega]; exact ih _ _ (Nat.lt_of_succ_lt_succ hk)

/-- The number that the bytes of `v` make is `v`. -/
theorem memNum_of_bytes {m : List Host.Cell} {n : Nat} {a v : Nat} (hv : v < 2 ^ (8 * n))
    (h : ∀ k, k < n → memGet m (a + k) = BitVec.ofNat 8 (v / 2 ^ (8 * k))) : memNum m a n = v := by
  induction n generalizing a v with
  | zero => simpa [memNum] using (Nat.lt_one_iff.1 hv).symm
  | succ n ih =>
    have hhigh : v / 2 ^ 8 < 2 ^ (8 * n) := Nat.div_lt_of_lt_mul (by rw [← pow_add, Nat.add_comm]; exact hv)
    have hrest : ∀ k, k < n → memGet m (a + 1 + k) = BitVec.ofNat 8 (v / 2 ^ 8 / 2 ^ (8 * k)) := fun k hk => by
      rw [show a + 1 + k = a + (k + 1) by omega, h (k + 1) (by omega), Nat.div_div_eq_div_mul, ← pow_add, Nat.mul_succ, Nat.add_comm]
    have hlow : (memGet m a).toNat = v % 2 ^ 8 := by simpa using congrArg BitVec.toNat (h 0 (by omega))
    rw [memNum, ih hhigh hrest, hlow, Nat.mod_add_div]

/-- Where no byte waits to be written, an access sees memory's number. -/
theorem peekNum_eq_memNum (mem : List Host.Cell) (a n : Nat) {d : Device} (h : d.memOut = []) : d.peekNum mem a n = memNum mem a n := by
  induction n generalizing a with
  | zero => rfl
  | succ n ih => rw [Device.peekNum, memNum, ih, Device.peek, h, memPutAll]

/-! ## Where shared SRAM lies -/

/-- A range of whole bytes in shared SRAM. -/
def InSram (a n : Nat) : Prop := isMemWidth n = true ∧ a % n = 0 ∧ 0x10000000 ≤ a ∧ a + n ≤ 0x12000000

theorem isMemWidth_iff (n : Nat) : isMemWidth n = true ↔ n = 1 ∨ n = 2 ∨ n = 4 ∨ n = 8 := by simp [isMemWidth, or_assoc]

theorem InSram.lt {a n : Nat} (h : InSram a n) : a < 0x12000000 ∧ 1 ≤ n ∧ n ≤ 8 := by
  obtain ⟨hn, -, -, htop⟩ := h
  rw [isMemWidth_iff] at hn
  omega

theorem InSram.mapped {a n : Nat} (h : InSram a n) : isMapped a = true :=
  List.any_eq_true.2 ⟨(0x10000000, 0x11FFFFFF, false), List.mem_cons_self, by
    have hlt := h.lt
    obtain ⟨-, -, hbase, -⟩ := h
    simp
    omega⟩

/-- Shared SRAM takes every aligned access of 1, 2, 4 or 8 bytes. -/
theorem InSram.widthOk {a n : Nat} (h : InSram a n) : widthOk a n = true := by
  have hlt := h.lt
  obtain ⟨hn, hal, hbase, -⟩ := h
  rw [isMemWidth_iff] at hn
  simp [Machine.widthOk, hal, hbase, hlt.1]
  omega

theorem InSram.isWidth {a n : Nat} (h : InSram a n) : isWidth n = true := by
  have hlt := h.lt
  simp [Sys2Proof.isWidth]
  omega

/-- The protected word of an SRAM address is a word of SRAM. -/
theorem InSram.eccAt {a n : Nat} (h : InSram a n) : eccAt a = .sram (a / 8 * 8 - 0x10000000) := by
  have hlt := h.lt
  rw [Machine.eccAt, if_pos (by omega)]

/-! ## Accesses that reach a window -/

/-- A write that the weights turn away is done or without effect; it never waits. -/
theorem weightRefuses_ne_one {a : Nat} {d : Device} {x : Nat × Device} (h : weightRefuses a d = some x) : x.1 ≠ 1 := by
  unfold weightRefuses at h
  dsimp only at h
  split_ifs at h <;> obtain rfl := Option.some.inj h <;> simp

/-- A store ends done, in a bus error or without effect; it never waits. -/
theorem memStore_ne_one (m a n v : Nat) (d : Device) : (memStore m a n v d).1 ≠ 1 := by
  unfold memStore
  dsimp only
  split
  · simp
  split
  · simp
  split
  case h_1 h => exact weightRefuses_ne_one h
  case h_2 => split <;> simp

/-- A load never waits. -/
theorem memLoad_ne_one (a n : Nat) (mem : List Host.Cell) (d : Device) : (memLoad a n mem d).1 ≠ 1 := by
  unfold memLoad
  dsimp only
  split <;> simp

/-- A write that reaches a memory window: its store, and the answer. -/
theorem busWrite_window {m a n : Nat} (v : Nat) (mem : List Host.Cell) {d : Device} (h : d.reaches m a) (ha : 0x10000000 ≤ a)
    (hn : 1 ≤ n) (hw : widthOk a n = true) (hmap : isMapped a = true) :
    busWrite m a n v mem d =
      answer ⟨m, a, n, true, v, domainOf a⟩ (memStore m a n v d).1 0 (memStore m a n v d).2 := by
  have hp : perform ⟨m, a, n, true, v, domainOf a⟩ mem d = ((memStore m a n v d).1, 0, (memStore m a n v d).2) := by
    simp [perform, ha]
  rw [busWrite, access_reaches _ mem d h ⟨Nat.one_le_iff_ne_zero.1 hn, hw⟩ hmap (by rw [hp]; exact memStore_ne_one m a n v d), hp]

/-- A read that reaches a memory window: its load, and the answer. -/
theorem busRead_window {m a n : Nat} (mem : List Host.Cell) {d : Device} (h : d.reaches m a) (ha : 0x10000000 ≤ a)
    (hn : 1 ≤ n) (hw : widthOk a n = true) (hmap : isMapped a = true) :
    busRead m a n mem d =
      answer ⟨m, a, n, false, 0, domainOf a⟩ (memLoad a n mem d).1 (memLoad a n mem d).2.1 (memLoad a n mem d).2.2 := by
  have hp : perform ⟨m, a, n, false, 0, domainOf a⟩ mem d = memLoad a n mem d := by simp [perform, ha]
  rw [busRead, access_reaches _ mem d h ⟨Nat.one_le_iff_ne_zero.1 hn, hw⟩ hmap (by rw [hp]; exact memLoad_ne_one a n mem d), hp]

/-- A window write command is its bus access. -/
theorem exec_memoryWindowWrite (m a n v : Nat) (s : State) :
    exec (.memoryWindowWrite m a n v) s = act (.memoryWindowWrite m a n v) s (busWrite m a n v) := rfl

/-- A Bead's write counts as no host write (R62). -/
theorem hostLike_bead {m : Nat} (d : Device) (hm : m < 16) : d.hostLike m = false := by
  simp [Device.hostLike]; omega

/-- A host write into the firmware-only memory is refused as a violation (R63). -/
theorem memStore_refused {m a n : Nat} (v : Nat) {d : Device} (hhost : d.hostLike m = true)
    (ha : (a < 0x12000000 ∧ a - 0x10000000 < 4096 * d.get L.SYS_FW_PRIV_TOP) ∨ 0x16000000 ≤ a) :
    memStore m a n v d = (3, hostViolation m a d) := by
  have hown : d.hostLike m &&
      ((decide (a < 0x12000000) && decide (a - 0x10000000 < 4096 * d.get L.SYS_FW_PRIV_TOP)) || decide (0x16000000 ≤ a)) := by
    simpa [hhost] using ha
  simp only [memStore, hown, if_true]

/-- A Bead's write to shared SRAM is no business of the weights. -/
theorem memStore_sram {m a n : Nat} (v : Nat) {d : Device} (hm : m < 16) (h : InSram a n) :
    memStore m a n v d = if d.eccBad.contains (a / 8 * 8) && n ≠ 8 then (2, d)
      else (0, { d with eccBad := d.eccBad.filter (· != a / 8 * 8) }.store a (bytesOf n v)) := by
  have hlt := h.lt
  have hweights : weightRefuses a d = none := by
    simp [weightRefuses, inWeights]; omega
  simp only [memStore, hostLike_bead d hm, Bool.false_and, Bool.false_eq_true, if_false, hweights]
  rw [if_neg (by omega)]

/-- A window write that stores no byte: the store, and the answer. -/
theorem windowWrite_onDevice {m a n v : Nat} {s : State} (hwf : (Instr.memoryWindowWrite m a n v).wf = true) (hw : widthOk a n = true)
    (hmap : isMapped a = true) (hs : s.Settled) (h : s.dev.reaches m a) (hmem : (memStore m a n v s.dev).2.memOut = []) :
    ActsOnDevice (.memoryWindowWrite m a n v) s
      (answer ⟨m, a, n, true, v, domainOf a⟩ (memStore m a n v s.dev).1 0 (memStore m a n v s.dev).2) := by
  have hrange : 0x10000000 ≤ a ∧ 1 ≤ n := by
    simp [Instr.wf, isWidth] at hwf
    omega
  have hbus := busWrite_window v s.mem h hrange.1 hrange.2 hw hmap
  rw [ActsOnDevice, exec_memoryWindowWrite, act_onDevice _ _ _ hwf hs.2 (by rw [hbus]; exact hmem), hbus]

/-- Settles O12: the store is refused as a violation, which stores no byte. -/
theorem hostWriteToPrivateMemory : Obligations.HostWriteToPrivateMemory := by
  unfold Obligations.HostWriteToPrivateMemory
  intro m a n v s hm hn hv hw hmap hrange hpriv hs hhost hreach
  have hwf : (Instr.memoryWindowWrite m a n v).wf = true := by simp [Instr.wf, hm, hn, hrange, fits, hv]
  have hstore := memStore_refused (n := n) v hhost hpriv
  have hwrite := windowWrite_onDevice hwf hw hmap hs hreach (by rw [hstore]; exact (hostViolation_memOut m a s.dev).trans hs.2)
  rw [hstore] at hwrite
  exact hwrite

/-! ## Shared SRAM -/

theorem windowWrite_wf {m a n v : Nat} (hm : m < 16) (h : InSram a n) (hv : v < 2 ^ (8 * n)) :
    (Instr.memoryWindowWrite m a n v).wf = true := by
  have hlt := h.lt
  have hwidth := h.isWidth
  obtain ⟨-, -, hbase, -⟩ := h
  simp [Instr.wf, isMaster, hwidth, fits, hv]
  omega

/-- A command whose effect stores one run of bytes: they reach memory, and the device is as the effect leaves it. -/
theorem act_stores {i : Instr} {s : State} {f : List Host.Cell → Device → Device} {e : Device} {a : Nat} {bs : List Byte}
    (h : i.wf = true) (hs : s.dev.memOut = []) (he : e.memOut = []) (hf : f s.mem s.dev = e.store a bs) :
    act i s f = .next { s with mem := memPutAll s.mem (cellsFrom a bs), dev := e } := by
  have hstored : (e.store a bs).memOut = cellsFrom a bs := by rw [Device.store, he, List.nil_append]
  rw [act_wf i s f h, State.run, dev_memOut s.dev hs, hf]
  simp only [hstored]
  exact congrArg (fun x => Host.Outcome.next { s with mem := memPutAll s.mem (cellsFrom a bs), dev := x }) (dev_memOut e he)

/-- A Bead's write to a word without an uncorrectable error, or of a whole word, stores its bytes and clears the word's error. -/
theorem exec_sramWrite {m a n v : Nat} {s : State} (hm : m < 16) (h : InSram a n) (hv : v < 2 ^ (8 * n)) (hs : s.Settled)
    (hreach : s.dev.reaches m a) (hecc : s.dev.eccBad.contains (a / 8 * 8) = true → n = 8) :
    exec (.memoryWindowWrite m a n v) s = .next { s with
      mem := memPutAll s.mem (cellsFrom a (bytesOf n v))
      dev := { s.dev with eccBad := s.dev.eccBad.filter (· != a / 8 * 8) }.replied m a 0 } := by
  have hlt := h.lt
  have hbus := busWrite_window v s.mem hreach h.2.2.1 hlt.2.1 h.widthOk h.mapped
  have hstore : ¬ (s.dev.eccBad.contains (a / 8 * 8) && decide (n ≠ 8)) = true := by simpa using hecc
  rw [memStore_sram v hm h, if_neg hstore] at hbus
  exact act_stores (windowWrite_wf hm h hv) hs.2 hs.2 hbus

/-- What a write of a number's bytes leaves in memory. -/
theorem sramWrite_mem (s : State) (a n v : Nat) :
    (∀ k, k < n → memGet (memPutAll s.mem (cellsFrom a (bytesOf n v))) (a + k) = BitVec.ofNat 8 (v / 2 ^ (8 * k))) ∧
    ∀ c, c < a ∨ a + n ≤ c → memGet (memPutAll s.mem (cellsFrom a (bytesOf n v))) c = memGet s.mem c :=
  ⟨fun k hk => (memGet_cells s.mem a (by rwa [length_bytesOf])).trans (getElem_bytesOf v _),
    fun c hc => memGet_cells_ne s.mem _ (by rwa [length_bytesOf])⟩

/-- Settles O13: with no uncorrectable word the write stores its bytes, and the device changes in the answer alone. -/
theorem sramWriteLands : Obligations.SramWriteLands := by
  unfold Obligations.SramWriteLands
  intro m a n v s hm hn hv hal hbase htop hs hecc hreach
  obtain ⟨hwritten, hkept⟩ := sramWrite_mem s a n v
  have hdev : { s.dev with eccBad := s.dev.eccBad.filter (· != a / 8 * 8) } = s.dev := by rw [hecc, List.filter_nil, ← hecc]
  refine ⟨_, exec_sramWrite hm ⟨hn, hal, hbase, htop⟩ hv hs hreach (by simp [hecc]), hwritten, hkept, ?_, rfl⟩
  exact congrArg (Device.replied · m a 0) hdev

/-- A read of shared SRAM answers memory's number; of a word with an uncorrectable error it ends in a bus error and its record. -/
theorem exec_sramRead {m a n : Nat} {s : State} (hm : isMaster m = true) (h : InSram a n) (hs : s.Settled)
    (hreach : s.dev.reaches m a) (hmem : (memLoad a n s.mem s.dev).2.2.memOut = []) :
    ActsOnDevice (.registerRead m a n) s (answer ⟨m, a, n, false, 0, domainOf a⟩
      (if s.dev.eccBad.contains (a / 8 * 8) then 2 else 0) (memNum s.mem a n) (memLoad a n s.mem s.dev).2.2) := by
  have hlt := h.lt
  have hwf : (Instr.registerRead m a n).wf = true := by
    have hfit : a < 4294967296 := by omega
    simp [Instr.wf, hm, fits, h.isWidth, hfit]
  have hbus := busRead_window s.mem hreach h.2.2.1 hlt.2.1 h.widthOk h.mapped
  have hload : (memLoad a n s.mem s.dev).2.1 = memNum s.mem a n ∧
      (memLoad a n s.mem s.dev).1 = if s.dev.eccBad.contains (a / 8 * 8) then 2 else 0 := by
    rw [← peekNum_eq_memNum s.mem a n hs.2, memLoad]
    split <;> exact ⟨rfl, rfl⟩
  rw [hload.1, hload.2] at hbus
  rw [ActsOnDevice, exec_registerRead, act_onDevice _ _ _ hwf hs.2 (by rw [hbus]; exact hmem), hbus]

/-- Settles O14: with no uncorrectable word the load changes nothing. -/
theorem sramReadIsLittleEndian : Obligations.SramReadIsLittleEndian := by
  unfold Obligations.SramReadIsLittleEndian
  intro m a n s hm hn hal hbase htop hs hecc hreach
  have hload : (memLoad a n s.mem s.dev).2.2 = s.dev := by simp [memLoad, hecc]
  have hread := exec_sramRead hm ⟨hn, hal, hbase, htop⟩ hs hreach (by rw [hload]; exact hs.2)
  rw [hload, hecc] at hread
  exact hread

/-- An uncorrectable error of an SRAM word leaves the bytes to write. -/
theorem eccFail_sram_memOut (o : Nat) (d : Device) : (eccFail (.sram o) d).memOut = d.memOut := by
  have hlog := log_tally ((d.inc (L.TLY_ECC_UNCORR 0)).set (L.TLY_ECC_ADDR_OFFSET 0) o) isleFABRIC 6 21 0 (common 9) [(o, 32)] (by decide)
  have hmark : ∀ (e : Device) b, (if e.eccBad.contains b then e else { e with eccBad := b :: e.eccBad }).memOut = e.memOut :=
    fun e b => by split <;> rfl
  exact (hmark _ _).trans hlog.memOut

/-- Settles O15: a read ends in a bus error with memory's number, a narrow write is turned away, and a write of the whole word stores
its bytes and takes the word off the list of errors. -/
theorem uncorrectableWord : Obligations.UncorrectableWord := by
  unfold Obligations.UncorrectableWord
  intro m a n v s hm hn hv hal hbase htop hs hecc hreach
  have hsram : InSram a n := ⟨hn, hal, hbase, htop⟩
  refine ⟨?_, fun hne => ?_, fun heq => ?_⟩
  · have hload : (memLoad a n s.mem s.dev).2.2 = eccFail (eccAt a) s.dev := by simp only [memLoad, hecc, if_true]
    have hmem : (memLoad a n s.mem s.dev).2.2.memOut = [] := by
      rw [hload, hsram.eccAt, eccFail_sram_memOut]; exact hs.2
    exact ⟨_, exec_sramRead (by simp [isMaster]; omega) hsram hs hreach hmem, by rw [hecc]; rfl, fun _ => rfl, rfl⟩
  · have hstore : memStore m a n v s.dev = (2, s.dev) := by rw [memStore_sram v hm hsram, hecc]; simp [hne]
    have hwrite := windowWrite_onDevice (windowWrite_wf hm hsram hv) hsram.widthOk hsram.mapped hs hreach (by rw [hstore]; exact hs.2)
    rw [hstore] at hwrite
    exact hwrite
  · subst heq
    obtain ⟨hwritten, hkept⟩ := sramWrite_mem s a 8 v
    have hword : a / 8 * 8 = a := by omega
    refine ⟨_, exec_sramWrite hm hsram hv hs hreach fun _ => rfl, ?_, hkept, memNum_of_bytes hv hwritten⟩
    simp [Device.replied, hword]

end Sys2Proof.Proofs
end

section
/-! SUPPORT. Where in the Tally block a record writes: the buffer levels, the counters of lost records and the event word (R389, R395,
R400). -/
namespace Sys2Proof.Proofs
open Sys2Proof Sys2Proof.Machine Sys2Proof.Laws

/-- Every register but those that records count in reads as before. -/
def LogOnly (d e : Device) : Prop := ∀ a, a < 0x20000 ∨ 0x200C0 ≤ a → e.rd a = d.rd a

namespace LogOnly

theorem refl (d : Device) : LogOnly d d := fun _ _ => rfl

theorem trans {d e f : Device} (h : LogOnly d e) (k : LogOnly e f) : LogOnly d f := fun a ha => (k a ha).trans (h a ha)

theorem of_set (d : Device) (l : Loc) (v : Nat) (hl : 0x20000 ≤ l.addr ∧ l.addr < 0x200C0) : LogOnly d (d.set l v) :=
  fun a ha => rd_set_ne d v l a (by omega)

/-- A field of a register that records do not count in reads as before. -/
theorem get {d e : Device} (h : LogOnly d e) (l : Loc) (hl : l.addr < 0x20000 ∨ 0x200C0 ≤ l.addr) : e.get l = d.get l := by
  unfold Device.get; rw [h _ hl]

theorem of_foldl {β : Type} (f : Device → β → Device) (hf : ∀ d x, LogOnly d (f d x)) (l : List β) (d : Device) :
    LogOnly d (l.foldl f d) := by
  induction l generalizing d with
  | nil => exact refl d
  | cons x l ih => exact (hf d x).trans (ih _)

theorem of_tallyIrq (d : Device) : LogOnly d (tallyIrq d) := by
  have hmsix : ∀ v (e : Device), LogOnly e (msix v e) := fun v e => by
    unfold msix; split <;> exact fun _ _ => rfl
  unfold tallyIrq
  split
  · exact refl d
  refine LogOnly.trans ?_ (of_foldl _ (fun e n => ?_) _ _)
  · dsimp only
    split
    · exact fun a ha => hmsix _ { d with tally := { d.tally with irq := true } } a ha
    · exact fun _ _ => rfl
  · split <;> exact fun _ _ => rfl

theorem of_pushAll {d e : Device} {r : LogRec} {ps : List LogRec} (hr : r.island < 16) (h : d.pushAll r ps = some e) :
    LogOnly d e := by
  unfold Device.pushAll at h
  rw [← of_guard h]
  refine LogOnly.trans ?_ (of_set _ (L.TLY_ISL_LEVEL r.island) _ (by simp only [L.TLY_ISL_LEVEL, A.TLY_ISL]; omega))
  exact fun _ _ => rfl

theorem of_loseRecs (d : Device) {i : Nat} (n : Nat) (hi : i < 16) : LogOnly d (d.loseRecs i n) := by
  unfold Device.loseRecs Device.addSat
  refine LogOnly.trans (LogOnly.trans ?_ (of_set _ (L.TLY_ISL_DROP i) _ (by simp only [L.TLY_ISL_DROP, A.TLY_ISL]; omega)))
    (of_set _ L.TLY_LATE_LOST _ (by decide))
  exact fun _ _ => rfl

theorem of_pushParts (d : Device) {r : LogRec} (ps : List LogRec) (hr : r.island < 16) : LogOnly d (d.pushParts r ps) := by
  unfold Device.pushParts
  split
  case h_1 h => exact of_pushAll hr h
  have hlost : LogOnly d (tallyIrq ((d.loseRecs r.island ps.length).set L.TLY_EVENT_LOST 1)) :=
    ((of_loseRecs d _ hr).trans (of_set _ L.TLY_EVENT_LOST _ (by decide))).trans (of_tallyIrq _)
  dsimp only
  split
  case isFalse => exact hlost
  have hstamped : ∀ (e : Device) key, LogOnly e (e.stampLimiter key) := fun _ _ _ _ => rfl
  split
  case h_1 h => exact (hlost.trans (hstamped _ _)).trans (of_pushAll (show isleFABRIC < 16 by decide) h)
  case h_2 => exact (hlost.trans (hstamped _ _)).trans (of_loseRecs _ _ (by decide))

/-- A record leaves every register that records do not count in. -/
theorem of_log (d : Device) {isle : Nat} (sev cls src code : Nat) (items : List (Nat × Nat)) (h : isle < 16) :
    LogOnly d (d.log isle sev cls src code items) := of_pushParts _ _ h

end LogOnly

end Sys2Proof.Proofs
end

section
/-! SUPPORT. The lock registers (R25): one sticky bit each. -/
namespace Sys2Proof.Proofs
open Sys2Proof Sys2Proof.Machine Sys2Proof.Laws

/-- The lock registers by block. -/
def lockName (b : Nat) : RegName :=
  match b with
  | 0 => .SYS_LOCK
  | 1 => .MBX_LOCK
  | 2 => .TLY_LOCK
  | 3 => .CLK_LOCK
  | 4 => .DMA_LOCK
  | 5 => .DMP_LOCK
  | 6 => .FH_LOCK
  | _ => .GST_LOCK

/-- The map's row of a lock register: firmware-only, one bit that a write of 1 sets. -/
def lockRow (b : Nat) : RegRow := ⟨lockName b, lockAddr b, [], 0, [], .fw, 0, 0, [⟨0, 0, .w1s, 0⟩]⟩

theorem regAt_lock : ∀ b < 8, regAt (lockAddr b) = some (lockRow b, 0, 0) := by decide +kernel

/-- Where the lock registers lie: in mapped register blocks, and none is a register that records or violations write. -/
theorem lockAddr_place : ∀ b < 8, lockAddr b < 0x10000000 ∧ lockAddr b % 4 = 0 ∧ isMapped (lockAddr b) = true ∧
    (lockAddr b < 0x20000 ∨ 0x200C0 ≤ lockAddr b) ∧ lockAddr b ≠ A.SYS_HOSTVIOL ∧ lockAddr b ≠ A.SYS_HOSTVIOL_ADDR := by decide

/-- The lock bit of a block. -/
def lockLoc (b : Nat) : Loc := ⟨lockAddr b, 0, 1⟩

/-- A lock register has no effect beside its bit. -/
theorem regEffect_lock (b : Nat) (w : Wr) (mem : List Host.Cell) (d : Device) : regEffect (lockName b) w mem d = d := by
  unfold lockName
  split <;> rfl

theorem targetRefuses_lock (b i j a : Nat) (d : Device) : targetRefuses (lockName b) i j a d = none := by
  unfold lockName
  split <;> rfl

/-- A lock register written keeps its bit where it stands, and takes a 1. -/
theorem putWord_lock (b m v : Nat) (d : Device) :
    putWord (lockRow b) 0 m (lockAddr b) v d = d.set (lockLoc b) (d.get (lockLoc b) ||| bitsOf v 0 1) := by
  have hname : lockName b ≠ .WCH_CFG := by unfold lockName; split <;> simp
  simp [putWord, RegRow.fieldsAt, lockRow, hname, fieldsWrite, FieldRow.write, Device.set, Device.get, lockLoc]

/-- What a write of a lock register that is not refused does: its bit is set, or stays. -/
theorem regStore_lock {m b : Nat} (v : Nat) (mem : List Host.Cell) {d : Device} (hb : b < 8) (hhost : d.hostLike m = false) :
    (regStore m (lockAddr b) v mem d).2 = d.set (lockLoc b) (d.get (lockLoc b) ||| bitsOf v 0 1) := by
  rw [regStore, regAt_lock b hb]
  simp only [hhost, Bool.and_false, Bool.false_eq_true, if_false]
  rw [show (lockRow b).name = lockName b from rfl, targetRefuses_lock]
  simp only [show (lockRow b).wlen < 2 from (by decide : 0 < 2), if_true, plainWrite]
  rw [show (lockRow b).name = lockName b from rfl, regEffect_lock, putWord_lock]

/-- A refused write of a lock register leaves its bit. -/
theorem hostViolation_lock {b : Nat} (m a : Nat) (d : Device) (hb : b < 8) :
    (hostViolation m a d).get (lockLoc b) = d.get (lockLoc b) := by
  obtain ⟨-, -, -, hlog, hcount, haddr⟩ := lockAddr_place b hb
  have hcounted : (hostCounted m a d).get (lockLoc b) = d.get (lockLoc b) := by
    rw [hostCounted, get_set_ne _ _ _ _ haddr, get_set_ne _ _ _ _ hcount, Device.inc, Device.addSat, get_set_ne _ _ _ _ hcount]
  exact ((LogOnly.of_log _ _ _ _ _ _ (isleOf_lt a)).get (lockLoc b) hlog).trans hcounted

/-- Whoever writes it and whatever, a lock bit that stands stays, and no byte is stored. -/
theorem regStore_lock_stays {m b : Nat} (v : Nat) (mem : List Host.Cell) {d : Device} (hb : b < 8) (hset : d.get (lockLoc b) = 1) :
    (regStore m (lockAddr b) v mem d).2.get (lockLoc b) = 1 ∧ (regStore m (lockAddr b) v mem d).2.memOut = d.memOut := by
  cases hhost : d.hostLike m with
  | false =>
    rw [regStore_lock v mem hb hhost, get_set_same _ _ _ (show 0 + 1 ≤ 32 by decide), hset]
    have hbit := bitsOf_lt v 0 1
    interval_cases bitsOf v 0 1 <;> exact ⟨rfl, rfl⟩
  | true =>
    have hname : (lockRow b).name ≠ .MBX_BIND := by
      show lockName b ≠ _
      unfold lockName
      split <;> simp
    rw [regStore_host v mem (regAt_lock b hb) rfl hname hhost]
    exact ⟨(hostViolation_lock m _ d hb).trans hset, hostViolation_memOut m _ d⟩

/-- Settles O16: a Bead's write sets the bit of its register alone (`regStore_lock`), and no write clears it
(`regStore_lock_stays`). -/
theorem lockBitsStaySet : Obligations.LockBitsStaySet := by
  unfold Obligations.LockBitsStaySet
  intro m b v s hm hb hv hs hreach
  obtain ⟨hreg, h4, hmap, -⟩ := lockAddr_place b hb
  refine ⟨fun hbead => ?_, fun hset => ?_⟩
  · have hbus := busWrite_register m (lockAddr b) 1 s.mem s.dev hreach hreg h4 hmap
    rw [regStore_lock 1 s.mem hb (hostLike_bead s.dev hbead)] at hbus
    have hexec := act_onDevice (.lockBitSet m b) s (busWrite m (lockAddr b) 4 1) (by simp [Instr.wf, hm, hb]) hs.2 (by rw [hbus]; exact hs.2)
    rw [hbus] at hexec
    refine ⟨_, hexec, ?_, fun a ha => ?_, fun _ => rfl⟩
    · refine (get_set_same s.dev _ (lockLoc b) (show 0 + 1 ≤ 32 by decide)).trans ?_
      have hbit := bitsOf_lt (s.dev.rd (lockAddr b)) 0 1
      show (bitsOf (s.dev.rd (lockAddr b)) 0 1 ||| 1) % 2 = 1
      interval_cases bitsOf (s.dev.rd (lockAddr b)) 0 1 <;> rfl
    · exact rd_set_ne s.dev _ (lockLoc b) a (show a ≠ lockAddr b by simpa using ha)
  · obtain ⟨hstays, hmem⟩ := regStore_lock_stays (m := m) v s.mem hb hset
    exact ⟨_, registerWrite_onDevice hm hreg hv h4 hmap hs hreach (hmem.trans hs.2), hstays, fun _ => rfl⟩

end Sys2Proof.Proofs
end

section
/-! SUPPORT. Wide values word by word (R59): what is held on the way in, and what is copied on the way out. -/
namespace Sys2Proof.Proofs
open Sys2Proof Sys2Proof.Machine Sys2Proof.Laws

/-- A write of a lower word that is not turned away is held. -/
theorem regStore_held {m a i j : Nat} {r : RegRow} (v : Nat) (mem : List Host.Cell) {d : Device} (hreg : regAt a = some (r, i, j))
    (hwide : 2 ≤ r.wlen) (hlow : r.wpos + 1 < r.wlen) (hhost : (r.mark.firmware i && d.hostLike m) = false)
    (htarget : targetRefuses r.name i j a d = none) : (regStore m a v mem d).2 = heldAt m a v d := by
  simp only [regStore, hreg, hhost, htarget, Bool.false_eq_true, if_false, Nat.not_lt.2 hwide, hlow, if_true]
  rfl

/-- A held write's command is its bus access. -/
theorem exec_wideWriteHeld (m a v : Nat) (s : State) :
    exec (.wideWriteHeld m a v) s = act (.wideWriteHeld m a v) s (busWrite m a 4 v) := rfl

/-- Settles O17: the word is held, and the access is answered. -/
theorem wideWriteIsHeld : Obligations.WideWriteIsHeld := by
  unfold Obligations.WideWriteIsHeld
  intro m a v i j r s hm ha hv h4 hmap hreg hwide hlow hhost htarget hs hreach
  have hbus := busWrite_register m a v s.mem s.dev hreach ha h4 hmap
  rw [regStore_held v s.mem hreg hwide hlow hhost htarget] at hbus
  have hwf : (Instr.wideWriteHeld m a v).wf = true := by
    simp only [Instr.wf, hm, fits, Bool.and_eq_true, decide_eq_true_eq]
    exact ⟨⟨trivial, by omega⟩, hv⟩
  rw [ActsOnDevice, exec_wideWriteHeld, act_onDevice _ _ _ hwf hs.2 (by rw [hbus]; exact hs.2), hbus]
  rfl

/-! ## The network-time counter (R59, R361) -/

/-- The words of the counter, lowest first. -/
def timeNowName (k : Nat) : RegName :=
  match k with
  | 0 => .TIME_NOW_W0
  | 1 => .TIME_NOW_W1
  | 2 => .TIME_NOW_W2
  | _ => .TIME_NOW_W3

/-- The map's row of word `k` of the counter. -/
def timeNowRow (k : Nat) : RegRow :=
  ⟨timeNowName k, A.TIME_NOW_W0 + 4 * k, [], 0, [], .none, k, 4, [⟨if k = 3 then 15 else 31, 0, .ro, 0⟩]⟩

theorem regAt_timeNow : ∀ k < 4, regAt (A.TIME_NOW_W0 + 4 * k) = some (timeNowRow k, 0, 0) := by decide +kernel

theorem timeNow_place : ∀ k < 4, A.TIME_NOW_W0 + 4 * k < 0x10000000 ∧ (A.TIME_NOW_W0 + 4 * k) % 4 = 0 ∧
    isMapped (A.TIME_NOW_W0 + 4 * k) = true ∧ domainOf (A.TIME_NOW_W0 + 4 * k) = domainOf A.TIME_NOW_W0 := by decide

/-- A read of the counter's lowest word answers the fraction and copies the words above it. -/
theorem regLoad_timeNow_low (m : Nat) (d : Device) : regLoad m A.TIME_NOW_W0 d = (d.time.frac, { d with
    readShadow := tabPut d.readShadow m
      ⟨A.TIME_NOW_W0, [word d.time.ns, word (d.time.sec % 2 ^ 32), word (d.time.sec / 2 ^ 32)]⟩ }) := by
  have h0 : regAt A.TIME_NOW_W0 = some (timeNowRow 0, 0, 0) := regAt_timeNow 0 (by decide)
  have h1 := regAt_timeNow 1 (by decide)
  have h2 := regAt_timeNow 2 (by decide)
  have h3 := regAt_timeNow 3 (by decide)
  have hrange : List.range 3 = [0, 1, 2] := rfl
  simp only [regLoad, h0, show (timeNowRow 0).wlen = 4 from rfl, show (timeNowRow 0).wpos = 0 from rfl, afterRead, hrange,
    List.map_cons, List.map_nil, Device.liveAt, h1, h2, h3]
  rfl

/-- A read of a higher word by a master whose shadow holds the counter answers the copy and changes nothing. -/
theorem regLoad_timeNow_high {m k : Nat} {d : Device} {ws : List Word} (hk : k < 3)
    (hsh : tabGet? d.readShadow m = some ⟨A.TIME_NOW_W0, ws⟩) :
    regLoad m (A.TIME_NOW_W0 + 4 * (k + 1)) d = ((ws.getD k 0).toNat, d) := by
  have hreg := regAt_timeNow (k + 1) (by omega)
  simp only [regLoad, hreg, hsh, timeNowRow, Nat.add_sub_cancel]
  simp

theorem exec_wideReadLowWord (m a : Nat) (s : State) :
    exec (.wideReadLowWord m a) s = act (.wideReadLowWord m a) s (busRead m a 4) := rfl

/-- Settles O18: the lowest word is read live with a copy of the rest, and the rest from the copy. -/
theorem wideReadIsOneInstant : Obligations.WideReadIsOneInstant := by
  unfold Obligations.WideReadIsOneInstant
  intro m s hm hs hreach
  refine ⟨?_, fun ws k _ hk hsh => ?_⟩
  · have hbus := busRead_register m A.TIME_NOW_W0 s.mem s.dev hreach (by decide) (by decide) (by decide)
    rw [regLoad_timeNow_low] at hbus
    have hwf : (Instr.wideReadLowWord m A.TIME_NOW_W0).wf = true := by simp [Instr.wf, hm, fits, A.TIME_NOW_W0]
    rw [ActsOnDevice, exec_wideReadLowWord, act_onDevice _ _ _ hwf hs.2 (by rw [hbus]; exact hs.2), hbus]
  · obtain ⟨hlt, h4, hmap, hdomain⟩ := timeNow_place (k + 1) (by omega)
    have hload := regLoad_timeNow_high hk hsh
    have hreach' : s.dev.reaches m (A.TIME_NOW_W0 + 4 * (k + 1)) := by
      unfold Device.reaches
      rwa [hdomain]
    have hread := registerRead_onDevice hm hlt h4 hmap hs hreach' (by rw [hload]; exact hs.2)
    rw [hload] at hread
    exact hread

end Sys2Proof.Proofs
end

section
/-! SUPPORT. Reading MBX_POP (R417): who takes the head, and what is left. -/
namespace Sys2Proof.Proofs
open Sys2Proof Sys2Proof.Machine Sys2Proof.Laws

/-- The map's row of the first word of MBX_POP. -/
def popRow : RegRow := ⟨.MBX_POP_W0, 0x11008, [⟨0x10, 64, 1⟩], 0, [], .none, 0, 2, [⟨31, 0, .ro, 0⟩]⟩

theorem regAt_pop : ∀ c < 64, regAt (A.MBX_POP_W0 c) = some (popRow, c, 0) := by decide +kernel

theorem pop_place : ∀ c < 64, A.MBX_POP_W0 c < 0x10000000 ∧ A.MBX_POP_W0 c % 4 = 0 ∧ isMapped (A.MBX_POP_W0 c) = true := by
  decide +kernel

/-- A read of MBX_POP answers the head's offset; what it leaves is the pop, in a device with another read shadow. -/
theorem regLoad_pop {m c : Nat} (d : Device) (hc : c < 64) :
    ∃ sh, regLoad m (A.MBX_POP_W0 c) d = ((d.popWords c).1, mbxPop m c { d with readShadow := sh }) := by
  have hreg := regAt_pop c hc
  refine ⟨tabPut d.readShadow m ⟨A.MBX_POP_W0 c, (List.range 1).map fun k => word (d.liveAt m (A.MBX_POP_W0 c + 4 * (k + 1)))⟩, ?_⟩
  simp only [regLoad, hreg, popRow, afterRead, readClear, Device.liveAt]
  rfl

/-- Removing the head of a channel changes of the mailbox that channel only, by its head. -/
theorem mbxRemove_kept {c : Nat} (d : Device) (hc : c < 64) :
    ∃ e, MailboxKept e (mbxRemove c d) ∧ e.chan' c = (d.chan' c).tail ∧ (∀ k, k ≠ c → e.chan' k = d.chan' k) ∧ e.memOut = d.memOut := by
  unfold mbxRemove
  split
  case h_1 hnil => exact ⟨d, .refl d, by rw [hnil]; rfl, fun _ _ => rfl, rfl⟩
  case h_2 x q hcons =>
    refine ⟨{ d with mbx := tabPut d.mbx c q }, (setFifo_kept c q d hc).trans ?_, ?_, fun k hk => ?_, rfl⟩
    · unfold Device.when
      split
      · exact mbxDeliver_kept c _
      · exact .refl _
    · rw [hcons]; exact tabGet_tabPut_same _ _ _ _
    · simp only [Device.chan', tabGet, tabGet?_tabPut_ne _ c k _ hk]

/-- Where the mailbox is kept, so is every channel. -/
theorem MailboxKept.chan {d e : Device} (h : MailboxKept d e) (k : Nat) : e.chan' k = d.chan' k := by
  rw [Device.chan', h.mbx, Device.chan']

/-- A pop command is its bus access. -/
theorem exec_mbxPopRead (m c n : Nat) (s : State) :
    exec (.mbxPopRead m c n) s = act (.mbxPopRead m c n) s (busRead m (A.MBX_POP_W0 c) n) := rfl

/-- A read of MBX_POP that reaches its target: the answer, and the pop in a device that differs in its read shadow. -/
theorem exec_mbxPopRead_pops {m c : Nat} {s : State} (hm : isMaster m = true) (hc : c < 64) (hs : s.Settled)
    (h : s.dev.reaches m (A.MBX_POP_W0 c)) (hmem : ∀ sh, (mbxPop m c { s.dev with readShadow := sh }).memOut = []) :
    ∃ sh, ActsOnDevice (.mbxPopRead m c 4) s
      ((mbxPop m c { s.dev with readShadow := sh }).replied m (A.MBX_POP_W0 c) (s.dev.popWords c).1) := by
  obtain ⟨hlt, h4, hmap⟩ := pop_place c hc
  obtain ⟨sh, hload⟩ := regLoad_pop (m := m) s.dev hc
  have hbus := busRead_register m (A.MBX_POP_W0 c) s.mem s.dev h hlt h4 hmap
  rw [hload] at hbus
  refine ⟨sh, ?_⟩
  rw [ActsOnDevice, exec_mbxPopRead, act_onDevice _ _ _ (by simp [Instr.wf, hm, hc]) hs.2 (by rw [hbus]; exact hmem sh), hbus]

/-- Settles O20: the bound receiver's pop is the removal of the head (`mbxRemove_kept`), anyone else's leaves the device. -/
theorem popTakesTheHead : Obligations.PopTakesTheHead := by
  unfold Obligations.PopTakesTheHead
  intro m c s hm hc hs hreach
  by_cases hbound : s.dev.on (L.MBX_BIND_EN c) = true ∧ s.dev.receiver c = m
  · have hpop : ∀ sh, mbxPop m c { s.dev with readShadow := sh } = mbxRemove c { s.dev with readShadow := sh } := fun sh =>
      if_pos (Bool.and_eq_true_iff.2 ⟨hbound.1, beq_iff_eq.2 hbound.2⟩)
    have hmem : ∀ sh, (mbxPop m c { s.dev with readShadow := sh }).memOut = [] := fun sh => by
      obtain ⟨e, he, -, -, hout⟩ := mbxRemove_kept { s.dev with readShadow := sh } hc
      rw [hpop, he.memOut, hout]; exact hs.2
    obtain ⟨sh, hexec⟩ := exec_mbxPopRead_pops hm hc hs hreach hmem
    obtain ⟨e, he, hhead, hothers, -⟩ := mbxRemove_kept { s.dev with readShadow := sh } hc
    rw [hpop] at hexec
    refine ⟨_, hexec, rfl, fun _ => (he.chan c).trans hhead, fun hnot => ?_, fun k hk => (he.chan k).trans (hothers k hk), fun _ => rfl⟩
    rcases hnot with hoff | hother
    · exact absurd hbound.1 (by simp [hoff])
    · exact absurd hbound.2 hother
  · have hpop : ∀ sh, mbxPop m c { s.dev with readShadow := sh } = { s.dev with readShadow := sh } := fun sh =>
      if_neg fun h => hbound ((Bool.and_eq_true_iff.1 h).imp_right beq_iff_eq.1)
    obtain ⟨sh, hexec⟩ := exec_mbxPopRead_pops hm hc hs hreach fun sh => by rw [hpop]; exact hs.2
    rw [hpop] at hexec
    exact ⟨_, hexec, rfl, fun h => absurd h hbound, fun _ => rfl, fun _ _ => rfl, fun _ => rfl⟩

end Sys2Proof.Proofs
end


section
/-! SUPPORT. A command on the device alone, and what a saturating counter and a signed field read after a write. -/
namespace Sys2Proof.Proofs
open Sys2Proof Sys2Proof.Machine Sys2Proof.Laws

/-- A command whose effect is on the device alone, and stores no byte, answers with that effect. -/
theorem actDev_onDevice {i : Instr} {s : State} (f : Device → Device) (hwf : i.wf = true) (hs : s.Settled)
    (hexec : exec i s = actDev i s f) (hmem : (f s.dev).memOut = []) : ActsOnDevice i s (f s.dev) :=
  hexec.trans (act_onDevice i s (fun _ d => f d) hwf hs.2 hmem)

/-- Where the effect is the identity the device stays as it is. -/
theorem actDev_kept {i : Instr} {s : State} (f : Device → Device) (hwf : i.wf = true) (hs : s.Settled)
    (hexec : exec i s = actDev i s f) (hf : f s.dev = s.dev) : ActsOnDevice i s s.dev := by
  have h := actDev_onDevice f hwf hs hexec (hf.symm ▸ hs.2)
  rwa [hf] at h

/-- Where the effect leaves the device `e`, the command answers with `e`. -/
theorem actDev_eq {i : Instr} {s : State} {e : Device} (f : Device → Device) (hwf : i.wf = true) (hs : s.Settled)
    (hexec : exec i s = actDev i s f) (hf : f s.dev = e) (hmem : e.memOut = []) : ActsOnDevice i s e := by
  have h := actDev_onDevice f hwf hs hexec (hf.symm ▸ hmem)
  rwa [hf] at h

/-- A counter of a field within its word: one more, to its top. -/
theorem get_inc_same (d : Device) {l : Loc} (h : l.lo + l.w ≤ 32) : (d.inc l).get l = min (2 ^ l.w - 1) (d.get l + 1) := by
  have hpos := Nat.two_pow_pos l.w
  rw [Device.inc, Device.addSat, get_set_same _ _ _ h, satAdd, Nat.mod_eq_of_lt (by omega)]

/-- A counter of another register. -/
theorem get_inc_ne (d : Device) {l k : Loc} (h : k.addr ≠ l.addr) : (d.inc l).get k = d.get k := get_set_ne _ _ _ _ h

theorem rd_inc_ne (d : Device) {l : Loc} {a : Nat} (h : a ≠ l.addr) : (d.inc l).rd a = d.rd a := rd_set_ne _ _ _ _ h

/-- A bit just set is on. -/
theorem on_set_one (d : Device) {l : Loc} (hw : l.w = 1) (hlo : l.lo < 32) : (d.set l 1).on l = true := by
  rw [Device.on, get_set_same _ _ _ (by omega), hw]
  rfl

/-- An integer within the range of a two's complement field reads back from it. -/
theorem signedOf_encodeSigned {w : Nat} {z : Int} (hw : 0 < w) (hlo : -(2 ^ (w - 1) : Nat) ≤ z) (hhi : z < (2 ^ (w - 1) : Nat)) :
    signedOf w (encodeSigned w z % 2 ^ w) = z := by
  have hhalf : (2 : Nat) ^ w = 2 * 2 ^ (w - 1) := by rw [← Nat.pow_succ']; congr 1; omega
  have henc : encodeSigned w z = (if 0 ≤ z then z else z + (2 ^ w : Nat)).toNat := by
    unfold encodeSigned
    split
    case isTrue h => rw [Int.emod_eq_of_lt h (by omega)]
    case isFalse h => rw [← Int.add_emod_right, Int.emod_eq_of_lt (by omega) (by omega)]
  have hlt : encodeSigned w z < 2 ^ w := by rw [henc]; split <;> omega
  unfold signedOf
  rw [Nat.mod_mod, Nat.mod_eq_of_lt hlt, henc]
  split_ifs <;> omega

/-- A signed field just written reads back, within its range. -/
theorem getS_set_encode (d : Device) {l : Loc} {z : Int} (h : l.lo + l.w ≤ 32) (hw : 0 < l.w) (hlo : -(2 ^ (l.w - 1) : Nat) ≤ z)
    (hhi : z < (2 ^ (l.w - 1) : Nat)) : (d.set l (encodeSigned l.w z)).getS l = z := by
  rw [Device.getS, get_set_same _ _ _ h, signedOf_encodeSigned hw hlo hhi]

/-- A signed field lies within its range. -/
theorem getS_range (d : Device) {l : Loc} (hw : 0 < l.w) : -(2 ^ (l.w - 1) : Nat) ≤ d.getS l ∧ d.getS l < (2 ^ (l.w - 1) : Nat) := by
  have hhalf : (2 : Nat) ^ l.w = 2 * 2 ^ (l.w - 1) := by rw [← Nat.pow_succ']; congr 1; omega
  have hlt : d.get l % 2 ^ l.w < 2 ^ l.w := Nat.mod_lt _ (Nat.two_pow_pos _)
  unfold Device.getS signedOf
  split_ifs <;> omega

end Sys2Proof.Proofs
end

section
/-! SUPPORT. The clock chapter's commands (R94, R104, R110, R528). -/
namespace Sys2Proof.Proofs
open Sys2Proof Sys2Proof.Machine Sys2Proof.Laws

/-- Settles O23: each event acts in its own state of MSTATE, and is the identity in every other. -/
theorem clockLockSequence : Obligations.ClockLockSequence := by
  unfold Obligations.ClockLockSequence
  intro s hs
  have hband : ∀ band, band < 64 → (Instr.mdllBandChosen band).wf = true := fun band h => by simp [Instr.wf, fits, h]
  refine ⟨fun band hb h1 => ?_, fun band hb h1 => ?_, fun h7 => ?_, fun h7 => ?_, fun hcold hport => ?_, fun hoff => ?_⟩
  · exact actDev_eq (bandChosen band) (hband band hb) hs rfl (by rw [bandChosen, if_pos h1]; rfl) hs.2
  · exact actDev_kept (bandChosen band) (hband band hb) hs rfl (by rw [bandChosen, if_neg h1])
  · exact actDev_eq slewDone rfl hs rfl (by rw [slewDone, if_pos h7]; rfl) hs.2
  · exact actDev_kept slewDone rfl hs rfl (by rw [slewDone, if_neg h7])
  · exact actDev_eq fhQualified rfl hs rfl (by simp [fhQualified, hcold, hport]) hs.2
  · exact actDev_kept fhQualified rfl hs rfl (by rw [fhQualified, if_pos (by simpa using hoff)])

/-- The offset one step from `old` towards `target`. -/
def offsetAfter (target old : Int) : Int := if old < target then min target (old + 50000) else max target (old - 50000)

/-- A step goes towards the target, no farther than it, and by 50,000 or all the way. -/
theorem offsetAfter_spec (target old : Int) :
    min old target ≤ offsetAfter target old ∧ offsetAfter target old ≤ max old target ∧
    (offsetAfter target old - old).natAbs ≤ 50000 ∧ ((target - old).natAbs ≤ 50000 → offsetAfter target old = target) ∧
    ((target - old).natAbs > 50000 → (offsetAfter target old - old).natAbs = 50000) := by
  unfold offsetAfter
  split_ifs <;> omega

/-- Settles O24: between two offsets of 32 bits lies one that its field holds (`getS_set_encode`). -/
theorem auxOffsetMovesToTarget : Obligations.AuxOffsetMovesToTarget := by
  unfold Obligations.AuxOffsetMovesToTarget
  intro s hs
  have hstep := offsetAfter_spec (s.dev.getS L.CLK_AUX_OFFSET_TARGET) (s.dev.getS L.CLK_AUX_APPLIED_APPLIED)
  obtain ⟨htlo, hthi⟩ := getS_range s.dev (l := L.CLK_AUX_OFFSET_TARGET) (by decide)
  obtain ⟨holo, hohi⟩ := getS_range s.dev (l := L.CLK_AUX_APPLIED_APPLIED) (by decide)
  have hnew := getS_set_encode s.dev (l := L.CLK_AUX_APPLIED_APPLIED)
    (z := offsetAfter (s.dev.getS L.CLK_AUX_OFFSET_TARGET) (s.dev.getS L.CLK_AUX_APPLIED_APPLIED)) (by decide) (by decide)
    (le_trans (le_min holo htlo) hstep.1) (lt_of_le_of_lt hstep.2.1 (max_lt hohi hthi))
  refine ⟨_, actDev_onDevice auxOffsetStep rfl hs rfl hs.2, ?_⟩
  rw [← show (auxOffsetStep s.dev).getS L.CLK_AUX_APPLIED_APPLIED = _ from hnew] at hstep
  obtain ⟨hlo, hhi, hfar, harrive, hfull⟩ := hstep
  exact ⟨hlo, hhi, hfar, harrive, hfull, fun a ha => rd_set_ne _ _ _ _ (show a ≠ A.CLK_AUX_APPLIED by simpa using ha),
    fun _ => rfl⟩

end Sys2Proof.Proofs
end

section
/-! SUPPORT. The converters' commands (R121, R133, R150–R152). -/
namespace Sys2Proof.Proofs
open Sys2Proof Sys2Proof.Machine Sys2Proof.Laws

/-- Settles O25: the counter goes up, the event bit is set, and a limited event writes the Tally block alone for the rest. -/
theorem overrangeIsCounted : Obligations.OverrangeIsCounted := by
  unfold Obligations.OverrangeIsCounted
  intro n s hn hs
  have hlog : TallyOnly ((s.dev.inc (L.RXADC_OVR_CNT_COUNT n)).set (L.RXADC_EVENT_OVR n) 1) (rxOverrange n s.dev) :=
    eventLimited_tally _ _ _ _ _ _ _ _ _ (by decide)
  have hcount : A.RXADC_OVR_CNT n ≠ A.RXADC_EVENT n := by simp only [A.RXADC_OVR_CNT, A.RXADC_EVENT]; omega
  refine ⟨_, actDev_onDevice (rxOverrange n) (by simp [Instr.wf, hn]) hs rfl (hlog.memOut.trans hs.2), ?_, ?_, fun a ha hc he => ?_,
    fun _ => rfl⟩
  · rw [hlog.get _ (by simp only [L.RXADC_OVR_CNT_COUNT, A.RXADC_OVR_CNT]; omega), get_set_ne _ _ _ _ hcount,
      get_inc_same _ (show 0 + 32 ≤ 32 by decide)]
    rfl
  · rw [Device.on, hlog.get _ (by simp only [L.RXADC_EVENT_OVR, A.RXADC_EVENT]; omega)]
    exact on_set_one _ rfl (show 0 < 32 by decide)
  · rw [hlog.regs a ha, rd_set_ne _ _ _ _ he, rd_inc_ne _ hc]

/-- A ramp whose samples have passed ends; one still on its way goes on. -/
theorem muteRampDone_some {p : Nat} {r : MuteRamp} {d : Device} (h : (d.txc p).ramp = some r) :
    muteRampDone p d = if r.ended d.laneNow || d.laneNow == r.start then rampFinished p r d else d := by
  simp only [muteRampDone, h]

/-- Settles O26: each event acts in its own state of the converter or of its ramp, and is the identity in every other. -/
theorem converterBiasAndRamp : Obligations.ConverterBiasAndRamp := by
  unfold Obligations.ConverterBiasAndRamp
  intro p s hp hs
  have hrx : (Instr.rxadcBiasDone p).wf = true := by simp [Instr.wf]; omega
  have htx : (Instr.txdacBiasDone p).wf = true := by simp [Instr.wf, hp]
  have hramp : (Instr.muteRampDone p).wf = true := by simp [Instr.wf, hp]
  refine ⟨fun h => ?_, fun h hout => ?_, fun h => ?_, fun h hclk => ?_, fun h => ?_, fun r h hend => ?_, fun r h hend hstart => ?_⟩
  · exact actDev_kept (rxBiasDone p) hrx hs rfl (by rw [rxBiasDone, if_neg h])
  · exact actDev_eq (rxBiasDone p) hrx hs rfl (by rw [rxBiasDone, if_pos h, if_pos hout]) hs.2
  · exact actDev_kept (txBiasDone p) htx hs rfl (by rw [txBiasDone, if_neg h])
  · exact actDev_eq (txBiasDone p) htx hs rfl (by simp [txBiasDone, h, hclk]) hs.2
  · exact actDev_kept (muteRampDone p) hramp hs rfl (by simp only [muteRampDone, h])
  · refine actDev_eq (muteRampDone p) hramp hs rfl ?_ hs.2
    rw [muteRampDone_some h, if_pos (by simpa using hend), rampFinished, TxCtl.follow, h]
    cases r.up <;> rfl
  · exact actDev_kept (muteRampDone p) hramp hs rfl (by rw [muteRampDone_some h, if_neg (by simp [hend, hstart])])

end Sys2Proof.Proofs
end

section
/-! SUPPORT. Captures, pulses, stamps and scrubbing (R378, R380, R390, R401). -/
namespace Sys2Proof.Proofs
open Sys2Proof Sys2Proof.Machine Sys2Proof.Laws

/-- The stamps held of an input after they are replaced. -/
theorem caps_setCaps_same (i : Nat) (l : List (List Nat)) (d : Device) : (setCaps i l d).caps i = l := tabGet_tabPut_same _ _ _ _

theorem caps_setCaps_ne {i j : Nat} (l : List (List Nat)) (d : Device) (h : j ≠ i) : (setCaps i l d).caps j = d.caps j := by
  exact congrArg (Option.getD · []) (tabGet?_tabPut_ne d.tctl.tcap i j l h)

/-- A selected edge with the tick running enters the FIFO, or is counted as lost. -/
theorem tcapEdge_selected {i : Nat} {d : Device} (rising : Bool) (hen : d.on (L.TCAP_CFG_EN i) = true) (htick : d.tickRuns = true)
    (hedge : 2 ≤ d.get (L.TCAP_CFG_EDGE i)) : tcapEdge i rising d =
      if 8 ≤ (d.caps i).length then timeEvent L.TIME_EVENT_TCAP_OVF (0x10 + i) 1 [] (d.inc (L.TCAP_STAT_OVF i))
      else setCaps i (d.caps i ++ [stampWords d.counter (bit (!rising)) 0]) d := by
  simp [tcapEdge, hen, htick, hedge]

/-- The end of a pulse with no commit waiting. -/
theorem pulseLow_unscheduled {k : Nat} {d : Device} (h : (d.pulse k).next = none) : pulseLow k d = d.set (L.TP_STAT_HIGH k) 0 := by
  have hset : ((d.set (L.TP_STAT_HIGH k) 0).pulse k).next = none := h
  simp only [pulseLow, hset]

/-- Settles O32: the two branches of a capture, and a pulse's end. -/
theorem capturesAndPulses : Obligations.CapturesAndPulses := by
  unfold Obligations.CapturesAndPulses
  refine ⟨fun i rising s hi hs hen htick hedge => ?_, fun k s hk hs hnext => ?_⟩
  · have hwf : (Instr.tcapEdge i rising).wf = true := by simp [Instr.wf, hi]
    have hedge' := tcapEdge_selected rising hen htick hedge
    have hother : 1 - i ≠ i := by omega
    by_cases hfull : 8 ≤ (s.dev.caps i).length
    · rw [if_pos hfull] at hedge'
      have hlog : TallyOnly ((s.dev.inc (L.TCAP_STAT_OVF i)).set L.TIME_EVENT_TCAP_OVF 1) (tcapEdge i rising s.dev) :=
        hedge' ▸ event_tally _ _ _ _ _ _ _ _ (by decide)
      have hcaps := hlog.keep Device.caps fun _ _ _ _ _ => rfl
      refine ⟨_, actDev_onDevice (tcapEdge i rising) hwf hs rfl (hlog.memOut.trans hs.2), fun h => absurd h (by omega),
        fun _ => ⟨congrFun hcaps i, ?_⟩, congrFun hcaps (1 - i), fun _ => rfl⟩
      rw [hlog.get _ (by simp only [L.TCAP_STAT_OVF, A.TCAP_STAT]; omega), get_set_ne _ _ _ _
        (by simp only [L.TCAP_STAT_OVF, A.TCAP_STAT, L.TIME_EVENT_TCAP_OVF, A.TIME_EVENT]; omega)]
      exact get_inc_same _ (show 0 + 16 ≤ 32 by decide)
    · rw [if_neg hfull] at hedge'
      refine ⟨_, actDev_eq (tcapEdge i rising) hwf hs rfl hedge' hs.2, fun _ => ⟨?_, ?_⟩, fun h => absurd h hfull,
        caps_setCaps_ne _ _ hother, fun _ => rfl⟩
      · rw [caps_setCaps_same]; cases rising <;> rfl
      · rw [setCaps, get_set_same _ _ _ (by simp [L.TCAP_STAT_LEVEL]), List.length_append, List.length_singleton]
        exact Nat.mod_eq_of_lt (by simp only [L.TCAP_STAT_LEVEL]; omega)
  · exact actDev_eq (pulseLow k) (by simp [Instr.wf, hk]) hs rfl (pulseLow_unscheduled hnext) hs.2

/-- What a broadcast leaves with the tick running. -/
def stamped (i : Nat) (d : Device) : Device :=
  { d with tally := { d.tally with clocks := tabPut d.tally.clocks i (d.tai % 2 ^ 64, d.ticks) } }

theorem stampLoad_running (i : Nat) {d : Device} (h : d.tickRuns = true) : stampLoad i d = stamped i d := by
  rw [stampLoad, if_pos h]; rfl

/-- No tick after its broadcast, a clock's time is its base. -/
theorem clockTime_now (base tick c k M : Nat) : (base % M + (tick - tick) * c / k * k * 3125 / (768 * c)) % M = base % M := by
  rw [Nat.sub_self, Nat.zero_mul, Nat.zero_div, Nat.zero_mul, Nat.zero_mul, Nat.zero_div, Nat.add_zero, Nat.mod_mod]

/-- At the instant of its broadcast an island's clock reads the counter. -/
theorem localTime_stamped (i : Nat) (d : Device) : (stamped i d).localTime i = d.tai % 2 ^ 64 := by
  have hclock : tabGet? (stamped i d).tally.clocks i = some (d.tai % 2 ^ 64, d.ticks) := tabGet?_tabPut_same _ _ _
  rw [Device.localTime, hclock]
  exact clockTime_now d.tai d.ticks _ _ (2 ^ 64)

/-- A corrected error of shared SRAM writes the Tally block alone. -/
theorem eccCorrect_sram_tally (o : Nat) (d : Device) : TallyOnly d (eccCorrect (.sram o) d) :=
  (TallyOnly.of_set d (L.TLY_ECC_CORR 0) _ (by decide)).trans (logLimited_tally _ _ _ _ _ _ _ _ _ (show isleFABRIC < 16 by decide))

/-- Settles O33: a broadcast loads the clock (`localTime_stamped`), and a scrub corrects or does nothing. -/
theorem stampsAndScrubbing : Obligations.StampsAndScrubbing := by
  unfold Obligations.StampsAndScrubbing
  intro s hs
  have hstamp : ∀ i, i < 9 → s.dev.tickRuns = true → ActsOnDevice (.stampBroadcast i) s (stamped i s.dev) := fun i hi htick =>
    actDev_eq (stampLoad i) (by simp [Instr.wf, hi]) hs rfl (stampLoad_running i htick) hs.2
  refine ⟨hstamp, fun i hi _ htick => ⟨_, hstamp i hi htick, localTime_stamped i s.dev⟩, fun o hwf => ⟨?_, ?_⟩⟩
  · exact actDev_kept (scrub (.sram o) 0) (by simpa [Instr.wf] using hwf) hs rfl rfl
  · have hlog := eccCorrect_sram_tally o s.dev
    exact ⟨_, actDev_onDevice (scrub (.sram o) 1) hwf hs rfl (hlog.memOut.trans hs.2), hlog.regs,
      hlog.keep Device.eccBad fun _ _ _ _ _ => rfl, fun _ => rfl⟩

end Sys2Proof.Proofs
end


section
/-! SUPPORT. Power windows (R179–R181): what a window reports. -/
namespace Sys2Proof.Proofs
open Sys2Proof Sys2Proof.Machine Sys2Proof.Laws

/-- A coarse window that is not valid reports nothing. -/
theorem coarseWindow_invalid (p : Nat) (pwr : Int) (d : Device) : coarseWindow p pwr false d = (d, false) := by
  simp [coarseWindow]

/-- A fine window that is not valid reports nothing. -/
theorem fineWindow_invalid (k : Nat) (pwr : Int) (d : Device) : fineWindow k pwr false d = d := by simp [fineWindow]

/-- Where the next window begins is in no register and no byte of memory. -/
theorem fineNext_rd (k : Nat) (d : Device) (a : Nat) : (fineNext k d).rd a = d.rd a := by unfold fineNext; split <;> rfl

theorem fineNext_memOut (k : Nat) (d : Device) : (fineNext k d).memOut = d.memOut := by unfold fineNext; split <;> rfl

/-- A valid fine window between the thresholds shows its power, and for the rest only notes that none is crossed. -/
theorem fineWindow_quiet {k : Nat} {pwr : Int} {d : Device} (hduc : isDuc k = false) (hrun : d.get (L.CH_STAT_STATE k) = 1)
    (hhi : (d.chn k).hiOn = false) (hlo : (d.chn k).loOn = false) (hbelow : powerClamp pwr < d.getS (L.CH_FTHR_HI k))
    (habove : d.getS (L.CH_FTHR_LO k) < powerClamp pwr) :
    ∃ c, fineWindow k pwr true d = (d.set (L.CH_FPWR_PWR k) (encodeSigned 16 (powerClamp pwr))).setChn k c := by
  have hword : ∀ (l : Loc) v, l.addr = A.CH_FTHR k → (d.set (L.CH_FPWR_PWR k) v).getS l = d.getS l := fun l v hl => by
    rw [Device.getS, get_set_ne _ _ _ _ (by rw [hl]; simp only [L.CH_FPWR_PWR, A.CH_FTHR, A.CH_FPWR]; omega), Device.getS]
  have hthr := fun v => hword (L.CH_FTHR_HI k) v rfl
  have hthr' := fun v => hword (L.CH_FTHR_LO k) v rfl
  have hchn : ∀ v, (d.set (L.CH_FPWR_PWR k) v).chn k = d.chn k := fun _ => rfl
  simp only [fineWindow, hduc, hrun, hchn, hhi, hlo, hthr, hthr', not_le.2 hbelow, not_le.2 habove, Device.when, Bool.not_false,
    Bool.and_true, BEq.rfl, Bool.true_and, Bool.false_and, Bool.or_false, decide_false, Bool.false_eq_true, if_true, if_false]
  exact ⟨_, rfl⟩

/-- A window's command reports the window, then notes where the next begins. -/
theorem exec_finePowerWindow (k : Nat) (s : State) : exec (.finePowerWindow k) s = actDev (.finePowerWindow k) s
    fun d => fineNext k (fineWindow k (meanDb ((d.fineSamples k).map (·.1))) (d.fineValid k) d) := rfl

/-- Settles O27: an invalid window reports nothing, and a valid one between the thresholds its power (`fineWindow_quiet`). -/
theorem invalidPowerWindow : Obligations.InvalidPowerWindow := by
  unfold Obligations.InvalidPowerWindow
  refine ⟨fun p j s hwf hs hvalid => ?_, fun k s hchain hduc hs => ⟨fun hvalid => ?_, fun hvalid hrun hhi hlo hbelow habove => ?_⟩⟩
  · refine actDev_kept (fun d => (coarseWindow p (meanDb (d.coarseSamples p j)) (d.coarseValid p j) d).1.when
      (coarseWindow p (meanDb (d.coarseSamples p j)) (d.coarseValid p j) d).2 (lnaBypass p)) hwf hs rfl ?_
    simp only [hvalid, coarseWindow_invalid, Device.when, Bool.false_eq_true, if_false]
  all_goals
    have hwf : (Instr.finePowerWindow k).wf = true := by
      rw [Instr.wf, hchain, Bool.true_and, ← isDuc, hduc]
      rfl
  · refine actDev_eq (e := fineNext k s.dev) _ hwf hs (exec_finePowerWindow k s) ?_ ((fineNext_memOut k s.dev).trans hs.2)
    simp only [hvalid, fineWindow_invalid]
  · obtain ⟨c, hwindow⟩ := fineWindow_quiet hduc hrun hhi hlo hbelow habove
    have hrange := getS_range s.dev (l := L.CH_FTHR_HI k) (show 0 < 16 by decide)
    have hfine := congrArg (fineNext k) hwindow
    rw [← hvalid] at hfine
    have hexec := actDev_eq _ hwf hs (exec_finePowerWindow k s) hfine (by rw [fineNext_memOut]; exact hs.2)
    refine ⟨_, hexec, ?_, fun a ha => ?_, fun _ => rfl⟩
    · rw [Device.getS, Device.get, fineNext_rd]
      refine getS_set_encode s.dev (l := L.CH_FPWR_PWR k) (show 0 + 16 ≤ 32 by decide) (show 0 < 16 by decide) ?_
        (lt_trans hbelow hrange.2)
      exact le_trans (show -(2 ^ 15 : Nat) ≤ (-8192 : Int) by decide) (le_max_right _ _)
    · rw [fineNext_rd]
      exact rd_set_ne _ _ _ _ (show a ≠ A.CH_FPWR k by simpa using ha)

end Sys2Proof.Proofs
end


section
/-! SUPPORT. Write-only registers: a Bead's write of one is its effect, in a device whose registers read as before. -/
namespace Sys2Proof.Proofs
open Sys2Proof Sys2Proof.Machine Sys2Proof.Laws

/-- A command whose effect on memory and device comes to `e`, and stores no byte, answers with `e`. -/
theorem act_eq {i : Instr} {s : State} {e : Device} (f : List Host.Cell → Device → Device) (hwf : i.wf = true) (hs : s.Settled)
    (hexec : exec i s = act i s f) (hf : f s.mem s.dev = e) (hmem : e.memOut = []) : ActsOnDevice i s e := by
  subst hf
  exact hexec.trans (act_onDevice i s f hwf hs.2 hmem)

/-- The word at `a` is number `i` of the single-word register `n`, every field of it is write-only, and its target turns no write
away. -/
def isWriteOnly (a : Nat) (n : RegName) (i : Nat) : Bool :=
  decide (a < 0x10000000) && a % 4 == 0 && isMapped a && (bankOf n i 0).isNone && !isPilot n && n != .WCH_CFG &&
    (regAt a).any fun x => x.1.name == n && x.2.1 == i && x.2.2 == 0 && decide (x.1.wlen < 2) && x.1.fields.all fun f => f.acc == .wo

/-- The row such a word has in the register map. -/
theorem row_of_writeOnly {a i : Nat} {n : RegName} (h : isWriteOnly a n i = true) : ∃ r : RegRow, regAt a = some (r, i, 0) ∧ r.name = n ∧
    r.wlen < 2 ∧ ∀ f ∈ r.fields, f.acc = .wo := by
  simp only [isWriteOnly, Bool.and_eq_true, Option.any_eq_true, List.all_eq_true, beq_iff_eq, decide_eq_true_eq] at h
  obtain ⟨-, ⟨r, i', j⟩, hreg, ⟨⟨⟨hname, hi⟩, hj⟩, hlen⟩, hfields⟩ := h
  subst hi hj
  exact ⟨r, hreg, hname, hlen, hfields⟩

/-- A word of write-only fields keeps what it holds. -/
theorem fieldsWrite_writeOnly {fs : List FieldRow} (locked : Bool) (old v : Nat) (h : ∀ f ∈ fs, f.acc = .wo) :
    fieldsWrite fs locked old v = (old, false) := by
  unfold fieldsWrite
  generalize (old, false) = acc
  induction fs with
  | nil => rfl
  | cons f fs ih =>
    have hf : f.write locked old v acc = acc := by simp only [FieldRow.write, h f List.mem_cons_self]
    rw [List.foldl_cons, hf]
    exact ih fun g hg => h g (List.mem_cons_of_mem _ hg)

/-- A Bead's write of a write-only register that reaches its target is the register's effect. -/
theorem busWrite_writeOnly {m a i v : Nat} {n : RegName} (mem : List Host.Cell) {d : Device} (hm : m < 16) (hreach : d.reaches m a)
    (h : isWriteOnly a n i = true) :
    busWrite m a 4 v mem d = (regEffect n ⟨m, i, 0, a, d.rd a, 0, v, []⟩ mem (d.wr a (d.rd a))).replied m a 0 := by
  obtain ⟨r, hreg, hname, hlen, hfields⟩ := row_of_writeOnly h
  simp only [isWriteOnly, Bool.and_eq_true, decide_eq_true_eq, beq_iff_eq, bne_iff_ne, Bool.not_eq_true', Option.isNone_iff_eq_none] at h
  obtain ⟨⟨⟨⟨⟨⟨ha, h4⟩, hmap⟩, hbank⟩, hpilot⟩, hcfg⟩, -⟩ := h
  have htarget : targetRefuses n i 0 a d = none := by simp [targetRefuses, hpilot, hbank]
  have hput : putWord r i m a v d = d.wr a (d.rd a) := by
    have hat : r.fieldsAt i = r.fields := by simp [RegRow.fieldsAt, hname, hcfg]
    rw [putWord, hat, fieldsWrite_writeOnly _ _ _ hfields]
    rfl
  rw [busWrite_register m a v mem d hreach ha h4 hmap, regStore, hreg]
  simp only [hostLike_bead d hm, Bool.and_false, Bool.false_eq_true, if_false, hlen, if_true, plainWrite, hput, hname, htarget]

/-- The word `n` with the fields `fs` written. -/
def written (n : Nat) (fs : List (Loc × Nat)) : Nat := fs.foldl (fun n x => putBits n x.1.lo x.1.w x.2) n

theorem written_nil (n : Nat) : written n [] = n := rfl

theorem written_cons (n a lo w v : Nat) (fs : List (Loc × Nat)) : written n ((⟨a, lo, w⟩, v) :: fs) = written (putBits n lo w v) fs := rfl

/-- A write of some fields of a write-only register writes them alone. -/
theorem compose_writeOnly {a i : Nat} {n : RegName} (d : Device) (fs : List (Loc × Nat)) (h : isWriteOnly a n i = true) :
    d.compose a fs = written 0 fs := by
  obtain ⟨r, hreg, -, -, hfields⟩ := row_of_writeOnly h
  have hbase : ∀ (l : List FieldRow) (n : Nat), (∀ f ∈ l, f.acc = .wo) → l.foldl (fun n f =>
      if f.acc = .rw || f.acc = .rws || f.acc = .rwl then n + bitsOf (d.rd a) f.lo (f.hi + 1 - f.lo) * 2 ^ f.lo else n) n = n := by
    intro l n hl
    induction l with
    | nil => rfl
    | cons f l ih => simpa [hl f] using ih fun g hg => hl g (List.mem_cons_of_mem _ hg)
  simp only [Device.compose, hreg]
  rw [hbase _ _ hfields]
  rfl

/-- A Bead's write of fields of a write-only register that reaches its target is the register's effect. -/
theorem fieldStore_writeOnly {m a i : Nat} {n : RegName} (fs : List (Loc × Nat)) (mem : List Host.Cell) {d : Device} (hm : m < 16)
    (hreach : d.reaches m a) (h : isWriteOnly a n i = true) : fieldStore m a fs mem d =
      (regEffect n ⟨m, i, 0, a, d.rd a, 0, written 0 fs, []⟩ mem (d.wr a (d.rd a))).replied m a 0 := by
  rw [fieldStore, compose_writeOnly d fs h, busWrite_writeOnly mem hm hreach h]

/-- A word written with what it holds reads the same, and so does every other. -/
theorem rd_wr_held (d : Device) {a : Nat} (c : Nat) (h : resetWord a < 2 ^ 32) : (d.wr a (d.rd a)).rd c = d.rd c := by
  by_cases hc : c = a
  · rw [hc, rd_wr_same]
    refine Nat.mod_eq_of_lt ?_
    unfold Device.rd
    split
    · exact BitVec.isLt _
    · exact h
  · exact rd_wr_ne d a _ c hc

end Sys2Proof.Proofs
end

section
/-! SUPPORT. Bank-change requests through XF_REQ (R52–R58). -/
namespace Sys2Proof.Proofs
open Sys2Proof Sys2Proof.Machine Sys2Proof.Laws

/-- The register name of an object's XF_REQ. -/
def xfReqName : XfObj → RegName
  | .beam _ => .BM_XF_REQ
  | .dpd _ => .DPD_XF_REQ
  | .wch _ => .WCH_XF_REQ
  | .rxa _ => .CAL_RXA_XF_REQ
  | .txa _ => .CAL_TXA_XF_REQ
  | .lane _ => .CAL_LANE_XF_REQ
  | .grid _ => .CAL_GRID_XF_REQ

/-- An object's number among its kind. -/
def xfNumber : XfObj → Nat
  | .beam i => i
  | .dpd i => i
  | .wch i => i
  | .rxa i => i
  | .txa i => i
  | .lane i => i
  | .grid i => i

/-- XF_REQ is write-only, for every object. -/
theorem xfReq_writeOnly {o : XfObj} (h : o.ok = true) : isWriteOnly (xfReqAddr o) (xfReqName o) (xfNumber o) = true := by
  have hbeam : ∀ i < 8, isWriteOnly (xfReqAddr (.beam i)) .BM_XF_REQ i = true := by decide +kernel
  have hdpd : ∀ i < 64, isWriteOnly (xfReqAddr (.dpd i)) .DPD_XF_REQ i = true := by decide +kernel
  have hwch : ∀ i < 16, isWriteOnly (xfReqAddr (.wch i)) .WCH_XF_REQ i = true := by decide +kernel
  have hrxa : ∀ i < 72, isWriteOnly (xfReqAddr (.rxa i)) .CAL_RXA_XF_REQ i = true := by decide +kernel
  have htxa : ∀ i < 64, isWriteOnly (xfReqAddr (.txa i)) .CAL_TXA_XF_REQ i = true := by decide +kernel
  have hlane : ∀ i < 64, isWriteOnly (xfReqAddr (.lane i)) .CAL_LANE_XF_REQ i = true := by decide +kernel
  have hgrid : ∀ i < 8, isWriteOnly (xfReqAddr (.grid i)) .CAL_GRID_XF_REQ i = true := by decide +kernel
  cases o <;> simp only [XfObj.ok, decide_eq_true_eq] at h
  · exact hbeam _ h
  · exact hdpd _ h
  · exact hwch _ h
  · exact hrxa _ h
  · exact htxa _ h
  · exact hlane _ h
  · exact hgrid _ h

/-- The effect of a write of XF_REQ is the object's request. -/
theorem regEffect_xfReq (o : XfObj) (m j a old v : Nat) (lows : List Nat) (mem : List Host.Cell) (d : Device) :
    regEffect (xfReqName o) ⟨m, xfNumber o, j, a, old, 0, v, lows⟩ mem d = xfReqEffect o ⟨m, xfNumber o, j, a, old, 0, v, lows⟩ d := by
  cases o <;> rfl

/-- XF_STAT lies outside the Tally block, and XF_REQ is another register. -/
theorem xfStat_place (o : XfObj) : 0x30000 ≤ xfStat o ∧ xfStat o ≠ xfReqAddr o := by
  cases o <;> simp only [xfReqAddr, xfStat, A.BM_XF_STAT, A.DPD_XF_STAT, A.WCH_XF_STAT, A.CAL_RXA_XF_STAT, A.CAL_TXA_XF_STAT,
    A.CAL_LANE_XF_STAT, A.CAL_GRID_XF_STAT] <;> omega

/-- A refusal sets ERR, and for the rest writes its record. -/
theorem xfRefuse_tally (o : XfObj) (target fade start : Nat) (d : Device) :
    TallyOnly (d.set (xfField o 26 1) 1) (xfRefuse o target fade start d) := by
  cases o <;> exact log_tally _ _ _ _ _ _ _ (show _ < 16 by decide)

/-- A request with a fade above 8 is refused. -/
theorem xfWrite_longFade {o : XfObj} {target fade : Nat} (mode at' : Nat) (d : Device) (ho : ∀ p, o ≠ .dpd p) (ht : target ≠ 15)
    (hf : 8 < fade) : ∃ shown, xfWrite o target fade mode at' d = xfRefuse o target fade shown d := by
  refine ⟨if mode = 1 then at' else 0, ?_⟩
  cases o with
  | dpd p => exact absurd rfl (ho p)
  | _ => simp [xfWrite, xfRequest, ht, hf]

/-- A request with target 15 clears what is armed and what is pending. -/
theorem xfWrite_cancel {o : XfObj} (fade mode at' : Nat) (d : Device) (ho : ∀ p, o ≠ .dpd p) :
    xfWrite o 15 fade mode at' d = setXf o { d.xfc o with armed := none, pend := none } d := by
  cases o with
  | dpd p => exact absurd rfl (ho p)
  | _ => simp [xfWrite, xfRequest]

/-- The requests of an object, replaced, and its ACTIVE bank, which they do not touch. -/
theorem setXf_spec (o : XfObj) (c : XfCtl) (d : Device) :
    (setXf o c d).xfc o = c ∧ (setXf o c d).xfActive o = d.xfActive o ∧ (setXf o c d).memOut = d.memOut := by
  refine ⟨tabGet_tabPut_same _ _ _ _, ?_, rfl⟩
  have hfield : ∀ (e : Device) (lo w v : Nat), 26 ≤ lo ∨ lo + w ≤ 24 → (e.set (xfField o lo w) v).xfActive o = e.xfActive o :=
    fun e lo w v h => get_set_disjoint _ _ _ _ (show 24 + 2 ≤ 32 by decide) (by simp only [xfField]; omega)
  refine ((hfield _ 20 4 _ (by decide)).trans ((hfield _ 29 1 _ (by decide)).trans (hfield _ 30 2 _ (by decide)))).trans ?_
  rfl

/-- The word that asks for a bank change, and the one that cancels. -/
theorem written_xfRequest (a mode start : Nat) {fade target : Nat} (hfade : fade < 16) (htarget : target < 16) :
    let v := written 0 [(⟨a, 31, 1⟩, 1), (⟨a, 30, 1⟩, mode), (⟨a, 24, 4⟩, fade), (⟨a, 20, 4⟩, target), (⟨a, 0, 16⟩, start)]
    bitsOf v 31 1 = 1 ∧ bitsOf v 20 4 = target ∧ bitsOf v 24 4 = fade := by
  intro v
  have hv : v = putBits (putBits (putBits (putBits (putBits 0 31 1 1) 30 1 mode) 24 4 fade) 20 4 target) 0 16 start := by
    show written 0 _ = _
    rw [written_cons, written_cons, written_cons, written_cons, written_cons, written_nil]
  rw [hv]
  simp (disch := decide) only [bitsOf_putBits_same, bitsOf_putBits_above]
  exact ⟨rfl, Nat.mod_eq_of_lt htarget, Nat.mod_eq_of_lt hfade⟩

theorem written_xfCancel (a : Nat) :
    let v := written 0 [(⟨a, 31, 1⟩, 1), (⟨a, 20, 4⟩, 15)]
    bitsOf v 31 1 = 1 ∧ bitsOf v 20 4 = 15 := by
  intro v
  have hv : v = putBits (putBits 0 31 1 1) 20 4 15 := by
    show written 0 _ = _
    rw [written_cons, written_cons, written_nil]
  rw [hv]
  decide

/-- Settles O29: the request is refused with ERR (`xfRefuse_tally`), the cancel replaces the requests (`setXf_spec`). -/
theorem bankChangeRequests : Obligations.BankChangeRequests := by
  unfold Obligations.BankChangeRequests
  intro m mode fade target start o s hm ho hwf hs hreach
  have hfields := hwf
  simp only [Instr.wf, fits, Bool.and_eq_true, decide_eq_true_eq, bne_iff_ne] at hfields
  obtain ⟨⟨⟨⟨⟨⟨hmaster, hok⟩, hmode⟩, hfade⟩, htarget⟩, hne⟩, hstart⟩ := hfields
  obtain ⟨hstat, hreq⟩ := xfStat_place o
  have hactive : (s.dev.wr (xfReqAddr o) (s.dev.rd (xfReqAddr o))).xfActive o = s.dev.xfActive o := by
    unfold Device.xfActive Device.get
    rw [rd_wr_ne _ _ _ _ (show (xfField o 24 2).addr ≠ _ from hreq)]
  refine ⟨fun hlong => ?_, ?_⟩
  · obtain ⟨hgo, ht, hf⟩ := written_xfRequest (xfReqAddr o) mode start hfade htarget
    have hstore := fieldStore_writeOnly [(⟨xfReqAddr o, 31, 1⟩, 1), (⟨xfReqAddr o, 30, 1⟩, mode), (⟨xfReqAddr o, 24, 4⟩, fade),
      (⟨xfReqAddr o, 20, 4⟩, target), (⟨xfReqAddr o, 0, 16⟩, start)] s.mem hm hreach (xfReq_writeOnly hok)
    obtain ⟨shown, hrefuse⟩ := xfWrite_longFade (bitsOf _ 30 1) (bitsOf _ 0 16) (s.dev.wr (xfReqAddr o) (s.dev.rd (xfReqAddr o))) ho hne hlong
    rw [regEffect_xfReq, xfReqEffect, if_pos hgo, ht, hf, hrefuse] at hstore
    have hlog := xfRefuse_tally o target fade shown (s.dev.wr (xfReqAddr o) (s.dev.rd (xfReqAddr o)))
    refine ⟨_, act_eq _ hwf hs rfl hstore (hlog.memOut.trans hs.2), ?_, hlog.keep Device.xf fun _ _ _ _ _ => rfl, ?_, fun _ => rfl⟩
    · exact (congrArg (· == 1) (hlog.get (xfField o 26 1) (.inr hstat))).trans (on_set_one _ rfl (show 26 < 32 by decide))
    · refine (hlog.get (xfField o 24 2) (.inr hstat)).trans (Eq.trans ?_ hactive)
      exact get_set_disjoint _ _ _ _ (show 24 + 2 ≤ 32 by decide) (.inl (show 24 + 2 ≤ 26 by decide))
  · obtain ⟨hgo, ht⟩ := written_xfCancel (xfReqAddr o)
    have hstore := fieldStore_writeOnly [(⟨xfReqAddr o, 31, 1⟩, 1), (⟨xfReqAddr o, 20, 4⟩, 15)] s.mem hm hreach (xfReq_writeOnly hok)
    rw [regEffect_xfReq, xfReqEffect, if_pos hgo, ht, xfWrite_cancel _ _ _ _ ho] at hstore
    obtain ⟨hxfc, hact, hmem⟩ := setXf_spec o { (s.dev.wr (xfReqAddr o) (s.dev.rd (xfReqAddr o))).xfc o with armed := none, pend := none }
      (s.dev.wr (xfReqAddr o) (s.dev.rd (xfReqAddr o)))
    refine ⟨_, act_eq _ (by simp [Instr.wf, hmaster, hok]) hs rfl hstore (hmem.trans hs.2), ?_, ?_, ?_, hact.trans hactive, fun _ => rfl⟩
    · exact congrArg XfCtl.armed hxfc
    · exact congrArg XfCtl.pend hxfc
    · exact (congrArg XfCtl.fade hxfc).trans rfl

end Sys2Proof.Proofs
end

section
/-! SUPPORT. Pushes to the tuner buses (R277, R278). -/
namespace Sys2Proof.Proofs
open Sys2Proof Sys2Proof.Machine Sys2Proof.Laws

theorem tunPush_writeOnly : ∀ k < 8, isWriteOnly (A.TUN_PUSH k) .TUN_PUSH k = true := by decide +kernel

/-- A word that asks for a push. -/
theorem written_tunPush (k : Nat) {w u : Nat} (hw : w < 4) (hu : u < 8) :
    let v := written 0 [(L.TUN_PUSH_GO k, 1), (L.TUN_PUSH_WHEN k, w), (L.TUN_PUSH_M k, u)]
    bitsOf v 31 1 = 1 ∧ bitsOf v 29 2 = w ∧ bitsOf v 0 3 = u := by
  intro v
  have hv : v = putBits (putBits (putBits 0 31 1 1) 29 2 w) 0 3 u := by
    show written 0 [(⟨A.TUN_PUSH k, 31, 1⟩, 1), (⟨A.TUN_PUSH k, 29, 2⟩, w), (⟨A.TUN_PUSH k, 0, 3⟩, u)] = _
    rw [written_cons, written_cons, written_cons, written_nil]
  rw [hv]
  simp (disch := decide) only [bitsOf_putBits_same, bitsOf_putBits_above]
  exact ⟨rfl, Nat.mod_eq_of_lt hw, Nat.mod_eq_of_lt hu⟩

/-- The effect of a write of TUN_PUSH with GO is a push of TUN_DATA. -/
theorem regEffect_tunPush (m k a old v : Nat) (mem : List Host.Cell) (d : Device) (h : bitsOf v 31 1 = 1) :
    regEffect .TUN_PUSH ⟨m, k, 0, a, old, 0, v, []⟩ mem d =
      tunPush k (d.get (L.TUN_DATA_WORD k)) (bitsOf v 29 2) (bitsOf v 0 3) d :=
  if_pos (show (bitsOf v 31 1 == 1) = true by rw [h]; rfl)

/-- What an entry waits for is in no word but its path's status. -/
theorem tunDue_wr {d : Device} {a : Nat} (v k w u : Nat) (h : A.PATH_STAT (8 * k + u) ≠ a) : (d.wr a v).tunDue k w u = d.tunDue k w u := by
  have hget : ∀ l : Loc, l.addr = A.PATH_STAT (8 * k + u) → (d.wr a v).get l = d.get l := fun l hl => by
    rw [Device.get, rd_wr_ne d a v _ (hl ▸ h), Device.get]
  have hspan : (d.wr a v).burstSpan = d.burstSpan := rfl
  have hframe : (d.wr a v).frameNo = d.frameNo := rfl
  have hahead : (d.wr a v).airAhead = d.airAhead := rfl
  have hnext : (d.wr a v).burstNext = d.burstNext := by
    unfold Device.burstNext
    rw [hspan, hframe, hahead]
  have hpath : (d.wr a v).pathc (8 * k + u) = d.pathc (8 * k + u) := rfl
  have htxs := hget (L.PATH_STAT_TXS (8 * k + u)) rfl
  have hstate := hget (L.PATH_STAT_STATE (8 * k + u)) rfl
  simp only [Device.tunDue, Device.pathState, Device.on, htxs, hstate, hnext, hpath]
  rfl

/-- A push to a FIFO with room. -/
theorem tunPush_room {k w : Nat} (x u : Nat) {d : Device} (hw : w ≠ 3) (h : (tabGet d.tuners [] k).length < 16) :
    tunPush k x w u d = tunSet k (tabGet d.tuners [] k ++ [⟨x, w, u, d.tunDue k w u⟩]) d := by
  simp [tunPush, hw, h]

/-- A push to a full FIFO. -/
theorem tunPush_full {k w : Nat} (x u : Nat) {d : Device} (hw : w ≠ 3) (h : 16 ≤ (tabGet d.tuners [] k).length) :
    tunPush k x w u d = d.event (L.TUN_STAT_OVF k) isleLANE 10 (4 + k) 1 1 [] := by
  simp [tunPush, hw, Nat.not_lt.2 h]

/-- The FIFO of a bus, replaced, and those of the others. -/
theorem tunSet_spec (k : Nat) (q : List TunEntry) (d : Device) :
    tabGet (tunSet k q d).tuners [] k = q ∧ (∀ j, j ≠ k → tabGet (tunSet k q d).tuners [] j = tabGet d.tuners [] j) ∧
    (q.length < 32 → (tunSet k q d).get (L.TUN_STAT_LEVEL k) = q.length) :=
  ⟨tabGet_tabPut_same _ _ _ _, fun j hj => congrArg (Option.getD · []) (tabGet?_tabPut_ne d.tuners k j q hj),
    fun h => (get_set_same _ _ _ (show 0 + 5 ≤ 32 by decide)).trans (Nat.mod_eq_of_lt h)⟩

/-- Settles O30: a push with WHEN = 3 does nothing, one to a full FIFO raises OVF, any other joins the end. -/
theorem tunerFifo : Obligations.TunerFifo := by
  unfold Obligations.TunerFifo
  intro m k w u s hm hk hw hu hs hreach
  have hwf : (Instr.tunPushGo m k w u).wf = true := by simp [Instr.wf, isMaster, fits, hk, hw, hu]; omega
  obtain ⟨hgo, hwhen, hpath⟩ := written_tunPush k hw hu
  have hstore := fieldStore_writeOnly [(L.TUN_PUSH_GO k, 1), (L.TUN_PUSH_WHEN k, w), (L.TUN_PUSH_M k, u)] s.mem hm hreach
    (tunPush_writeOnly k hk)
  have hdata : (s.dev.wr (A.TUN_PUSH k) (s.dev.rd (A.TUN_PUSH k))).get (L.TUN_DATA_WORD k) = s.dev.get (L.TUN_DATA_WORD k) := by
    rw [Device.get, rd_wr_ne _ _ _ _ (by simp only [L.TUN_DATA_WORD, A.TUN_DATA, A.TUN_PUSH]; omega), Device.get]
  have hdue := fun w => tunDue_wr (d := s.dev) (s.dev.rd (A.TUN_PUSH k)) k w u
    (show A.PATH_STAT (8 * k + u) ≠ A.TUN_PUSH k by simp only [A.PATH_STAT, A.TUN_PUSH]; omega)
  rw [regEffect_tunPush _ _ _ _ _ _ _ hgo, hwhen, hpath, hdata] at hstore
  by_cases h3 : w = 3
  · subst h3
    have hrefused : ∀ x d, tunPush k x 3 u d = d := fun _ _ => rfl
    rw [hrefused] at hstore
    refine ⟨_, act_eq _ hwf hs rfl hstore hs.2, ⟨none, fun _ => rfl, by simp, by simp, by simp; rfl⟩, fun h => absurd rfl h,
      fun h => absurd rfl h, fun _ _ => rfl, fun _ => rfl⟩
  · by_cases hroom : (tabGet s.dev.tuners [] k).length < 16
    · rw [tunPush_room (d := s.dev.wr (A.TUN_PUSH k) (s.dev.rd (A.TUN_PUSH k))) _ _ h3 hroom, hdue] at hstore
      obtain ⟨hsame, hother, hlevel⟩ := tunSet_spec k
        (tabGet s.dev.tuners [] k ++ [⟨s.dev.get (L.TUN_DATA_WORD k), w, u, s.dev.tunDue k w u⟩])
        (s.dev.wr (A.TUN_PUSH k) (s.dev.rd (A.TUN_PUSH k)))
      refine ⟨_, act_eq _ hwf hs rfl hstore hs.2, ⟨s.dev.tunDue k w u, fun h => by rw [h]; rfl, fun h => by rw [h], fun h => by rw [h], ?_⟩,
        fun _ h => absurd hroom (by omega), fun _ _ => ?_, hother, fun _ => rfl⟩
      · rw [if_pos ⟨h3, hroom⟩]; exact hsame
      · exact (hlevel (by simp; omega)).trans (by simp)
    · rw [tunPush_full (d := s.dev.wr (A.TUN_PUSH k) (s.dev.rd (A.TUN_PUSH k))) _ _ h3 (Nat.not_lt.1 hroom)] at hstore
      have hlog : TallyOnly ((s.dev.wr (A.TUN_PUSH k) (s.dev.rd (A.TUN_PUSH k))).set (L.TUN_STAT_OVF k) 1) _ :=
        event_tally _ (L.TUN_STAT_OVF k) isleLANE 10 (4 + k) 1 1 [] (by decide)
      have htuners := hlog.keep Device.tuners fun _ _ _ _ _ => rfl
      refine ⟨_, act_eq _ hwf hs rfl hstore (hlog.memOut.trans hs.2), ⟨s.dev.tunDue k w u, fun h => by rw [h]; rfl, fun h => by rw [h],
        fun h => by rw [h], ?_⟩, fun _ _ => ?_, fun _ h => absurd h hroom, fun j _ => congrArg (tabGet · [] j) htuners, fun _ => rfl⟩
      · rw [if_neg (fun h => hroom h.2), List.append_nil]
        exact congrArg (tabGet · [] k) htuners
      · exact (congrArg (· == 1) (hlog.get (L.TUN_STAT_OVF k) (.inr (by simp only [L.TUN_STAT_OVF, A.TUN_STAT]; omega)))).trans
          (on_set_one _ rfl (show 30 < 32 by decide))

end Sys2Proof.Proofs
end

section
/-! SUPPORT. Writes that are turned away or change nothing: the held Pilot (R286), and a rearm of a path not in LOCKOUT (R314). -/
namespace Sys2Proof.Proofs
open Sys2Proof Sys2Proof.Machine Sys2Proof.Laws

/-- A Bead's write that its target turns away leaves what the target says. -/
theorem busWrite_turnedAway {m a v i j : Nat} {r : RegRow} {d e : Device} {busy : Bool} (mem : List Host.Cell) (hm : m < 16)
    (hreach : d.reaches m a) (ha : a < 0x10000000) (h4 : a % 4 = 0) (hmap : isMapped a = true) (hreg : regAt a = some (r, i, j))
    (htarget : targetRefuses r.name i j a d = some (e, busy)) : busWrite m a 4 v mem d = e.replied m a 0 := by
  rw [busWrite_register m a v mem d hreach ha h4 hmap, regStore, hreg]
  simp only [hostLike_bead d hm, Bool.and_false, Bool.false_eq_true, if_false, htarget]

/-- The registers of the Pilot. -/
def pilotAddr (reg : Nat) : Nat := match reg with | 0 => A.CAL_PILOT | 1 => A.CAL_PILOT_LO | _ => A.CAL_PILOT_HI

theorem pilot_place : ∀ reg < 3, pilotAddr reg < 0x10000000 ∧ pilotAddr reg % 4 = 0 ∧ isMapped (pilotAddr reg) = true ∧
    domainOf (pilotAddr reg) = domainOf A.CAL_PILOT ∧
    ((regAt (pilotAddr reg)).any fun x => isPilot x.1.name) = true := by decide +kernel

/-- A write of the Pilot while a run is in progress raises PILOT_BUSY and does no more. -/
theorem busWrite_heldPilot {m reg v : Nat} {d : Device} (mem : List Host.Cell) (hm : m < 16) (hreg : reg < 3)
    (hrun : d.get L.CAL_RSTAT_STATE ≠ 0) (hreach : d.reaches m A.CAL_PILOT) :
    ∃ p, busWrite m (pilotAddr reg) 4 v mem d = (d.calEvent L.CAL_EVENT_PILOT_BUSY p 1 []).replied m (pilotAddr reg) 0 := by
  obtain ⟨hlt, h4, hmap, hdomain, hpilot⟩ := pilot_place reg hreg
  obtain ⟨⟨r, i, j⟩, hat, hname⟩ := (Option.any_eq_true _ _).1 hpilot
  have hreach' : d.reaches m (pilotAddr reg) := by unfold Device.reaches; rwa [hdomain]
  exact ⟨_, busWrite_turnedAway mem hm hreach' hlt h4 hmap hat (if_pos (by simpa [hname] using hrun))⟩

theorem rearm_writeOnly : isWriteOnly A.DMP_REARM .DMP_REARM 0 = true := by decide +kernel

/-- A word that asks for a rearm of one path. -/
theorem written_rearm {p : Nat} (hp : p < 64) :
    let v := written 0 [(L.DMP_REARM_GO, 1), (L.DMP_REARM_ALL, 0), (L.DMP_REARM_PATH, p)]
    bitsOf v 31 1 = 1 ∧ bitsOf v 30 1 = 0 ∧ bitsOf v 0 6 = p := by
  intro v
  have hv : v = putBits (putBits (putBits 0 31 1 1) 30 1 0) 0 6 p := by
    show written 0 [(⟨A.DMP_REARM, 31, 1⟩, 1), (⟨A.DMP_REARM, 30, 1⟩, 0), (⟨A.DMP_REARM, 0, 6⟩, p)] = _
    rw [written_cons, written_cons, written_cons, written_nil]
  rw [hv]
  simp (disch := decide) only [bitsOf_putBits_same, bitsOf_putBits_above]
  exact ⟨rfl, rfl, Nat.mod_eq_of_lt hp⟩

/-- The effect of a write of DMP_REARM with GO and without ALL is the rearm of its path. -/
theorem regEffect_rearm (m a old v : Nat) (mem : List Host.Cell) (d : Device) (hgo : bitsOf v 31 1 = 1) (hall : bitsOf v 30 1 = 0) :
    regEffect .DMP_REARM ⟨m, 0, 0, a, old, 0, v, []⟩ mem d = dmpRearm (bitsOf v 0 6) d := by
  refine (if_pos (show (bitsOf v 31 1 == 1) = true by rw [hgo]; rfl)).trans (if_neg (show ¬ (bitsOf v 30 1 == 1) = true by rw [hall]; decide))

/-- A path not in LOCKOUT is not rearmed. -/
theorem dmpRearm_other {p : Nat} {d : Device} (h : d.dmpState p ≠ 3) : dmpRearm p d = d := by simp [dmpRearm, h]

/-- Settles O31: the Pilot's target turns the write away (`busWrite_heldPilot`), and the rearm is the identity (`dmpRearm_other`). -/
theorem heldPilotAndRearm : Obligations.HeldPilotAndRearm := by
  unfold Obligations.HeldPilotAndRearm
  refine ⟨fun m reg value s hm hreg hv hs hrun hreach => ?_, fun m p s hm hp hs hstate hreach => ?_⟩
  · obtain ⟨q, hbus⟩ := busWrite_heldPilot (v := value) s.mem hm hreg hrun hreach
    have hlog : TallyOnly (s.dev.set L.CAL_EVENT_PILOT_BUSY 1) (s.dev.calEvent L.CAL_EVENT_PILOT_BUSY q 1 []) :=
      event_tally _ _ _ _ _ _ _ _ (by decide)
    refine ⟨_, act_eq _ (by simp [Instr.wf, isMaster, fits, hreg]; omega) hs rfl hbus (hlog.memOut.trans hs.2), fun a ha => ?_, ?_,
      fun _ => rfl⟩
    · have hplace : (0x30000 ≤ a) ∧ a ≠ A.CAL_EVENT := by rcases ha with rfl | rfl | rfl <;> decide
      exact (hlog.regs a (.inr hplace.1)).trans (rd_set_ne _ _ _ _ hplace.2)
    · exact (congrArg (· == 1) (hlog.get L.CAL_EVENT_PILOT_BUSY (.inr (by decide)))).trans (on_set_one _ rfl (by decide))
  · obtain ⟨hgo, hall, hpath⟩ := written_rearm hp
    have hstore := fieldStore_writeOnly [(L.DMP_REARM_GO, 1), (L.DMP_REARM_ALL, 0), (L.DMP_REARM_PATH, p)] s.mem hm hreach rearm_writeOnly
    have hkept := fun c => rd_wr_held s.dev (a := A.DMP_REARM) c (by decide +kernel)
    have hstate' : (s.dev.wr A.DMP_REARM (s.dev.rd A.DMP_REARM)).dmpState p ≠ 3 := by
      unfold Device.dmpState Device.get
      rw [hkept]
      exact hstate
    rw [regEffect_rearm _ _ _ _ _ _ hgo hall, hpath, dmpRearm_other hstate'] at hstore
    exact ⟨_, act_eq _ (by simp [Instr.wf, isMaster, fits, hp]; omega) hs rfl hstore hs.2, hkept, rfl, fun _ => rfl⟩

end Sys2Proof.Proofs
end

section
/-! SUPPORT. The LEVEL of a pacing queue (R462) and the PWM periods (R482). -/
namespace Sys2Proof.Proofs
open Sys2Proof Sys2Proof.Machine Sys2Proof.Laws

theorem qadj_writeOnly : ∀ q < 8, isWriteOnly (A.DMA_QADJ q) .DMA_QADJ q = true := by decide +kernel

/-- The effect of a write of DMA_QADJ is the adjustment. -/
theorem regEffect_qadj (m q a old v : Nat) (mem : List Host.Cell) (d : Device) :
    regEffect .DMA_QADJ ⟨m, q, 0, a, old, 0, v, []⟩ mem d = dmaLevel q (signedOf 21 v) d := rfl

/-- With no channel in hand the request of a queue is its REQ bit alone. -/
theorem dmaRequest_idle {q : Nat} {d : Device} (h : d.dma = []) : ∃ req, dmaRequest q d = d.set (L.DMA_QLVL_REQ q) req := by
  have hdma : ∀ v, (d.set (L.DMA_QLVL_REQ q) v).dma = [] := fun _ => h
  simp only [dmaRequest, hdma, List.foldl_nil]
  exact ⟨_, rfl⟩

/-- The event of a queue whose LEVEL was cut off leaves LEVEL. -/
theorem dmaQueueEvent_tally (base q : Nat) (d : Device) :
    TallyOnly (d.set ⟨A.DMA_EVENT, base + q, 1⟩ 1) (dmaQueueEvent base q d) := eventLimited_tally _ _ _ _ _ _ _ _ _ (by decide)

/-- With no channel in hand an adjustment moves LEVEL, cut off at its ends, and stores no byte. -/
theorem dmaLevel_idle {q : Nat} {delta : Int} {d : Device} (h : d.dma = []) :
    ((dmaLevel q delta d).get (L.DMA_QLVL_LEVEL q) : Int) = max 0 (min 0xFFFFF ((d.get (L.DMA_QLVL_LEVEL q) : Int) + delta)) ∧
      (dmaLevel q delta d).memOut = d.memOut := by
  have hevent : ∃ e, (if (d.get (L.DMA_QLVL_LEVEL q) : Int) + delta < 0 || 0xFFFFF < (d.get (L.DMA_QLVL_LEVEL q) : Int) + delta
      then dmaQueueEvent 0 q d else d) = e ∧ e.dma = [] ∧ e.memOut = d.memOut := by
    refine ⟨_, rfl, ?_⟩
    have hlog := dmaQueueEvent_tally 0 q d
    split
    · exact ⟨(hlog.keep Device.dma fun _ _ _ _ _ => rfl).trans h, hlog.memOut⟩
    · exact ⟨h, rfl⟩
  obtain ⟨e, he, hdma, hmem⟩ := hevent
  obtain ⟨req, hreq⟩ := dmaRequest_idle (q := q)
    (d := e.set (L.DMA_QLVL_LEVEL q) (max 0 (min 0xFFFFF ((d.get (L.DMA_QLVL_LEVEL q) : Int) + delta))).toNat) hdma
  have hlevel : dmaLevel q delta d = (e.set (L.DMA_QLVL_LEVEL q)
      (max 0 (min 0xFFFFF ((d.get (L.DMA_QLVL_LEVEL q) : Int) + delta))).toNat).set (L.DMA_QLVL_REQ q) req := by
    rw [← hreq, ← he]; rfl
  rw [hlevel]
  refine ⟨?_, hmem⟩
  rw [get_set_disjoint _ _ _ _ (show 0 + 20 ≤ 32 by decide) (.inl (show 0 + 20 ≤ 31 by decide)),
    get_set_same _ _ _ (show 0 + 20 ≤ 32 by decide)]
  simp only [L.DMA_QLVL_LEVEL]
  omega

/-- Settles O35: LEVEL follows the adjustment (`dmaLevel_idle`), and a PWM period takes its settings where MON is powered. -/
theorem queueLevelSaturates : Obligations.QueueLevelSaturates := by
  unfold Obligations.QueueLevelSaturates
  refine ⟨fun m q delta s hm hq hdelta hs hdma hreach => ?_, fun j s hwf hs => ⟨fun hmon => ?_, fun hmon => ?_⟩⟩
  · have hstore := busWrite_writeOnly (v := delta) s.mem hm hreach (qadj_writeOnly q hq)
    rw [regEffect_qadj] at hstore
    obtain ⟨hlevel, hmem⟩ := dmaLevel_idle (q := q) (delta := signedOf 21 delta)
      (d := s.dev.wr (A.DMA_QADJ q) (s.dev.rd (A.DMA_QADJ q))) hdma
    refine ⟨_, act_eq _ (by simp [Instr.wf, isMaster, fits, hq]; omega) hs rfl hstore (hmem.trans hs.2), ?_, fun _ => rfl⟩
    have hheld : (s.dev.wr (A.DMA_QADJ q) (s.dev.rd (A.DMA_QADJ q))).get (L.DMA_QLVL_LEVEL q) = s.dev.get (L.DMA_QLVL_LEVEL q) := by
      rw [Device.get, rd_wr_ne _ _ _ _ (by simp only [L.DMA_QLVL_LEVEL, A.DMA_QLVL, A.DMA_QADJ]; omega), Device.get]
    rw [hheld] at hlevel
    exact hlevel
  · exact actDev_eq (pwmStart j) hwf hs rfl (by rw [pwmStart, hmon]; rfl) hs.2
  · exact actDev_kept (pwmStart j) hwf hs rfl (by rw [pwmStart, hmon]; rfl)

end Sys2Proof.Proofs
end


section
/-! SUPPORT. A port that loses alignment (R318, R324): what discarding its frames can change. -/
namespace Sys2Proof.Proofs
open Sys2Proof Sys2Proof.Machine Sys2Proof.Laws

/-- The link states, the egress queues and memory stay. -/
structure PortsKept (d e : Device) : Prop where
  link : ∀ q, e.link q = d.link q
  egress : e.egress = d.egress
  memOut : e.memOut = d.memOut

namespace PortsKept

theorem refl (d : Device) : PortsKept d d := ⟨fun _ => rfl, rfl, rfl⟩

theorem trans {d e f : Device} (h : PortsKept d e) (k : PortsKept e f) : PortsKept d f :=
  ⟨fun q => (k.link q).trans (h.link q), k.egress.trans h.egress, k.memOut.trans h.memOut⟩

theorem eg {d e : Device} (h : PortsKept d e) (q : Nat) : e.eg q = d.eg q := by rw [Device.eg, h.egress, Device.eg]

/-- A field outside the ports' status words. -/
theorem of_set (d : Device) (l : Loc) (v : Nat) (h : ∀ q, A.FH_PSTAT q ≠ l.addr) : PortsKept d (d.set l v) :=
  ⟨fun q => get_set_ne d v l (L.FH_PSTAT_LSTATE q) (h q), rfl, rfl⟩

theorem of_tallyOnly {d e : Device} (h : TallyOnly d e) : PortsKept d e :=
  ⟨fun q => h.get _ (.inr (by simp only [L.FH_PSTAT_LSTATE, A.FH_PSTAT]; omega)), h.keep _ fun _ _ _ _ _ => rfl, h.memOut⟩

theorem of_foldl {β : Type} (f : Device → β → Device) (hf : ∀ d x, PortsKept d (f d x)) (l : List β) (d : Device) :
    PortsKept d (l.foldl f d) := by
  induction l generalizing d with
  | nil => exact refl d
  | cons x l ih => exact (hf d x).trans (ih _)

/-- A port's counter is none of its status words. -/
theorem of_fhCount {n : Nat} (q : Nat) (d : Device) (hn : n < 32) : PortsKept d (fhCount q n d) :=
  of_set d (L.FH_CNT_COUNT q n) _ fun p => by simp only [L.FH_CNT_COUNT, A.FH_CNT, A.FH_PSTAT]; omega

/-- A port's event bit is none of its status words. -/
theorem of_set_pevent {l : Loc} {q : Nat} (d : Device) (v : Nat) (h : l.addr = A.FH_PEVENT q) : PortsKept d (d.set l v) :=
  of_set d l v fun p => by rw [h]; simp only [A.FH_PEVENT, A.FH_PSTAT]; omega

/-- A frame discarded is counted and reported. -/
theorem of_egDiscard (q : Nat) (f : EgFrame) (d : Device) : PortsKept d (egDiscard q f d) := by
  unfold egDiscard
  split
  · exact (of_fhCount q d (by decide)).trans ((of_set_pevent _ 1 rfl).trans
      (.of_tallyOnly (eventLimited_tally _ (L.FH_PEVENT_EG_DROP q) _ _ _ _ _ _ _ (by decide))))
  · next i _ =>
    exact (of_fhCount i d (by decide)).trans ((of_set_pevent _ 1 rfl).trans
      (.of_tallyOnly (eventLimited_tally _ (L.FH_PEVENT_FWD_DROP i) _ _ _ _ _ _ _ (by decide))))

end PortsKept

/-- A port's status word in DOWN, its frames not yet discarded. -/
def portShownDown (q : Nat) (d : Device) : Device :=
  ((d.set (L.FH_PSTAT_LSTATE q) 1).set (L.FH_PSTAT_RFAULT q) 0).set (L.FH_PSTAT_FEC_DEGR q) 0

/-- A flag or the SIG lanes of a port's status word are not its LSTATE. -/
theorem link_set_field (d : Device) (v : Nat) {l : Loc} (hl : l.lo + l.w ≤ 30) (k : Nat) : (d.set l v).link k = d.link k :=
  get_set_disjoint d v l (L.FH_PSTAT_LSTATE k) (show 30 + 2 ≤ 32 by decide) (.inr hl)

/-- The link states after one port is shown DOWN. -/
theorem link_portShownDown (q : Nat) (d : Device) :
    (portShownDown q d).link q = 1 ∧ ∀ k, k ≠ q → (portShownDown q d).link k = d.link k := by
  have hfields : ∀ k, (portShownDown q d).link k = (d.set (L.FH_PSTAT_LSTATE q) 1).link k := fun k =>
    (link_set_field _ 0 (l := L.FH_PSTAT_FEC_DEGR q) (show 28 + 1 ≤ 30 by decide) k).trans
      (link_set_field _ 0 (l := L.FH_PSTAT_RFAULT q) (show 29 + 1 ≤ 30 by decide) k)
  refine ⟨(hfields q).trans (get_set_same _ _ _ (show 30 + 2 ≤ 32 by decide)), fun k hk => (hfields k).trans ?_⟩
  exact get_set_ne _ _ _ _ (by simp only [L.FH_PSTAT_LSTATE, A.FH_PSTAT]; omega)

/-- The queue of a port, emptied, and that of any other. -/
theorem eg_setEg (d : Device) (q : Nat) : (d.setEg q []).eg q = [] ∧ ∀ k, k ≠ q → (d.setEg q []).eg k = d.eg k :=
  ⟨tabGet_tabPut_same _ _ _ _, fun k hk => congrArg (Option.getD · []) (tabGet?_tabPut_ne d.egress q k [] hk)⟩

/-- A port that is UP and loses alignment is DOWN with nothing waiting and LINK_DOWN raised; the others and memory stay. -/
theorem portDown_up {q : Nat} {d : Device} (h : d.link q = 3) :
    (portDown q d).link q = 1 ∧ (portDown q d).eg q = [] ∧ (portDown q d).on (L.FH_PEVENT_LINK_DOWN q) = true ∧
      (∀ k, k ≠ q → (portDown q d).eg k = d.eg k ∧ (portDown q d).link k = d.link k) ∧ (portDown q d).memOut = d.memOut := by
  obtain ⟨hdown, hothers⟩ := link_portShownDown q d
  have hdiscard := PortsKept.of_foldl (fun d f => egDiscard q f d) (fun d f => .of_egDiscard q f d) (d.eg q) (portShownDown q d)
  generalize hx : ((d.eg q).foldl (fun d f => egDiscard q f d) (portShownDown q d)).setEg q [] = x
  obtain ⟨hempty, hqueues⟩ := eg_setEg ((d.eg q).foldl (fun d f => egDiscard q f d) (portShownDown q d)) q
  generalize hsev : (if x.dual then 4 else if q = 0 then 5 else 1 : Nat) = sev
  have hleave : portDown q d = fhCount q 15 (fhEvent L.FH_PEVENT_LINK_DOWN q sev x) := by
    rw [portDown, if_pos (by omega), portLeave]
    simp only [h, BEq.rfl, Device.when, if_true]
    rw [← hsev, ← hx]
    rfl
  have hevent : TallyOnly (x.set (L.FH_PEVENT_LINK_DOWN q) 1) (fhEvent L.FH_PEVENT_LINK_DOWN q sev x) :=
    event_tally _ _ _ _ _ _ _ _ (by decide)
  have hkept : PortsKept x (portDown q d) := hleave ▸ (PortsKept.of_set_pevent x 1 rfl).trans
    ((PortsKept.of_tallyOnly hevent).trans (.of_fhCount q _ (by decide)))
  rw [hx] at hempty hqueues
  have hlinks : ∀ k, x.link k = (portShownDown q d).link k := hx ▸ hdiscard.link
  have hmem : x.memOut = d.memOut := hx ▸ hdiscard.memOut
  refine ⟨(hkept.link q).trans ((hlinks q).trans hdown), (hkept.eg q).trans hempty, ?_, fun k hk => ⟨?_, ?_⟩, hkept.memOut.trans hmem⟩
  · rw [hleave, Device.on, fhCount, get_inc_ne _ (by simp only [L.FH_PEVENT_LINK_DOWN, A.FH_PEVENT, L.FH_CNT_COUNT, A.FH_CNT]; omega),
      hevent.get _ (.inr (by simp only [L.FH_PEVENT_LINK_DOWN, A.FH_PEVENT]; omega))]
    exact on_set_one _ rfl (show 0 < 32 by decide)
  · exact (hkept.eg k).trans ((hqueues k hk).trans (hdiscard.eg k))
  · exact (hkept.link k).trans ((hlinks k).trans (hothers k hk))

/-- Settles O37: an UP port goes DOWN (`portDown_up`), and its SIG lanes are shown; one that is OFF or DOWN stays. -/
theorem linkLossEmptiesThePort : Obligations.LinkLossEmptiesThePort := by
  unfold Obligations.LinkLossEmptiesThePort
  intro q sig s hwf hs
  have hexec : exec (.linkDown q sig) s = actDev (.linkDown q sig) s fun d =>
    if d.link q ≥ 2 then (portDown q d).set (L.FH_PSTAT_SIG q) (sig &&& d.portLanes q) else d := rfl
  refine ⟨fun hup => ?_, fun hdown => actDev_kept _ hwf hs hexec (if_neg (by omega))⟩
  have hq : q < 2 := by
    simp only [Instr.wf, Bool.and_eq_true, decide_eq_true_eq] at hwf
    exact hwf.1
  obtain ⟨hlink, heg, hon, hothers, hmem⟩ := portDown_up hup
  obtain ⟨hoeg, holink⟩ := hothers (1 - q) (by omega)
  have hsig := link_set_field (portDown q s.dev) (sig &&& s.dev.portLanes q) (l := L.FH_PSTAT_SIG q) (show 0 + 8 ≤ 30 by decide)
  refine ⟨_, actDev_eq _ hwf hs hexec (if_pos (by omega)) (hmem.trans hs.2), (hsig q).trans hlink, heg, ?_, hoeg, (hsig (1 - q)).trans holink,
    fun _ => rfl⟩
  rw [Device.on, get_set_ne _ _ _ _ (by simp only [L.FH_PEVENT_LINK_DOWN, A.FH_PEVENT, L.FH_PSTAT_SIG, A.FH_PSTAT]; omega)]
  exact hon

end Sys2Proof.Proofs
end


section
/-! SUPPORT. A tick on an empty queue (R362): what PORT and the Beads do in it leaves network time alone. -/
namespace Sys2Proof.Proofs
open Sys2Proof Sys2Proof.Machine Sys2Proof.Laws

/-- Network time, what waits for a tick, and the bytes stored stay. -/
structure TimeKept (d e : Device) : Prop where
  time : e.time = d.time
  tctl : e.tctl = d.tctl
  tickRuns : e.tickRuns = d.tickRuns
  ticks : e.ticks = d.ticks
  cmdWaits : e.cmdWaits = d.cmdWaits
  laters : e.laters = d.laters
  memOut : e.memOut = d.memOut

namespace TimeKept

theorem refl (d : Device) : TimeKept d d := ⟨rfl, rfl, rfl, rfl, rfl, rfl, rfl⟩

theorem trans {d e f : Device} (h : TimeKept d e) (k : TimeKept e f) : TimeKept d f :=
  ⟨k.time.trans h.time, k.tctl.trans h.tctl, k.tickRuns.trans h.tickRuns, k.ticks.trans h.ticks, k.cmdWaits.trans h.cmdWaits,
    k.laters.trans h.laters, k.memOut.trans h.memOut⟩

theorem of_set (d : Device) (l : Loc) (v : Nat) : TimeKept d (d.set l v) := ⟨rfl, rfl, rfl, rfl, rfl, rfl, rfl⟩

theorem of_tallyOnly {d e : Device} (h : TallyOnly d e) : TimeKept d e :=
  ⟨h.keep _ fun _ _ _ _ _ => rfl, h.keep _ fun _ _ _ _ _ => rfl, h.keep _ fun _ _ _ _ _ => rfl, h.ticks,
    h.keep _ fun _ _ _ _ _ => rfl, h.keep _ fun _ _ _ _ _ => rfl, h.memOut⟩

theorem of_foldl {β : Type} (f : Device → β → Device) (hf : ∀ d x, TimeKept d (f d x)) (l : List β) (d : Device) :
    TimeKept d (l.foldl f d) := by
  induction l generalizing d with
  | nil => exact refl d
  | cons x l ih => exact (hf d x).trans (ih _)

theorem of_when (b : Bool) {f : Device → Device} (d : Device) (hf : TimeKept d (f d)) : TimeKept d (d.when b f) := by
  unfold Device.when
  split
  · exact hf
  · exact refl d

theorem of_eventLimited (d : Device) (l : Loc) (period isle cls src reg sev : Nat) (items : List (Nat × Nat)) (h : isle < 16) :
    TimeKept d (d.eventLimited l period isle cls src reg sev items) :=
  (of_set d l 1).trans (.of_tallyOnly (eventLimited_tally d l period isle cls src reg sev items h))

theorem of_timeEvent (l : Loc) (src sev : Nat) (items : List (Nat × Nat)) (d : Device) : TimeKept d (timeEvent l src sev items d) :=
  (of_set d l 1).trans (.of_tallyOnly (event_tally _ _ _ _ _ _ _ _ (by decide)))

/-! ## The ports' queues -/

theorem of_egDrop (q : Nat) (d : Device) : TimeKept d (egDrop q d) :=
  (of_set d _ _).trans (of_eventLimited _ _ _ _ _ _ _ _ _ (by decide))

theorem of_egDiscard (q : Nat) (f : EgFrame) (d : Device) : TimeKept d (egDiscard q f d) := by
  unfold egDiscard
  split
  · exact of_egDrop q d
  · exact (of_set d _ _).trans (of_eventLimited _ _ _ _ _ _ _ _ _ (by decide))

theorem of_egPush (q : Nat) (f : EgFrame) (d : Device) : TimeKept d (egPush q f d) := by
  unfold egPush
  split_ifs
  · exact of_egDrop q d
  · exact ⟨rfl, rfl, rfl, rfl, rfl, rfl, rfl⟩
  · exact of_egDiscard q f d

/-- A message of the device's own takes the next number of its flow, is counted and offered to the uplink. -/
theorem gstSend_uplink (cls pcp flow ty dest nsec at' xw : Nat) (body : List Byte) (d : Device) :
    ∃ f seqs, gstSend cls pcp flow ty dest nsec at' xw body d = egUplink f (gstCount 16 1 { d with ulSeq := seqs }) := ⟨_, _, rfl⟩

theorem of_gstSend (cls pcp flow ty dest nsec at' xw : Nat) (body : List Byte) (d : Device) :
    TimeKept d (gstSend cls pcp flow ty dest nsec at' xw body d) := by
  obtain ⟨f, seqs, hsend⟩ := gstSend_uplink cls pcp flow ty dest nsec at' xw body d
  have hcount : TimeKept d (gstCount 16 1 { d with ulSeq := seqs }) := ⟨rfl, rfl, rfl, rfl, rfl, rfl, rfl⟩
  rw [hsend]
  exact hcount.trans ((of_egPush 0 f _).trans (of_when _ _ (of_egPush 1 f _)))

/-! ## What precedes the counter in a tick -/

theorem of_mtxQueue (d : Device) : TimeKept d (mtxQueue d) := by
  unfold mtxQueue
  split
  · exact refl d
  · have hbusy : TimeKept d (({ d with port := { d.port with mtx := none } }).set L.GST_MTX_BUSY 0) := ⟨rfl, rfl, rfl, rfl, rfl, rfl, rfl⟩
    exact hbusy.trans (of_gstSend _ _ _ _ _ _ _ _ _ _)

end TimeKept

/-- A copy of a PTP frame is queued at a port that is UP, else discarded. -/
def ptxCopy (q : Nat) (f : EgFrame) (d : Device) : Device :=
  if d.link q = 3 then egPush q f d else timeEvent L.TIME_EVENT_PTX_DROP 0 1 [] (egDrop q d)

/-- The copies of the PTP frame in hand. -/
theorem ptxQueue_some {port : Nat} {f : EgFrame} {d : Device} (h : d.port.ptx = some (port, f)) :
    ptxQueue d = ((({ d with port := { d.port with ptx := none } }).set L.TIME_PTX_BUSY 0).when (port = 0 || port = 2) (ptxCopy 0 f)).when
      (port = 1 || port = 2) (ptxCopy 1 f) := by
  simp only [ptxQueue, h]
  rfl

namespace TimeKept

theorem of_ptxCopy (q : Nat) (f : EgFrame) (d : Device) : TimeKept d (ptxCopy q f d) := by
  unfold ptxCopy
  split
  · exact of_egPush q f d
  · exact (of_egDrop q d).trans (of_timeEvent _ _ _ _ _)

theorem of_ptxQueue (d : Device) : TimeKept d (ptxQueue d) := by
  cases hptx : d.port.ptx with
  | none => simpa only [ptxQueue, hptx] using refl d
  | some x =>
    have hbusy : TimeKept d (({ d with port := { d.port with ptx := none } }).set L.TIME_PTX_BUSY 0) := ⟨rfl, rfl, rfl, rfl, rfl, rfl, rfl⟩
    rw [ptxQueue_some hptx]
    exact hbusy.trans ((of_when _ _ (of_ptxCopy 0 x.2 _)).trans (of_when _ _ (of_ptxCopy 1 x.2 _)))

theorem of_ndAnswers (d : Device) : TimeKept d (ndAnswers d) := by
  refine TimeKept.trans (e := { d with port := { d.port with nd := [] } }) ⟨rfl, rfl, rfl, rfl, rfl, rfl, rfl⟩
    (of_foldl _ (fun d x => ?_) _ _)
  split
  · exact of_egPush _ _ _
  · exact refl _

theorem of_coolHold (d : Device) : TimeKept d (coolHold d) := of_when _ _ ⟨rfl, rfl, rfl, rfl, rfl, rfl, rfl⟩

theorem of_wdogTick (d : Device) : TimeKept d (wdogTick d) := ⟨rfl, rfl, rfl, rfl, rfl, rfl, rfl⟩

end TimeKept

/-- What a tick does before the counter moves. -/
def tickPorts (d : Device) : Device := coolHold (wdogTick (ndAnswers (ptxQueue (mtxQueue d))))

theorem tickPorts_kept (d : Device) : TimeKept d (tickPorts d) :=
  (TimeKept.of_mtxQueue d).trans ((TimeKept.of_ptxQueue _).trans ((TimeKept.of_ndAnswers _).trans
    ((TimeKept.of_wdogTick _).trans (.of_coolHold _))))

/-! ## The counter -/

/-- The time of a counter that is set. -/
theorem time_setCounter (t : Nat) (d : Device) :
    (setCounter t d).time = ⟨t / 2 ^ 32 / 10 ^ 9 % 2 ^ 48, t / 2 ^ 32 % 10 ^ 9, t % 2 ^ 32⟩ := rfl

/-- The counter of a time. -/
theorem counter_of_time {d : Device} {sec ns frac : Nat} (h : d.time = ⟨sec, ns, frac⟩) :
    d.counter = (sec * 10 ^ 9 + ns) * 2 ^ 32 + frac := by
  rw [Device.counter, Device.tai, h]

/-- The counter reads what it was set to, within its range. -/
theorem counter_setCounter {t : Nat} (d : Device) (h : t < timeSpan) : (setCounter t d).counter = t := by
  have hspan : timeSpan = 281474976710656 * 1000000000 * 4294967296 := rfl
  rw [hspan] at h
  rw [counter_of_time (time_setCounter t d)]
  omega

/-- The counter is in the time. -/
theorem counter_congr {d e : Device} (h : e.time = d.time) : e.counter = d.counter := by
  rw [Device.counter, Device.tai, h, ← Device.tai, ← Device.counter]

/-- The uncertainty is not the time. -/
theorem uncGrow_spec (d : Device) : (uncGrow d).time = d.time ∧ (uncGrow d).ticks = d.ticks ∧
    (uncGrow d).cmdWaits = d.cmdWaits ∧ (uncGrow d).laters = d.laters ∧ (uncGrow d).memOut = d.memOut := by
  unfold uncGrow
  dsimp only
  split <;> exact ⟨rfl, rfl, rfl, rfl, rfl⟩

/-- With no commit due the counter is set to what the increment makes it, and nothing is pending. -/
theorem counterTick_quiet {d : Device} (hset : d.tctl.setPend = none) (hadj : d.tctl.adjPend = none) (hinc : d.tctl.incPend = none)
    (hfoff : d.tctl.foffPend = none) : ∃ c, counterTick d =
      uncGrow ((((setCounter ((d.counter + d.tctl.inc) % timeSpan) { d with tctl := c }).set L.TIME_STAT_SET_PEND 0).set
        L.TIME_STAT_ADJ_PEND 0).set L.TIME_STAT_INC_PEND 0) := by
  unfold counterTick
  dsimp only
  rw [hset, hadj, hinc, hfoff]
  simp only [Option.getD_none, Option.isSome_none, bne_self_eq_false, Bool.or_self, Bool.and_self, Bool.false_and, Bool.false_eq_true,
    if_false, Device.when]
  exact ⟨_, rfl⟩

/-- What a tick that sets the counter and shows no commit pending leaves. -/
theorem counter_quiet {d : Device} {c : TimeCtl} {t : Nat} (hlt : t < timeSpan) (hc : counterTick d =
    uncGrow ((((setCounter t { d with tctl := c }).set L.TIME_STAT_SET_PEND 0).set L.TIME_STAT_ADJ_PEND 0).set L.TIME_STAT_INC_PEND 0)) :
    (counterTick d).counter = t ∧ (counterTick d).ticks = d.ticks ∧ (counterTick d).cmdWaits = d.cmdWaits ∧
      (counterTick d).laters = d.laters ∧ (counterTick d).memOut = d.memOut := by
  obtain ⟨htime, hrest⟩ := uncGrow_spec ((((setCounter t { d with tctl := c }).set L.TIME_STAT_SET_PEND 0).set
    L.TIME_STAT_ADJ_PEND 0).set L.TIME_STAT_INC_PEND 0)
  have hset : (counterTick d).time = (setCounter t { d with tctl := c }).time := by
    rw [hc, htime, TimeKept.time (.of_set _ _ _), TimeKept.time (.of_set _ _ _), TimeKept.time (.of_set _ _ _)]
  refine ⟨(counter_congr hset).trans (counter_setCounter { d with tctl := c } hlt), ?_⟩
  rw [hc]
  exact hrest

/-- With no commit due the counter advances by the increment in force, and nothing else a step looks at moves. -/
theorem counterTick_plain {d : Device} (hset : d.tctl.setPend = none) (hadj : d.tctl.adjPend = none) (hinc : d.tctl.incPend = none)
    (hfoff : d.tctl.foffPend = none) : (counterTick d).counter = (d.counter + d.tctl.inc) % timeSpan ∧ (counterTick d).ticks = d.ticks ∧
      (counterTick d).cmdWaits = d.cmdWaits ∧ (counterTick d).laters = d.laters ∧ (counterTick d).memOut = d.memOut := by
  obtain ⟨c, hc⟩ := counterTick_quiet hset hadj hinc hfoff
  exact counter_quiet (Nat.mod_lt _ (by decide)) hc

/-- A run whose effect stores no byte leaves memory and queue. -/
theorem run_onDevice {s : State} {f : List Host.Cell → Device → Device} (hs : s.Settled) (h : (f s.mem s.dev).memOut = []) :
    s.run f = { s with dev := f s.mem s.dev } := by
  rw [State.run, dev_memOut s.dev hs.2]
  simp only [h, memPutAll]
  rw [dev_memOut _ h]

/-- Where no Bead waits for anything, a tick is the tick of network time. -/
theorem idleTick_quiet (mem : List Host.Cell) {d : Device} (h : (timeTick d).cmdWaits = []) (h' : (timeTick d).laters = []) :
    idleTick mem d = timeTick d := by
  simp [idleTick, beadTick, h, h']

/-- Settles O2: PORT and the Beads leave network time alone (`tickPorts_kept`), and the counter advances by the increment in
force (`counterTick_plain`). -/
theorem emptyQueueTicks : Obligations.EmptyQueueTicks := by
  unfold Obligations.EmptyQueueTicks
  intro s hq hs htick hset hadj hinc hfoff hwaits hlaters
  have hk := tickPorts_kept s.dev
  obtain ⟨hcounter, hticks, hcwaits, hclaters, hcmem⟩ := counterTick_plain (d := tickPorts s.dev) (by rw [hk.tctl]; exact hset)
    (by rw [hk.tctl]; exact hadj) (by rw [hk.tctl]; exact hinc) (by rw [hk.tctl]; exact hfoff)
  have hrun : timeTick s.dev = { counterTick (tickPorts s.dev) with ticks := (counterTick (tickPorts s.dev)).ticks + 1 } := by
    rw [timeTick, ← tickPorts]
    simp only [hk.tickRuns, htick, if_true]
  have hidle : idleTick s.mem s.dev = timeTick s.dev := idleTick_quiet s.mem (by rw [hrun]; exact hcwaits.trans (hk.cmdWaits.trans hwaits))
    (by rw [hrun]; exact hclaters.trans (hk.laters.trans hlaters))
  have hstep := step_nil s hq
  rw [tickState, run_onDevice hs (by rw [hidle, hrun]; exact hcmem.trans (hk.memOut.trans hs.2)), hidle, hrun] at hstep
  refine ⟨_, hstep, hq, rfl, ?_, ?_⟩
  · exact congrArg (· + 1) (hticks.trans hk.ticks)
  · refine hcounter.trans ?_
    rw [hk.tctl, counter_congr hk.time]

end Sys2Proof.Proofs
end


section
/-! SUPPORT. The votes of other owners (R488) under a vote set or withdrawn, and the end of a Bead domain's hysteresis (R489). -/
namespace Sys2Proof.Proofs
open Sys2Proof Sys2Proof.Machine Sys2Proof.Laws

/-- A power of two whose bit is not set, added, changes no other bit. -/
theorem testBit_add_two_pow_ne {x b c : Nat} (h : x.testBit c = false) (hb : b ≠ c) : (x + 2 ^ c).testBit b = x.testBit b := by
  rcases Nat.lt_or_gt_of_ne hb with hlt | hgt
  · rw [Nat.add_comm, Nat.testBit_two_pow_add_gt hlt]
  · have heven : x / 2 ^ c % 2 = 0 := by
      rw [Nat.testBit_eq_decide_div_mod_eq, decide_eq_false_iff_not] at h
      omega
    have hhigh : (x + 2 ^ c) / 2 ^ (c + 1) = x / 2 ^ (c + 1) := by
      rw [Nat.pow_succ, ← Nat.div_div_eq_div_mul, ← Nat.div_div_eq_div_mul, Nat.add_div_right _ (Nat.two_pow_pos c)]
      omega
    obtain ⟨k, rfl⟩ : ∃ k, b = c + 1 + k := ⟨b - (c + 1), by omega⟩
    have hshift : ∀ y : Nat, y.testBit (c + 1 + k) = (y / 2 ^ (c + 1)).testBit k := fun y => by
      rw [Nat.testBit_div_two_pow, Nat.add_comm]
    rw [hshift, hshift, hhigh]

/-- A power of two whose bit is set, taken off, changes no other bit. -/
theorem testBit_sub_two_pow_ne {x b c : Nat} (h : x.testBit c = true) (hb : b ≠ c) : (x - 2 ^ c).testBit b = x.testBit b := by
  have hsum : x - 2 ^ c + 2 ^ c = x := Nat.sub_add_cancel (Nat.ge_two_pow_of_testBit h)
  have hoff : (x - 2 ^ c).testBit c = false := by
    rw [← hsum, Nat.add_comm, Nat.testBit_two_pow_add_eq, Bool.not_eq_true'] at h
    exact h
  rw [← testBit_add_two_pow_ne hoff hb, hsum]

/-- A vote of domain `n` and the bytes to write stay. -/
def VoteKept (n b : Nat) (d e : Device) : Prop := e.voted n b = d.voted n b ∧ e.memOut = d.memOut

namespace VoteKept

theorem refl (n b : Nat) (d : Device) : VoteKept n b d d := ⟨rfl, rfl⟩

theorem trans {n b : Nat} {d e f : Device} (h : VoteKept n b d e) (k : VoteKept n b e f) : VoteKept n b d f :=
  ⟨k.1.trans h.1, k.2.trans h.2⟩

theorem of_domainKept {n : Nat} (b : Nat) {d e : Device} (h : DomainKept n d e) : VoteKept n b d e := ⟨h.voted b, h.memOut⟩

theorem of_setDom (n b st : Nat) (d : Device) : VoteKept n b d (setDom n st d) :=
  ⟨by rw [voted_eq_testBit, votes_setDom, voted_eq_testBit], rfl⟩

/-- The vote field written with a value that has the same bit `b`. -/
theorem of_set_votes {n b v : Nat} (d : Device) (hb : b < 23) (h : v.testBit b = (d.votes n).testBit b) :
    VoteKept n b d (d.set (L.PWR_DSTAT_VOTES n) v) :=
  ⟨by rw [voted_eq_testBit, votes_set_same, Nat.testBit_mod_two_pow, h, decide_eq_true hb, Bool.true_and, voted_eq_testBit], rfl⟩

/-- A vote set leaves every other. -/
theorem of_voteOne {n b c : Nat} (d : Device) (hb : b < 23) (hc : b ≠ c) : VoteKept n b d (voteOne n c d) := by
  unfold voteOne
  split
  · exact refl n b d
  · next hnew =>
    have hclear : (d.votes n).testBit c = false := by
      rw [← voted_eq_testBit]
      exact (show neverOff n = false ∧ d.voted n c = false by simpa using hnew).2
    refine (of_set_votes d hb (testBit_add_two_pow_ne hclear hc)).trans ?_
    dsimp only
    split
    · exact VoteKept.trans ⟨rfl, rfl⟩ (of_setDom n b 1 _)
    · exact of_setDom n b 2 _
    · exact refl n b _

/-- A vote withdrawn leaves every other. -/
theorem of_unvoteOne {n b c : Nat} (d : Device) (hb : b < 23) (hc : b ≠ c) : VoteKept n b d (unvoteOne n c d) := by
  unfold unvoteOne
  split
  · exact refl n b d
  · next hold =>
    have hset : (d.votes n).testBit c = true := by
      rw [← voted_eq_testBit]
      exact (show neverOff n = false ∧ d.voted n c = true by simpa using hold).2
    refine (of_set_votes d hb (testBit_sub_two_pow_ne hset hc)).trans ?_
    dsimp only
    split
    · exact of_setDom n b 3 _
    · exact refl n b _

theorem of_vote {n b c : Nat} (d : Device) (hb : b < 23) (hc : b ≠ c) : VoteKept n b d (vote n c d) :=
  (of_voteOne d hb hc).trans (of_domainKept b (.of_vote n c d))

/-- VOTE_ERR and its record are no vote. -/
theorem of_voteErr (n b m : Nat) (d : Device) : VoteKept n b d (voteErr m n d) := by
  have hset : VoteKept n b d (d.set L.PWR_EVENT_VOTE_ERR 1) := by
    refine ⟨?_, rfl⟩
    rw [voted_eq_testBit, votes_of_dstat (rd_set_ne d 1 _ _ (dstat_ne_event n)), voted_eq_testBit]
  exact hset.trans (of_domainKept b (.of_tallyOnly n (logLimited_tally _ _ _ _ _ _ _ _ _ (by decide))))

/-- Bits of a list that does not hold `b`, each acted on by `f` where it is asked for. -/
theorem of_foldl_bits {n b bits : Nat} {f : Nat → Device → Device} (hf : ∀ c, b ≠ c → ∀ d, VoteKept n b d (f c d)) {l : List Nat}
    (hl : l.contains b = false) (d : Device) :
    VoteKept n b d (l.foldl (fun d c => if bitsOf bits c 1 = 1 then f c d else d) d) := by
  induction l generalizing d with
  | nil => exact refl n b d
  | cons c l ih =>
    simp only [List.contains_cons, Bool.or_eq_false_iff, beq_eq_false_iff_ne] at hl
    refine trans ?_ (ih hl.2 _)
    dsimp only
    split
    · exact hf c hl.1 d
    · exact refl n b d

/-- What a master does not own of PWR_VSET it does not set. -/
theorem of_voteSet {m n b : Nat} (bits : Nat) (d : Device) (hb : b < 23) (h : (ownVotes m false).contains b = false) :
    VoteKept n b d (voteSet m n bits d) := by
  unfold voteSet
  split
  · exact refl n b d
  · refine trans ?_ (of_foldl_bits (fun c hc d => of_vote d hb hc) h _)
    split
    · exact of_voteErr n b m d
    · exact refl n b d

/-- What a master does not own of PWR_VCLR it does not withdraw. -/
theorem of_voteClear {m n b : Nat} (bits : Nat) (d : Device) (hb : b < 23) (h : (ownVotes m true).contains b = false) :
    VoteKept n b d (voteClear m n bits d) := by
  unfold voteClear
  split
  · exact refl n b d
  · refine trans ?_ (of_foldl_bits (fun c hc d => of_unvoteOne d hb hc) h _)
    split
    · exact of_voteErr n b m d
    · exact refl n b d

end VoteKept

/-- The power block is in the always-on domain. -/
theorem domainOf_power {a : Nat} (h : 0x40000 ≤ a ∧ a < 0x50000) : domainOf a = 0 := by
  rw [domainOf, if_neg (by omega), if_neg (by omega), if_pos h.2]

/-- Nothing is taken down with a Bead's domain. -/
theorem domainExpire_bead {n : Nat} {d : Device} (hlo : 9 ≤ n) (hhi : n < 24) (h : d.domState n = 3) :
    domainExpire n d = d.set (L.PWR_DSTAT_STATE n) 4 := by
  have hvotable : neverOff n = false := by simp [neverOff]; omega
  have hdown : ∀ e, domainDown n e = e := fun e => by
    rw [domainDown, if_neg (by omega), if_neg (by omega), if_neg (by omega), if_neg (by simp; omega)]
  rw [domainExpire, if_neg (by simp [hvotable, h]), hdown, setDom]

/-- Settles O22: of what a master asks for, only the bits it owns are acted on (`VoteKept.of_voteSet`, `VoteKept.of_voteClear`). -/
theorem votesStayWithTheirOwners : Obligations.VotesStayWithTheirOwners := by
  unfold Obligations.VotesStayWithTheirOwners
  refine ⟨fun m n bits b s hm hlt hn h4 h7 hbits hb hs hreach => ⟨fun hown => ?_, fun hown => ?_⟩, fun n s hlo hhi hs _ hstate => ?_⟩
  · have hbus := busWrite_vset m n bits s.mem s.dev hlt hreach
    have hput : VoteKept n b s.dev (putWord vsetRow n m (A.PWR_VSET n) bits s.dev) := .of_domainKept b
      (.of_putWord _ _ _ _ _ _ (by simp only [A.PWR_VSET, A.PWR_DSTAT]; omega) (by simp only [A.PWR_VSET, A.PWR_EVENT]; omega))
    obtain ⟨hvoted, hmem⟩ := hput.trans (.of_voteSet bits _ hb hown)
    exact ⟨_, act_eq _ (by simp [Instr.wf, hm, hlt, fits]; omega) hs rfl hbus (hmem.trans hs.2), hvoted, fun _ => rfl⟩
  · have hreach' : s.dev.reaches m (A.PWR_VCLR n) := by
      have hdomain : domainOf (A.PWR_VCLR n) = domainOf (A.PWR_VSET n) :=
        (domainOf_power (by simp only [A.PWR_VCLR]; omega)).trans (domainOf_power (by simp only [A.PWR_VSET]; omega)).symm
      unfold Device.reaches
      rwa [hdomain]
    have hbus := busWrite_vclr m n bits s.mem s.dev hlt hreach'
    have hput : VoteKept n b s.dev (putWord vclrRow n m (A.PWR_VCLR n) bits s.dev) := .of_domainKept b
      (.of_putWord _ _ _ _ _ _ (by simp only [A.PWR_VCLR, A.PWR_DSTAT]; omega) (by simp only [A.PWR_VCLR, A.PWR_EVENT]; omega))
    obtain ⟨hvoted, hmem⟩ := hput.trans (.of_voteClear bits _ hb hown)
    exact ⟨_, act_eq _ (by simp [Instr.wf, hm, hlt, fits]; omega) hs rfl hbus (hmem.trans hs.2), hvoted, fun _ => rfl⟩
  · exact actDev_eq (domainExpire n) (by simp only [Instr.wf, decide_eq_true_eq]; omega) hs rfl (domainExpire_bead hlo hhi hstate) hs.2

end Sys2Proof.Proofs
end


section
/-! SUPPORT. A cold reset (R505): which registers it leaves away from their reset words. -/
namespace Sys2Proof.Proofs
open Sys2Proof Sys2Proof.Machine Sys2Proof.Laws

/-- The word of a field that is written. -/
theorem rd_set_at (d : Device) (l : Loc) (v : Nat) : (d.set l v).rd l.addr = putBits (d.rd l.addr) l.lo l.w v % 2 ^ 32 := rd_wr_same d _ _

/-- A word written reads the same in devices in which it read the same before. -/
theorem rd_set_congr {d e : Device} {l : Loc} (v : Nat) (h : e.rd l.addr = d.rd l.addr) : (e.set l v).rd l.addr = (d.set l v).rd l.addr := by
  rw [rd_set_at, rd_set_at, h]

/-- The registers a cold reset leaves to show its cause, a fresh nonce, the write pointer of the kept records and a thermal trip. -/
structure ColdShown (cause therm : Nat) (e : Device) : Prop where
  cause : e.get L.BOOT_RCAUSE_CAUSE = cause % 2 ^ 4
  others : OnlyRegisters [A.BOOT_RCAUSE, A.BOOT_DBG_NONCE, A.TLY_KEEP_WR, A.DMP_STAT] Device.reset e
  therm : e.rd A.DMP_STAT = (Device.reset.set L.DMP_STAT_THERM therm).rd A.DMP_STAT

/-- The nonce and the cause, written last. -/
theorem coldShown_set {therm nonce cause : Nat} {r : Device} (hothers : OnlyRegisters [A.TLY_KEEP_WR, A.DMP_STAT] Device.reset r)
    (htherm : r.rd A.DMP_STAT = (Device.reset.set L.DMP_STAT_THERM therm).rd A.DMP_STAT) :
    ColdShown cause therm ((r.set L.BOOT_DBG_NONCE_NONCE nonce).set L.BOOT_RCAUSE_CAUSE cause) := by
  refine ⟨get_set_same _ _ _ (by decide), fun a ha => ?_, ?_⟩
  · simp only [List.mem_cons, List.not_mem_nil, or_false, not_or] at ha
    obtain ⟨hcause, hnonce, hwr, hstat⟩ := ha
    rw [rd_set_ne _ _ _ _ hcause, rd_set_ne _ _ _ _ hnonce]
    exact hothers a (by simp [hwr, hstat])
  · rw [rd_set_ne _ _ _ _ (by decide), rd_set_ne _ _ _ _ (by decide), htherm]

/-- The trip bit of DMP_STAT reads 0 at reset. -/
theorem therm_reset : (Device.reset.set L.DMP_STAT_THERM 0).rd A.DMP_STAT = Device.reset.rd A.DMP_STAT := by decide +kernel

/-- A one-bit field is 0 where it is not 1. -/
theorem get_of_not_on {d : Device} {l : Loc} (hw : l.w = 1) (h : d.on l = false) : d.get l = 0 := by
  have hlt : d.get l < 2 ^ l.w := bitsOf_lt _ _ _
  rw [hw] at hlt
  have hne : d.get l ≠ 1 := by simpa [Device.on] using h
  omega

/-- What a thermal trip that stands through a reset leaves. -/
theorem thermStands_shown (old : Device) {r : Device} (h : OnlyRegisters [A.TLY_KEEP_WR] Device.reset r) :
    OnlyRegisters [A.TLY_KEEP_WR, A.DMP_STAT] Device.reset (thermStands old r) ∧
      (thermStands old r).rd A.DMP_STAT = (Device.reset.set L.DMP_STAT_THERM (old.get L.DMP_STAT_THERM)).rd A.DMP_STAT := by
  have hstat : r.rd A.DMP_STAT = Device.reset.rd A.DMP_STAT := h _ (by decide)
  cases htrip : old.on L.DMP_STAT_THERM with
  | false =>
    rw [thermStands, htrip, get_of_not_on rfl htrip, therm_reset]
    refine ⟨fun a ha => h a ?_, hstat⟩
    simp only [List.mem_cons, List.not_mem_nil, or_false, not_or] at ha ⊢
    exact ha.1
  | true =>
    have hone : old.get L.DMP_STAT_THERM = 1 := by simpa [Device.on] using htrip
    rw [thermStands, htrip, hone]
    refine ⟨fun a ha => ?_, rd_set_congr 1 hstat⟩
    simp only [List.mem_cons, List.not_mem_nil, or_false, not_or] at ha
    exact (rd_set_ne _ _ _ _ ha.2).trans (h a (by simpa using ha.1))

/-- The device of a cold reset before any register is written, with what it keeps. -/
def coldBlank (d : Device) : Device := { Device.reset with
  drawn := d.drawn
  delivered := d.delivered, otpBurns := d.otpBurns, flashTakes := d.flashTakes
  boot := { Device.reset.boot with
    porstLow := d.boot.porstLow, g1 := d.boot.g1, railHold := d.boot.railHold, thermHold := d.boot.thermHold
    perstLow := d.boot.perstLow, otp := d.boot.otp, dieId := d.boot.dieId, wortilKey := d.boot.wortilKey
    branch := d.boot.branch, flash := d.boot.flash, flashOk := d.boot.flashOk } }

/-- The blank device with the kept records and their write pointer, and with a value drawn. -/
def coldKept (d : Device) : Device :=
  { (coldBlank d).set L.TLY_KEEP_WR_WR (d.get L.TLY_KEEP_WR_WR) with
    tally := { (coldBlank d).tally with kept := d.tally.kept }, drawn := d.drawn + 1 }

/-- A cold reset without a cause forgets all but the free-standing memories. -/
theorem coldReset_none (d : Device) : ∃ nonce, coldReset 0 d =
    (({ coldBlank d with drawn := d.drawn + 1 }).set L.BOOT_DBG_NONCE_NONCE nonce).set L.BOOT_RCAUSE_CAUSE 0 := ⟨_, rfl⟩

/-- A cold reset with a cause keeps Ember's records, and a thermal trip stands. -/
theorem coldReset_cause (d : Device) : ∃ nonce, coldReset 3 d =
    ((thermStands d (coldKept d)).set L.BOOT_DBG_NONCE_NONCE nonce).set L.BOOT_RCAUSE_CAUSE 3 := ⟨_, rfl⟩

/-- A thermal trip that stands is one bit of a register. -/
theorem thermStands_keeps (old r : Device) {α : Type} (f : Device → α) (hf : ∀ (x : Device) rs, f { x with regs := rs } = f x) :
    f (thermStands old r) = f r := by
  unfold thermStands Device.when
  split
  · exact hf r _
  · rfl

/-- A thermal reset is a cold reset with the cause that the supply lets stand, with the hold noted. -/
theorem exec_thermalReset (s : State) : exec .thermalReset s = actDev .thermalReset s
    fun d => coldReset (d.latches 3) { d with boot := { d.boot with thermHold := true } } := rfl

/-- Settles O38: the reset leaves the cause, the nonce, the write pointer and the trip (`ColdShown`), and keeps what is not reset. -/
theorem coldResetLeaves : Obligations.ColdResetLeaves := by
  unfold Obligations.ColdResetLeaves
  intro s hs
  generalize hd : ({ s.dev with boot := { s.dev.boot with thermHold := true } } : Device) = d
  have htherm : d.get L.DMP_STAT_THERM = s.dev.get L.DMP_STAT_THERM := by rw [← hd]; rfl
  cases hg1 : s.dev.boot.g1 with
  | false =>
    have hlatch : s.dev.latches 3 = 0 := by rw [Device.latches, hg1]; rfl
    obtain ⟨nonce, hreset⟩ := coldReset_none d
    have hshown : ColdShown 0 0 (coldReset 0 d) := hreset ▸ coldShown_set (fun _ _ => rfl) therm_reset.symm
    have hexec := actDev_eq (e := coldReset 0 d) _ rfl hs (exec_thermalReset s) (by rw [hlatch, hd])
      (by rw [hreset]; rfl)
    refine ⟨_, hexec, hshown.cause, hshown.others, hshown.therm, ?_⟩
    show (coldReset 0 d).mbx = [] ∧ _
    rw [hreset, ← hd]
    exact ⟨rfl, rfl, rfl, rfl, rfl, rfl, rfl, fun _ => rfl⟩
  | true =>
    have hlatch : s.dev.latches 3 = 3 := by rw [Device.latches, hg1]; rfl
    obtain ⟨nonce, hreset⟩ := coldReset_cause d
    obtain ⟨hothers, hstat⟩ := thermStands_shown d (r := coldKept d) fun a ha => rd_set_ne (coldBlank d) _ L.TLY_KEEP_WR_WR a
      (show a ≠ A.TLY_KEEP_WR by simpa using ha)
    rw [htherm] at hstat
    have hshown : ColdShown 3 (s.dev.get L.DMP_STAT_THERM) (coldReset 3 d) := hreset ▸ coldShown_set hothers hstat
    have hkeep : ∀ {α : Type} (f : Device → α), (∀ (x : Device) rs, f { x with regs := rs } = f x) → f (coldReset 3 d) = f (coldKept d) :=
      fun f hf => by rw [hreset]; exact (hf _ _).trans ((hf _ _).trans (thermStands_keeps d _ f hf))
    have hexec := actDev_eq (e := coldReset 3 d) _ rfl hs (exec_thermalReset s) (by rw [hlatch, hd])
      (hkeep Device.memOut fun _ _ => rfl)
    refine ⟨_, hexec, hshown.cause, hshown.others, hshown.therm, hkeep Device.mbx fun _ _ => rfl, hkeep Device.stalled fun _ _ => rfl,
      hkeep Device.cmdRecs fun _ _ => rfl, (hkeep (·.tally.kept) fun _ _ => rfl).trans ?_, (hkeep (·.boot.otp) fun _ _ => rfl).trans ?_,
      (hkeep (·.boot.flash) fun _ _ => rfl).trans ?_, hkeep Device.time fun _ _ => rfl, fun _ => rfl⟩
    all_goals rw [← hd]; rfl

end Sys2Proof.Proofs
end


section
/-! SUPPORT. A warm reset (R505): what of its steps leaves network time, the mailbox and the locks alone. -/
namespace Sys2Proof.Proofs
open Sys2Proof Sys2Proof.Machine Sys2Proof.Laws

/-- Network time, the bytes to write, the mailbox, the waiting accesses and commands, and the locks stay. -/
structure WarmKept (d e : Device) : Prop where
  time : e.time = d.time
  memOut : e.memOut = d.memOut
  mbx : e.mbx = d.mbx
  stalled : e.stalled = d.stalled
  cmdWaits : e.cmdWaits = d.cmdWaits
  cmdRecs : e.cmdRecs = d.cmdRecs
  locks : ∀ b < 8, e.rd (lockAddr b) = d.rd (lockAddr b)

/-- A converter's registers are no lock registers. -/
theorem lock_ne_converter {a : Nat} (h : 0x140000 ≤ a) : ∀ b < 8, lockAddr b ≠ a := by
  have hlow : ∀ b < 8, lockAddr b < 0x140000 := by decide
  intro b hb
  have := hlow b hb
  omega

/-- A domain's status word is no lock register. -/
theorem lock_ne_dstat (n : Nat) : ∀ b < 8, lockAddr b ≠ A.PWR_DSTAT n := by
  have hplace : ∀ b < 8, lockAddr b < 0x41004 ∨ lockAddr b % 16 = 12 := by decide
  intro b hb
  have := hplace b hb
  simp only [A.PWR_DSTAT]
  omega

namespace WarmKept

theorem refl (d : Device) : WarmKept d d := ⟨rfl, rfl, rfl, rfl, rfl, rfl, fun _ _ => rfl⟩

theorem trans {d e f : Device} (h : WarmKept d e) (k : WarmKept e f) : WarmKept d f :=
  ⟨k.time.trans h.time, k.memOut.trans h.memOut, k.mbx.trans h.mbx, k.stalled.trans h.stalled, k.cmdWaits.trans h.cmdWaits,
    k.cmdRecs.trans h.cmdRecs, fun b hb => (k.locks b hb).trans (h.locks b hb)⟩

/-- A word that is no lock register. -/
theorem of_wr (d : Device) (a v : Nat) (h : ∀ b < 8, lockAddr b ≠ a) : WarmKept d (d.wr a v) :=
  ⟨rfl, rfl, rfl, rfl, rfl, rfl, fun b hb => rd_wr_ne d a v _ (h b hb)⟩

theorem of_set (d : Device) (l : Loc) (v : Nat) (h : ∀ b < 8, lockAddr b ≠ l.addr) : WarmKept d (d.set l v) := of_wr d _ _ h

theorem of_log (d : Device) (isle sev cls src code : Nat) (items : List (Nat × Nat)) (h : isle < 16) :
    WarmKept d (d.log isle sev cls src code items) := by
  have hlog := log_tally d isle sev cls src code items h
  refine ⟨hlog.keep _ fun _ _ _ _ _ => rfl, hlog.memOut, hlog.keep _ fun _ _ _ _ _ => rfl, hlog.keep _ fun _ _ _ _ _ => rfl,
    hlog.keep _ fun _ _ _ _ _ => rfl, hlog.keep _ fun _ _ _ _ _ => rfl, fun b hb => ?_⟩
  obtain ⟨-, -, -, hplace, -⟩ := lockAddr_place b hb
  exact LogOnly.of_log d sev cls src code items h _ hplace

theorem of_event (d : Device) (l : Loc) (isle cls src reg sev : Nat) (items : List (Nat × Nat)) (h : isle < 16)
    (hl : ∀ b < 8, lockAddr b ≠ l.addr) : WarmKept d (d.event l isle cls src reg sev items) :=
  (of_set d l 1 hl).trans (of_log _ _ _ _ _ _ _ h)

theorem of_when (b : Bool) {f : Device → Device} (d : Device) (hf : WarmKept d (f d)) : WarmKept d (d.when b f) := by
  unfold Device.when
  split
  · exact hf
  · exact refl d

theorem of_foldl {β : Type} (f : Device → β → Device) (hf : ∀ d x, WarmKept d (f d x)) (l : List β) (d : Device) :
    WarmKept d (l.foldl f d) := by
  induction l generalizing d with
  | nil => exact refl d
  | cons x l ih => exact (hf d x).trans (ih _)

/-! ## The steps of the reset -/

theorem of_thermStands (old d : Device) : WarmKept d (thermStands old d) := of_when _ _ (of_set _ _ _ (by decide))

theorem of_resetRecord (d : Device) : WarmKept d (resetRecord d) := of_log _ _ _ _ _ _ _ (by decide)

theorem of_setVstate (v : Nat) (d : Device) : WarmKept d (setVstate v d) := by
  unfold setVstate
  dsimp only
  split
  · exact refl d
  · exact (of_set _ _ _ (by decide)).trans (of_log _ _ _ _ _ _ _ (by decide))

theorem of_timeHold (d : Device) : WarmKept d (timeHold d) := by
  unfold timeHold
  split
  · exact of_setVstate 3 d
  · exact refl d

theorem of_monReset (old d : Device) : WarmKept d (monReset old d) := ⟨rfl, rfl, rfl, rfl, rfl, rfl, fun _ _ => rfl⟩

theorem of_laneKeep (old d : Device) : WarmKept d (laneKeep old d) := by
  unfold laneKeep
  dsimp only
  split <;> exact ⟨rfl, rfl, rfl, rfl, rfl, rfl, fun _ _ => rfl⟩

theorem of_clkWarm (old d : Device) : WarmKept d (clkWarm old d) := by
  have hclk : ∀ e : Device, WarmKept e { e with clk := { old.clk with outs := 0, auxHeld := false }, block := old.block } :=
    fun _ => ⟨rfl, rfl, rfl, rfl, rfl, rfl, fun _ _ => rfl⟩
  exact (of_wr d A.CLK_STAT _ (by decide)).trans ((of_wr _ A.CLK_MDLL _ (by decide)).trans
    ((of_set _ L.CLK_AUX_APPLIED_APPLIED _ (by decide)).trans ((hclk _).trans (of_laneKeep old _))))

theorem of_setDom (n st : Nat) (d : Device) : WarmKept d (setDom n st d) := of_set d _ _ (lock_ne_dstat n)

theorem of_domainsBoot (d : Device) : WarmKept d (domainsBoot d) := of_foldl _ (fun d n => by
  split
  · exact refl d
  · exact of_setDom n 1 d) _ d

/-! ## A takeover of a spare that the reset completes -/

theorem of_setRx (n : Nat) (c : RxCtl) (d : Device) : WarmKept d (d.setRx n c) := ⟨rfl, rfl, rfl, rfl, rfl, rfl, fun _ _ => rfl⟩

/-- The event word of a converter is no lock register. -/
theorem of_rxEvent {l : Nat → Loc} {n : Nat} (sev : Nat) (d : Device) (hl : (l n).addr = A.RXADC_EVENT n) :
    WarmKept d (d.rxEvent l n sev) :=
  of_event _ _ _ _ _ _ _ _ (by decide) (by rw [hl]; exact lock_ne_converter (by simp only [A.RXADC_EVENT]; omega))

theorem of_rxFaultEvents (n : Nat) (subst : Bool) (d : Device) : WarmKept d (rxFaultEvents n subst d) := by
  have hstat : ∀ (e : Device) (l : Loc) v, l.addr = A.RXADC_STAT n → WarmKept e (e.set l v) := fun e l v hl =>
    of_set e l v (by rw [hl]; exact lock_ne_converter (by simp only [A.RXADC_STAT]; omega))
  exact (hstat d (L.RXADC_STAT_SPARE n) 15 rfl).trans ((hstat _ (L.RXADC_STAT_REDUND n) 0 rfl).trans
    ((of_rxEvent 3 _ rfl).trans ((of_when _ _ (of_rxEvent 3 _ rfl)).trans (of_rxEvent 4 _ rfl))))

/-- A takeover completed: the converter's control, its map, the report of its last fault, and its events. -/
theorem rxTakeover_some {n p : Nat} (count : Nat) {d : Device} (h : (d.rxc n).takeover = some p) : ∃ c₁ c₂ c₃ map mine, rxTakeover n count d =
    rxFaultEvents n true (((((d.setRx n c₁).setRx n c₂).setRx n c₃).wr (A.RXADC_MAP n) map).when mine
      fun d => d.set (L.RXADC_FAULT_CONCEALED n) count) := by
  simp only [rxTakeover, h]
  exact ⟨_, _, _, _, _, rfl⟩

theorem of_rxTakeover (n count : Nat) (d : Device) : WarmKept d (rxTakeover n count d) := by
  cases htake : (d.rxc n).takeover with
  | none => simpa only [rxTakeover, htake] using refl d
  | some p =>
    obtain ⟨c₁, c₂, c₃, map, mine, hdone⟩ := rxTakeover_some count htake
    have hmap := fun e : Device => of_wr e (A.RXADC_MAP n) map (lock_ne_converter (by simp only [A.RXADC_MAP]; omega))
    have hfault := fun e : Device =>
      of_set e (L.RXADC_FAULT_CONCEALED n) count (lock_ne_converter (by simp only [L.RXADC_FAULT_CONCEALED, A.RXADC_FAULT]; omega))
    rw [hdone]
    exact (of_setRx n c₁ d).trans ((of_setRx n c₂ _).trans ((of_setRx n c₃ _).trans ((hmap _).trans
      ((of_when mine _ (hfault _)).trans (of_rxFaultEvents n true _)))))

theorem of_rxTakeoverEnd (n : Nat) (d : Device) : WarmKept d (rxTakeoverEnd n d) := by
  refine of_when _ _ ?_
  have hdraw : WarmKept d d.draw.2 := ⟨rfl, rfl, rfl, rfl, rfl, rfl, fun _ _ => rfl⟩
  exact hdraw.trans (of_rxTakeover n _ _)

end WarmKept

/-! ## The registers -/

/-- A warm reset takes a lock register back to its reset word. -/
theorem warmWord_lock {b : Nat} (w : Nat) (hb : b < 8) : warmWord (lockAddr b) w = resetWord (lockAddr b) := by
  have hreset : ∀ b < 8, resetWord (lockAddr b) = 0 := by decide +kernel
  have hretained : retainedBits (lockName b) = 0 := by unfold lockName; split <;> rfl
  have hkeep : stickyBits (lockRow b).fields ||| retainedBits (lockRow b).name = 0 := by
    show 0 ||| retainedBits (lockName b) = 0
    rw [hretained]; rfl
  rw [warmWord, regAt_lock b hb]
  simp only [hkeep, hreset b hb, Nat.and_zero, Nat.zero_and, Nat.or_zero]

/-- A register that a warm reset takes back to its reset word is no more in the file. -/
theorem warmRegs_dropped {a : Nat} (t : List (Nat × Word)) (hreg : (regAt a).isSome = true) (h : ∀ w, warmWord a w = resetWord a) :
    tabGet? (warmRegs t) a = none := by
  induction t with
  | nil => rfl
  | cons x t ih =>
    obtain ⟨c, w⟩ := x
    by_cases hc : c = a
    · subst hc
      simpa [warmRegs, hreg, h] using ih
    · rw [warmRegs]
      split
      · exact ih
      · simpa [tabGet?, hc] using ih

/-- The device of a warm reset with its registers reset, and what the reset keeps beside them, but for network time (R505). -/
def warmBlank (cause : Nat) (old : Device) : Device := { Device.reset with
  regs := warmRegs old.regs
  ticks := old.ticks, drawn := old.drawn
  rx := old.rx.map fun x => (x.1, rxKept x.2)
  tx := old.tx.map fun x => (x.1, txKept x.2)
  tally := { Device.reset.tally with
    kept := old.tally.kept, clocks := old.tally.clocks, epoch := old.tally.epoch, merged := old.tally.epoch, bufs := [] }
  delivered := old.delivered, msixPend := old.msixPend, otpBurns := old.otpBurns, flashTakes := old.flashTakes
  fixedVoltage := old.fixedVoltage, voltOffset := old.voltOffset
  fnAdd := old.fnAdd
  boot := { old.boot with
    fabricReady := false, cands := [], version := 0
    staged := if cause = 5 then old.boot.staged else none
    bootStaged := cause = 5 && old.boot.staged.isSome } }

/-- The steps of a warm reset that is no wake from S3. -/
theorem warmReset_steps {cause : Nat} (old : Device) (h7 : cause ≠ 7) : warmReset cause old =
    ((List.range 24).foldl (fun d n => if !neverOff n && d.votes n ≠ 0 && old.domState n = 2 then setDom n 2 d else d)
      (domainsBoot (clkWarm old (monReset old (timeHold (resetRecord
        ((thermStands old (timeWarm old (warmBlank cause old))).set L.BOOT_RCAUSE_CAUSE cause))))))).each 72 rxTakeoverEnd := by
  have hs3 : (cause == 7) = false := by simpa using h7
  simp only [warmReset, hs3, Bool.false_eq_true, if_false]
  rfl

/-- Network time through a warm reset: the counter stays, and no lock is written. -/
theorem timeWarm_kept (old d : Device) : WarmKept { d with time := old.time } (timeWarm old d) := by
  have hkeep : ∀ (e : Device) (l : Loc), (∀ b < 8, lockAddr b ≠ l.addr) → WarmKept e (e.set l (old.get l)) := fun e l h => .of_set e l _ h
  have htime : WarmKept { d with time := old.time } { d with
      time := old.time, tickRuns := old.tickRuns, ets := []
      tctl := { old.tctl with tcap := [], pulses := [], calN := 0, setPend := none, adjPend := none, incPend := none } } :=
    ⟨rfl, rfl, rfl, rfl, rfl, rfl, fun _ _ => rfl⟩
  exact htime.trans ((hkeep _ L.TIME_CFG_FN_ADD (by decide)).trans ((hkeep _ L.TIME_FRAME_FOFF (by decide)).trans
    ((hkeep _ L.TIME_UNC_UNC (by decide)).trans ((hkeep _ L.TIME_INC_W1_NS (by decide)).trans ((hkeep _ L.TIME_INC_W0_FRAC (by decide)).trans
    ((hkeep _ L.TIME_STAT_VSTATE (by decide)).trans ((hkeep _ L.EMB_PERIOD_W1_NS (by decide)).trans
    (hkeep _ L.EMB_PERIOD_W0_FRAC (by decide)))))))))

/-- The domains that were on are on again. -/
theorem domainsOn_kept (old d : Device) : WarmKept d
    ((List.range 24).foldl (fun d n => if !neverOff n && d.votes n ≠ 0 && old.domState n = 2 then setDom n 2 d else d) d) :=
  .of_foldl _ (fun d n => by
    split
    · exact .of_setDom n 2 d
    · exact .refl d) _ d

/-- A warm reset without a wake from S3 keeps network time, and leaves the locks as its registers' reset does. -/
theorem warmReset_kept {cause : Nat} (old : Device) (h7 : cause ≠ 7) :
    WarmKept { warmBlank cause old with time := old.time } (warmReset cause old) := by
  rw [warmReset_steps old h7]
  exact (timeWarm_kept old _).trans ((WarmKept.of_thermStands _ _).trans ((WarmKept.of_set _ _ _ (by decide)).trans
    ((WarmKept.of_resetRecord _).trans ((WarmKept.of_timeHold _).trans ((WarmKept.of_monReset _ _).trans ((WarmKept.of_clkWarm _ _).trans
    ((WarmKept.of_domainsBoot _).trans ((domainsOn_kept old _).trans
    (.of_foldl _ (fun d n => .of_rxTakeoverEnd n d) _ _)))))))))

/-- After the registers' reset a lock register is at its reset word, which is 0. -/
theorem lock_after_warmRegs {d : Device} {regs : List (Nat × Word)} {b : Nat} (hb : b < 8) (h : d.regs = warmRegs regs) :
    bitsOf (d.rd (lockAddr b)) 0 1 = 0 := by
  have hreset : ∀ b < 8, bitsOf (resetWord (lockAddr b)) 0 1 = 0 := by decide +kernel
  have hnone : tabGet? d.regs (lockAddr b) = none := by
    rw [h]
    exact warmRegs_dropped regs (by rw [regAt_lock b hb]; rfl) fun w => warmWord_lock w hb
  rw [Device.rd, hnone]
  exact hreset b hb

/-- Settles O36: the steps of the reset keep what `WarmKept` names of a device whose registers, mailbox and commands are reset. -/
theorem warmResetForgets : Obligations.WarmResetForgets := by
  unfold Obligations.WarmResetForgets
  intro cause s hwf hs
  have h7 : cause ≠ 7 := by
    simp only [Instr.wf, Bool.and_eq_true, decide_eq_true_eq] at hwf
    omega
  have hkept := warmReset_kept s.dev h7
  refine ⟨_, actDev_onDevice (warmReset cause) hwf hs rfl hkept.memOut, hkept.time, fun _ => rfl, hkept.mbx, hkept.stalled,
    hkept.cmdWaits, hkept.cmdRecs, fun b hb => ?_, rfl⟩
  dsimp only
  rw [hkept.locks b hb]
  exact lock_after_warmRegs (regs := s.dev.regs) hb rfl

end Sys2Proof.Proofs
end
